-- ==== Sys2Proof/Word.lean ====
section
/-! DEFINITION. The names the book gives to screens, projectors, circuits, ports and lines (00, Numbering), the byte
and the booth time as bit vectors, tables with one entry per name, and the operand records of the commands. -/

namespace Sys2Proof

/-- A byte of a station line (R153). -/
abbrev Byte := BitVec 8

/-- Booth time, a 24 bit count of tenths of a second (R166). -/
abbrev BoothTime := BitVec 24

/-! ## Names -/

/-- Screens and auditoria 1 to 4 (00, Numbering). -/
inductive Screen where
  | n1 | n2 | n3 | n4
  deriving DecidableEq, Repr

/-- The two projectors nA and nB of a screen. -/
inductive Side where
  | a | b
  deriving DecidableEq, Repr

/-- A projector, and the lamp that bears its name (00, Numbering). -/
structure Proj where
  screen : Screen
  side : Side
  deriving DecidableEq, Repr

/-- The five station lines (R153). -/
inductive Line where
  | screen (n : Screen)
  | house
  deriving DecidableEq, Repr

/-- The two dimmer circuits nH and nS of an auditorium. -/
inductive CircKind where
  | house | aisle
  deriving DecidableEq, Repr

/-- A dimmer circuit (00, Numbering). -/
structure Circ where
  screen : Screen
  kind : CircKind
  deriving DecidableEq, Repr

/-- The three port shutters nPA, nPB and nPO of a screen. -/
inductive PortKind where
  | a | b | o
  deriving DecidableEq, Repr

/-- A port shutter (00, Numbering). -/
structure Port where
  screen : Screen
  kind : PortKind
  deriving DecidableEq, Repr

/-- The four fire sources that follow a field input (R139). -/
inductive FireInput where
  | heat1 | heat2 | panel | link
  deriving DecidableEq, Repr

def Screen.all : List Screen := [.n1, .n2, .n3, .n4]

def Side.all : List Side := [.a, .b]

/-- The projectors in the order 1A, 1B, 2A and so on to 4B (R117, R164). -/
def Proj.all : List Proj :=
  [⟨.n1, .a⟩, ⟨.n1, .b⟩, ⟨.n2, .a⟩, ⟨.n2, .b⟩, ⟨.n3, .a⟩, ⟨.n3, .b⟩, ⟨.n4, .a⟩, ⟨.n4, .b⟩]

/-- The circuits in the order 1H, 1S, 2H and so on to 4S (R164). -/
def Circ.all : List Circ :=
  [⟨.n1, .house⟩, ⟨.n1, .aisle⟩, ⟨.n2, .house⟩, ⟨.n2, .aisle⟩, ⟨.n3, .house⟩, ⟨.n3, .aisle⟩, ⟨.n4, .house⟩, ⟨.n4, .aisle⟩]

def Port.all : List Port :=
  [⟨.n1, .a⟩, ⟨.n1, .b⟩, ⟨.n1, .o⟩, ⟨.n2, .a⟩, ⟨.n2, .b⟩, ⟨.n2, .o⟩,
   ⟨.n3, .a⟩, ⟨.n3, .b⟩, ⟨.n3, .o⟩, ⟨.n4, .a⟩, ⟨.n4, .b⟩, ⟨.n4, .o⟩]

def Line.all : List Line := [.screen .n1, .screen .n2, .screen .n3, .screen .n4, .house]

def Side.other : Side → Side
  | .a => .b
  | .b => .a

/-- The other projector of the same screen. -/
def Proj.other (p : Proj) : Proj := ⟨p.screen, p.side.other⟩

/-! ## Tables: one entry per name -/

/-- One entry per screen. -/
structure Quad (α : Type) where
  n1 : α
  n2 : α
  n3 : α
  n4 : α
  deriving DecidableEq, Repr

/-- One entry per side of a screen. -/
structure Pair (α : Type) where
  a : α
  b : α
  deriving DecidableEq, Repr

/-- One entry per circuit of an auditorium. -/
structure Duo (α : Type) where
  house : α
  aisle : α
  deriving DecidableEq, Repr

/-- One entry per port of a screen. -/
structure Trio (α : Type) where
  a : α
  b : α
  o : α
  deriving DecidableEq, Repr

/-- One entry per station line. -/
structure PerLine (α : Type) where
  screens : Quad α
  house : α
  deriving DecidableEq, Repr

namespace Quad

def get {α : Type} (t : Quad α) : Screen → α
  | .n1 => t.n1
  | .n2 => t.n2
  | .n3 => t.n3
  | .n4 => t.n4

def set {α : Type} (t : Quad α) (n : Screen) (v : α) : Quad α :=
  match n with
  | .n1 => { t with n1 := v }
  | .n2 => { t with n2 := v }
  | .n3 => { t with n3 := v }
  | .n4 => { t with n4 := v }

def fill {α : Type} (v : α) : Quad α := ⟨v, v, v, v⟩

def map {α β : Type} (f : α → β) (t : Quad α) : Quad β := ⟨f t.n1, f t.n2, f t.n3, f t.n4⟩

end Quad

namespace Pair

def get {α : Type} (t : Pair α) : Side → α
  | .a => t.a
  | .b => t.b

def set {α : Type} (t : Pair α) (x : Side) (v : α) : Pair α :=
  match x with
  | .a => { t with a := v }
  | .b => { t with b := v }

def fill {α : Type} (v : α) : Pair α := ⟨v, v⟩

def map {α β : Type} (f : α → β) (t : Pair α) : Pair β := ⟨f t.a, f t.b⟩

end Pair

namespace Duo

def get {α : Type} (t : Duo α) : CircKind → α
  | .house => t.house
  | .aisle => t.aisle

def set {α : Type} (t : Duo α) (k : CircKind) (v : α) : Duo α :=
  match k with
  | .house => { t with house := v }
  | .aisle => { t with aisle := v }

def fill {α : Type} (v : α) : Duo α := ⟨v, v⟩

def map {α β : Type} (f : α → β) (t : Duo α) : Duo β := ⟨f t.house, f t.aisle⟩

end Duo

namespace Trio

def get {α : Type} (t : Trio α) : PortKind → α
  | .a => t.a
  | .b => t.b
  | .o => t.o

def set {α : Type} (t : Trio α) (k : PortKind) (v : α) : Trio α :=
  match k with
  | .a => { t with a := v }
  | .b => { t with b := v }
  | .o => { t with o := v }

def fill {α : Type} (v : α) : Trio α := ⟨v, v, v⟩

end Trio

namespace PerLine

def get {α : Type} (t : PerLine α) : Line → α
  | .screen n => t.screens.get n
  | .house => t.house

def set {α : Type} (t : PerLine α) (l : Line) (v : α) : PerLine α :=
  match l with
  | .screen n => { t with screens := t.screens.set n v }
  | .house => { t with house := v }

def fill {α : Type} (v : α) : PerLine α := ⟨Quad.fill v, v⟩

end PerLine

/-- One entry per projector or lamp. -/
abbrev PerProj (α : Type) := Quad (Pair α)

/-- One entry per dimmer circuit. -/
abbrev PerCirc (α : Type) := Quad (Duo α)

/-- One entry per port shutter. -/
abbrev PerPort (α : Type) := Quad (Trio α)

/-! ## Operand records of the commands: numbers as the wire spells them, valid or not -/

/-- A light mark as STORE REEL spells it (R164): fade kind 0 for TIME, 1 for FILM. -/
structure RawMark where
  frame : Nat
  scene : Nat
  kind : Nat
  count : Nat
  deriving DecidableEq, Repr

/-- The fields of R1 but the owner, and the marks of R3, as STORE REEL spells them (R164, R165). -/
structure ReelFields where
  label : List Nat
  format : Nat
  length : Nat
  head : Nat
  tail : Nat
  lead : Nat
  motorLead : Nat
  mode : Nat
  window : Nat
  overridePresent : Nat
  overrideValue : Nat
  marks : List RawMark
  deriving DecidableEq, Repr

/-- A program item as STORE PROGRAM spells it (R164): kind 0 for REEL with a slot and a zero, 1 for INTERVAL with
minutes and a scene. -/
structure RawItem where
  kind : Nat
  first : Nat
  second : Nat
  deriving DecidableEq, Repr

/-- One point of the burn table (R74). -/
structure BurnPoint where
  current : Nat
  rate : Nat
  deriving DecidableEq, Repr

/-- The burn table's four points (R74, R98). -/
structure BurnTable where
  p1 : BurnPoint
  p2 : BurnPoint
  p3 : BurnPoint
  p4 : BurnPoint
  deriving DecidableEq, Repr

/-- A lamp's settings record (R74), also the operand of SET LAMP. -/
structure LampSettings where
  run : Nat
  standby : Nat
  setpoint : Nat
  band : Nat
  gain : Nat
  warm : Nat
  minWarm : Nat
  quenchDelay : Nat
  margin : Nat
  burn : BurnTable
  deriving DecidableEq, Repr

/-- The two forms of LIGHTS (R134). -/
inductive LightsForm where
  | scene (scene : Nat)
  | levels (house aisle fade : Nat)
  deriving DecidableEq, Repr

/-- The four booth motion settings (R38), also the operand of SET MOTION. -/
structure MotionSettings where
  gateThreshold : Nat
  runupLimit : Nat
  breakWindow : Nat
  persistence : Nat
  deriving DecidableEq, Repr

/-- What the first latch board scan delivers (R151, R170). -/
structure ScanInputs where
  heat1 : Bool
  heat2 : Bool
  panel : Bool
  link : Bool
  flames : PerProj Bool
  ups : PerPort Bool
  currents : PerProj Nat
  voltages : PerProj Nat
  deriving DecidableEq, Repr

end Sys2Proof
end

