-- ==== Sys2Proof/Syntax.lean ====
section
/-! DEFINITION. The commands: one constructor for each row of spec/opcode_table.json. An order carries the sending line
and its parameters as the numbers its bytes spell (R164, R165), valid or not, since the owning block judges them. -/

namespace Sys2Proof

inductive Instr where
  /-- READ (R162): item code and selector. -/
  | read (line : Line) (item selector : Nat)
  /-- STORE_REEL (R4). -/
  | storeReel (line : Line) (slot owner : Nat) (fields : ReelFields)
  /-- DELETE_REEL (R6). -/
  | deleteReel (line : Line) (slot : Nat)
  /-- STORE_PROGRAM (R7). -/
  | storeProgram (line : Line) (screen : Nat) (items : List RawItem)
  /-- STORE_SCENE (R10). -/
  | storeScene (line : Line) (scene house aisle fade : Nat)
  /-- THREAD (R13): projector code 0 to 7. -/
  | thread (line : Line) (projector slot : Nat)
  /-- UNTHREAD (R15). -/
  | unthread (line : Line) (projector : Nat)
  /-- OPEN (R43). -/
  | openScreen (line : Line) (screen : Nat)
  /-- START (R45). -/
  | start (line : Line) (screen : Nat)
  /-- STOP (R51). -/
  | stop (line : Line) (screen : Nat)
  /-- CLOSE (R44). -/
  | close (line : Line) (screen : Nat)
  /-- RESUME (R70). -/
  | resume (line : Line) (screen : Nat)
  /-- CHANGE_NOW (R64). -/
  | changeNow (line : Line) (screen : Nat)
  /-- SET_LAMP (R74). -/
  | setLamp (line : Line) (lamp : Nat) (settings : LampSettings)
  /-- STRIKE (R79): lamp code and RUN flag. -/
  | strike (line : Line) (lamp run : Nat)
  /-- QUENCH (R91). -/
  | quench (line : Line) (lamp : Nat)
  /-- TRIM (R93). -/
  | trim (line : Line) (lamp length : Nat)
  /-- SET_CAPACITY (R108). -/
  | setCapacity (line : Line) (cap : Nat)
  /-- SET_SURGE (R109). -/
  | setSurge (line : Line) (surge : Nat)
  /-- SET_RECLAIM (R109). -/
  | setReclaim (line : Line) (lead gap : Nat)
  /-- LIGHTS (R134): auditorium 0 for ALL. -/
  | lights (line : Line) (auditorium : Nat) (form : LightsForm)
  /-- LIGHTS_RELEASE (R135): auditorium 0 for ALL. -/
  | lightsRelease (line : Line) (auditorium : Nat)
  /-- SET_FLOOR (R133). -/
  | setFloor (line : Line) (level : Nat)
  /-- SET_REST (R136): circuit code 0 to 7. -/
  | setRest (line : Line) (circuit level : Nat)
  /-- SET_MOTION (R38). -/
  | setMotion (line : Line) (settings : MotionSettings)
  /-- FIRE_ASSERT (R140). -/
  | fireAssert (line : Line)
  /-- FIRE_RELEASE (R140). -/
  | fireRelease (line : Line)
  /-- CLEAR_FIRE (R143). -/
  | clearFire (line : Line)
  /-- REHANG (R149). -/
  | rehang (line : Line) (screen : Nat)
  /-- UNKNOWN_ORDER (R157): a sound message whose kind code is not an order code. -/
  | unknownOrder (line : Line) (kind : Nat)
  /-- FRAME_RECEIVED (R153): the bytes that came on the line. -/
  | frameReceived (line : Line) (bytes : List Byte)
  /-- FRAME_TIME_LIMIT (R154). -/
  | frameTimeLimit (line : Line)
  /-- GAP_TIME_LIMIT (R154). -/
  | gapTimeLimit (line : Line)
  /-- LINE_BREAK (R155). -/
  | lineBreak (line : Line)
  /-- MESSAGE_SENT (R161). -/
  | messageSent (line : Line)
  /-- PERFORATION_PULSE (R22). -/
  | perforationPulse (projector : Proj)
  /-- CUE_PULSE (R35). -/
  | cuePulse (projector : Proj)
  /-- BREAK_WINDOW (R31). -/
  | breakWindow (projector : Proj)
  /-- COAST_LIMIT (R32). -/
  | coastLimit (projector : Proj)
  /-- RUNUP_LIMIT (R29). -/
  | runupLimit (projector : Proj)
  /-- INTERVAL_EXPIRY (R49). -/
  | intervalExpiry (screen : Screen)
  /-- TOUCH_SAMPLE (R80): the current sample in half-amperes. -/
  | touchSample (lamp : Proj) (sample : Nat)
  /-- DRAW_END (R81): the current sample in half-amperes. -/
  | drawEnd (lamp : Proj) (sample : Nat)
  /-- COOL_OFF_END (R82). -/
  | coolOffEnd (lamp : Proj)
  /-- REGULATION (R83): the voltage sample in half-volts. -/
  | regulation (lamp : Proj) (sample : Nat)
  /-- FEED_STEP (R84). -/
  | feedStep (lamp : Proj)
  /-- CURRENT_SAMPLE (R86): the current sample in half-amperes. -/
  | currentSample (lamp : Proj) (sample : Nat)
  /-- QUENCH_DUE (R89). -/
  | quenchDue (lamp : Proj)
  /-- QUENCHING_END (R90). -/
  | quenchingEnd (lamp : Proj)
  /-- LIT_INTERVAL_FORECAST (R104). -/
  | litIntervalForecast (lamp : Proj)
  /-- LEAD_POINT (R117). -/
  | leadPoint
  /-- STRIKE_LATE (R119). -/
  | strikeLate (lamp : Proj)
  /-- BOOTH_TIME_ADVANCE (R166). -/
  | boothTimeAdvance
  /-- FIRE_SOURCE_INPUT (R139): the input and its new level. -/
  | fireSourceInput (source : FireInput) (active : Bool)
  /-- GATE_FLAME_RISE (R145). -/
  | gateFlameRise (projector : Proj)
  /-- GATE_FLAME_FALL (R146). -/
  | gateFlameFall (projector : Proj)
  /-- PERSISTENCE (R146). -/
  | persistence (projector : Proj)
  /-- UP_SWITCH_CHANGE (R148): the port and its new report, up or down. -/
  | upSwitchChange (port : Port) (up : Bool)
  /-- SGOOD_FALL (R169): with VSB present or absent. -/
  | sgoodFall (vsb : Bool)
  /-- SGOOD_RISE (R170): with VSB present or absent. -/
  | sgoodRise (vsb : Bool)
  /-- VSB_LOSS (R169). -/
  | vsbLoss
  /-- PANEL_RESET (R170). -/
  | panelReset
  /-- RESET_FALL (R170). -/
  | resetFall
  /-- FIRST_SCAN (R151). -/
  | firstScan (inputs : ScanInputs)
  /-- BYTE_ERROR (R153): a byte with its stop bit found spacing, or a byte other than 7Eh in GAP. -/
  | byteError (line : Line)
  deriving DecidableEq, Repr

end Sys2Proof
end

