-- ==== Sys2Proof/Config.lean ====
section
/-! DEFINITION. What the book leaves open and the model fixes by one named value, each with its log entry. The part has
no implementation-defined choice of its own, and no command writes an unstated value, so there is no free value here. -/

namespace Sys2Proof

/-- DESIGN CHOICE (log 9, unsafe): the level of every field input between a reset and the first scan. -/
def Config.inputBeforeScan : Bool := false

/-- DESIGN CHOICE (log 9, unsafe): the last samples of a lamp between a reset and the first scan. -/
def Config.sampleBeforeScan : Nat := 0

/-- DESIGN CHOICE (log 10, unsafe): where the stamp timer stands after a reset. -/
def Config.stampAtReset : Nat := 0

/-- DESIGN CHOICE (log 10, safe: no rule reads the count itself): where the free-running stamp timer wraps. -/
def Config.stampWrap : Nat := 65536

end Sys2Proof
end

