-- ==== Sys2Proof/Machine/State.lean ====
section
/-! DEFINITION. Every piece of state the book gives the controller, block by block, and the state right after a
power-on reset. The fields are listed, with their rules and reset values, in INVENTORY.md under State. -/

namespace Sys2Proof.Machine

/-! ## How a step can stop -/

/-- Faults: the part has none (log 21). No command raises one; the type is empty, which is safe. -/
inductive Fault where
  deriving DecidableEq, Repr

/-- Refusals of the MODEL (the part's own REFUSED reply is state, not a refusal of a step). -/
inductive Refusal where
  /-- Raised by an arm of `exec` that has no meaning yet, with the row's mnemonic. No arm raises it now; safe. -/
  | notModelled (mnemonic : String)
  deriving DecidableEq, Repr

/-! ## Reel Store (chapter 1) -/

/-- Film gauge (R1), in the order of the rule's list. -/
inductive Format where
  | f35 | f70
  deriving DecidableEq, Repr

/-- Cue mode (R1), in the order of the rule's list. -/
inductive CueMode where
  | count | sense | checked
  deriving DecidableEq, Repr

/-- A light mark's fade kind (R3). -/
inductive MarkFade where
  | time
  | film (frames : Nat)
  deriving DecidableEq, Repr

/-- A light mark (R3). -/
structure LightMark where
  frame : Nat
  scene : Nat
  fade : MarkFade
  deriving DecidableEq, Repr

/-- A reel record (R1). The computed frames of R2 are functions of it. -/
structure ReelRecord where
  label : List Nat
  owner : Screen
  format : Format
  length : Nat
  head : Nat
  tail : Nat
  lead : Nat
  motorLead : Nat
  mode : CueMode
  window : Nat
  override : Option Nat
  marks : List LightMark
  deriving DecidableEq, Repr

/-- A program item (R7). -/
inductive ProgItem where
  | reel (slot : Nat)
  | interval (minutes scene : Nat)
  deriving DecidableEq, Repr

/-- A scene (R10): levels in percent, fade in tenths of a second. -/
structure Scene where
  house : Nat
  aisle : Nat
  fade : Nat
  deriving DecidableEq, Repr

/-- A VALID reel context (R12); an EMPTY one is `none`. -/
structure Context where
  slot : Nat
  reel : ReelRecord
  committed : Bool
  stale : Bool
  deriving DecidableEq, Repr

/-! ## Film Motion Unit (chapter 2) -/

/-- Motion states (R21), in the order of the rule's list. -/
inductive Motion where
  | still | runup | atSpeed | offSpeed | stoppedBreak | stoppedStall | runout
  deriving DecidableEq, Repr

/-- A channel (R21). The speed and gate permission are functions of the ring and of the threshold. -/
structure Channel where
  phase : Nat
  frames : Nat
  age : Nat
  reference : Bool
  /-- Oldest first (R25). -/
  ring : List Nat
  motion : Motion
  /-- Booth ticks run, when running (R28, R166). -/
  runup : Option Nat
  lastCue : Option Nat
  bounce : Nat
  deriving DecidableEq, Repr

/-! ## Show Sequencer (chapter 3) -/

/-- Show states (R40), in the order of the rule's list. -/
inductive Show where
  | closed | ready | showing | interval | halted | ended
  deriving DecidableEq, Repr

/-- Where a run-off began (R41): a closing (R48), a switch (R61), a missed changeover (R62), a RESUME after one (R70). -/
inductive RunOffFrom where
  | closing | switched | missed | resumed
  deriving DecidableEq, Repr

/-- Roles of a projector (R41). -/
inductive Role where
  | idle | starting | active | incoming
  | runOff (began : RunOffFrom)
  deriving DecidableEq, Repr

inductive StartKind where
  | start | interval | resume
  deriving DecidableEq, Repr

inductive StartPhase where
  | strikeWait | runWait
  deriving DecidableEq, Repr

/-- The start record (R40, R46); frozen by a halt (R67). -/
structure StartRec where
  side : Side
  kind : StartKind
  phase : StartPhase
  frozen : Bool
  deriving DecidableEq, Repr

/-- Halt reasons (R40), in the order of the rule's list after "none". -/
inductive HaltReason where
  | filmBreak | stall | missedChangeover | strikeFailed | arcOutTwice | portDown | fire | localFire
  deriving DecidableEq, Repr

/-- Dowser demand (R40). -/
inductive Demand where
  | clear | set | relightHold
  deriving DecidableEq, Repr

/-- Sound select (R40). -/
inductive Sound where
  | muted | a | b
  deriving DecidableEq, Repr

/-- States of a changeover record other than NONE (R52), in the order of the rule's list. -/
inductive RecState where
  | armed | lampWait | warm | rolling | ready | switched | missed
  deriving DecidableEq, Repr

/-- How a cue was taken (R52), in the order of the rule's list. -/
inductive CueHow where
  | count | sensor | checkMismatch | order
  deriving DecidableEq, Repr

/-- A cue as taken: the way and the frame. -/
structure CueTake where
  how : CueHow
  frame : Nat
  deriving DecidableEq, Repr

/-- The changeover record out of NONE (R52). The outgoing projector is the other one than the incoming. -/
structure Changeover where
  st : RecState
  incoming : Side
  xmc : Nat
  xco : Nat
  strikePoint : Int
  deadline : Option BoothTime
  motorCue : Option CueTake
  changeCue : Option CueTake
  motorPulse : Bool
  changePulse : Bool
  stray : Nat
  offset : Option Int
  unavailable : Bool
  restartHeld : Bool
  deriving DecidableEq, Repr

/-- One Show Sequencer (R40). -/
structure Sequencer where
  showState : Show
  pointer : Nat
  roles : Pair Role
  startRec : Option StartRec
  interval : Option Nat
  reelPending : Bool
  haltReason : Option HaltReason
  haltedFrom : Option Show
  /-- The restart projector (R67). -/
  restart : Option Side
  /-- The first halt was MISSED CHANGEOVER and its roles are not yet swapped (R70). -/
  firstMissed : Bool
  motor : Pair Bool
  demand : Pair Demand
  sound : Sound
  /-- `none` is NONE (R52). -/
  changeover : Option Changeover
  deriving DecidableEq, Repr

/-! ## Lamp Controller (chapters 4 and 5) -/

/-- Lamp states (R73), in the order of the rule's list. -/
inductive LampState where
  | dark | queued | striking | standby | running | quenching | fault
  deriving DecidableEq, Repr

/-- Strike targets (R73). -/
inductive Target where
  | standby | running
  deriving DecidableEq, Repr

/-- Strike phases (R73). -/
inductive StrikePhase where
  | touch | draw | coolOff
  deriving DecidableEq, Repr

/-- Fault causes (R73), in the order of the rule's list after "none". -/
inductive FaultCause where
  | noArc | noDraw | noCarbon | arcOutTwice
  deriving DecidableEq, Repr

/-- The warm choice (R99). -/
inductive WarmChoice where
  | full | economy
  deriving DecidableEq, Repr

/-- The items of a forecast other than its verdict (R99). -/
structure Figures where
  madeAt : BoothTime
  standbySeconds : Nat
  standbyCurrent : Nat
  runSeconds : Nat
  runCurrent : Nat
  choice : WarmChoice
  need : Nat
  available : Int
  spare : Int
  deriving DecidableEq, Repr

/-- The last forecast (R99): with NONE and NO REEL every other item is absent. -/
inductive Forecast where
  | none
  | noReel
  | enough (f : Figures)
  | short (f : Figures)
  deriving DecidableEq, Repr

/-- One lamp record (R73), with the items the budget keeps for the lamp (R109, R116). -/
structure Lamp where
  st : LampState
  settings : LampSettings
  carbon : Nat
  litCurrent : Option Nat
  /-- A raise of the lit current was held, and is not examined again until the next grant (R76). -/
  held : Bool
  /-- The standby current in force for the current reference (R75, R77). -/
  standbyRef : Nat
  target : Option Target
  phase : Option StrikePhase
  attempts : Nat
  touchSamples : Nat
  pendingFeed : Nat
  lowCount : Nat
  lastArcOut : Option BoothTime
  quenchDue : Option BoothTime
  quenchingEnd : Option BoothTime
  faultCause : Option FaultCause
  lastCurrent : Nat
  lastVoltage : Nat
  forecast : Forecast
  chosenWarm : Nat
  chosenBy : WarmChoice
  /-- Booth ticks of the strike phase (R80 to R82, R166). -/
  strikeTicks : Nat
  /-- Booth ticks of the 100 ms feed interval (R84, R166). -/
  feedTicks : Nat
  /-- Booth ticks of the 60 s lit interval (R104). -/
  forecastTicks : Nat
  /-- The surge fixed at the lamp's grant (R109). -/
  fixedSurge : Nat
  /-- The standing deadline (R116). -/
  standing : Option BoothTime
  deriving DecidableEq, Repr

/-! ## Arc Current Budget (chapter 6) -/

/-- An entry of the strike request queue (R111). -/
structure Entry where
  lamp : Proj
  deadline : BoothTime
  arrival : BitVec 16
  held : Bool
  lateSent : Bool
  deriving DecidableEq, Repr

/-- The budget (R107, R111, R120). -/
structure Budget where
  cap : Nat
  surge : Nat
  lead : Nat
  gap : Nat
  /-- Head first (R111). -/
  queue : List Entry
  nextSeq : BitVec 16
  overdrawn : Bool
  /-- The MODEL's own mark: a cause of R114 has come in the event under way (log 5). -/
  examine : Bool
  /-- The MODEL's own mark: the wait for the head's lead point has acted (R167, log 39). -/
  leadTaken : Bool
  deriving DecidableEq, Repr

/-! ## House Light Unit (chapter 7) -/

/-- A fade description (R126). -/
inductive FadeDesc where
  | time (tenths : Nat)
  | film (frames : Nat) (projector : Proj)
  deriving DecidableEq, Repr

/-- A claim of a class other than FIRE (R126). `fresh` is the MODEL's own mark of a claim placed in the event under
way (R128, log 5). -/
structure Claim where
  target : Nat
  fade : FadeDesc
  fresh : Bool
  deriving DecidableEq, Repr

/-- What governs a circuit (R128), highest class first, REST last. -/
inductive Winner where
  | fire | fault | manual | program | rest
  deriving DecidableEq, Repr

/-- The film part of a running FILM fade (R131). -/
structure FilmFade where
  projector : Proj
  lastFrame : Nat
  marked : Bool
  deriving DecidableEq, Repr

/-- A running fade (R129). -/
structure Fade where
  l0 : Nat
  l1 : Nat
  n : Nat
  k : Nat
  film : Option FilmFade
  deriving DecidableEq, Repr

/-- A circuit record (R125). The FIRE claim is present while a holder is in its set (R127). -/
structure Circuit where
  rest : Nat
  fireBooth : Bool
  fireLocal : Bool
  fault : Option Claim
  manual : Option Claim
  program : Option Claim
  winner : Winner
  fade : Option Fade
  engine : Nat
  deriving DecidableEq, Repr

/-! ## Fire Protection Unit (chapter 8) -/

/-- The ten fire sources (R139), each asserted or clear. -/
structure Sources where
  heat1 : Bool
  heat2 : Bool
  panel : Bool
  link : Bool
  gate : Bool
  lines : PerLine Bool
  deriving DecidableEq, Repr

/-- The name of a fire source (R139). -/
inductive Source where
  | input (i : FireInput)
  | gate
  | line (l : Line)
  deriving DecidableEq, Repr

/-- How a fire record entry was closed (R150), in the order of the rule's list. -/
inductive FireEnd where
  | openEntry | cleared | reset
  deriving DecidableEq, Repr

/-- A fire record entry (R150). -/
structure FireEntry where
  entryTime : BoothTime
  sources : Sources
  clearTime : Option BoothTime
  ended : FireEnd
  deriving DecidableEq, Repr

/-- The Fire Protection Unit (R139 to R151). -/
structure FireUnit where
  on : Bool
  sources : Sources
  marks : Quad Bool
  flames : PerProj Bool
  /-- Booth ticks run, when running (R146). -/
  persist : PerProj (Option Nat)
  holds : PerPort Bool
  ups : PerPort Bool
  /-- Newest first (R150). -/
  record : List FireEntry
  deriving DecidableEq, Repr

/-! ## Station Line Unit (chapter 9) -/

/-- Refusal reasons (R158), in the order of the rule's list. -/
inductive Reason where
  | notOwner | badValue | inUse | notReady | wrongState | lampLit | noCarbon | fire | sourcesActive | noRoom | unknownOrder
  deriving DecidableEq, Repr

/-- Causes of GARBLED (R158), in the order of the rule's list. -/
inductive GarbleCause where
  | time | length | check | byteError | sequence
  deriving DecidableEq, Repr

/-- Replies (R158); an order's kind is its kind code (R165). -/
inductive Reply where
  | done (kind : Nat)
  | accepted (kind : Nat)
  | refused (kind : Nat) (reason : Reason)
  | busy (kind : Nat)
  | garbled (cause : GarbleCause)
  | readData (item selector : Nat) (record : List Byte)
  deriving DecidableEq, Repr

/-- The cue a CUE MISMATCH names (R57). -/
inductive CueName where
  | motor | changeover
  deriving DecidableEq, Repr

/-- The fault an INCOMING FAULT carries (section 3.8). -/
inductive IncomingFault where
  | filmBreak | stall | strikeFailed
  deriving DecidableEq, Repr

/-- Notices (R165) with the fields their owning tables carry. -/
inductive NoticeBody where
  | contextRefreshed (p : Proj) (slot : Nat)
  | contextStale (p : Proj) (slot : Nat)
  | showStarted (p : Proj) (frames : Nat)
  | showResumed (frames : Nat)
  | interval (minutes : Nat)
  | reelNotThreaded (n : Screen)
  | lampUnavailable (n : Screen)
  | programEnded (n : Screen)
  | showStopped (n : Screen)
  | changeover (offset : Int) (motorCue changeCue : Option CueTake)
  | lateChangeover (offset : Int) (motorCue changeCue : Option CueTake)
  | changeoverMissed (n : Screen)
  | cueMismatch (cue : CueName) (frame : Nat)
  | incomingFault (fault : IncomingFault)
  | runOffBreak (n : Screen)
  | screenHalted (reason : HaltReason) (p : Option Proj)
  | lampLit (p : Proj) (running : Bool) (attempts : Nat)
  | strikeRetry (p : Proj) (attempts : Nat) (cause : FaultCause)
  | strikeFailed (p : Proj) (cause : FaultCause)
  | arcOut (p : Proj) (running : Bool) (count : Nat)
  | lampDark (p : Proj)
  | currentHeld (p : Proj) (held wanted : Nat)
  | carbonStub (p : Proj) (carbon : Nat)
  | carbonShort (p : Proj) (need : Nat) (available spare : Int)
  | economyStrike (p : Proj) (warm minWarm : Nat)
  | strikeGranted (p : Proj) (deadline : BoothTime) (sum cap : Nat)
  | reclaimed (p : Proj) (deadline : BoothTime) (head : Option Proj)
  | strikeLate (p : Proj) (deadline : BoothTime)
  | budgetOverdrawn (cap sum : Nat)
  | budgetRestored (cap sum : Nat)
  | fire (entryTime : BoothTime) (sources : Sources)
  | fireCleared (entryTime clearTime : BoothTime)
  | localFire (p : Proj)
  | portDown (port : Port)
  | lineRestarted
  deriving DecidableEq, Repr

/-- A notice with the booth time of its making (R164). -/
structure Notice where
  time : BoothTime
  body : NoticeBody
  deriving DecidableEq, Repr

/-- What the transmitter sends (R161). -/
inductive OutMsg where
  | reply (r : Reply)
  | notice (n : Notice)
  deriving DecidableEq, Repr

/-- An order as its message spells it (R165), without the line it came on. -/
inductive Order where
  | read (item selector : Nat)
  | storeReel (slot owner : Nat) (fields : ReelFields)
  | deleteReel (slot : Nat)
  | storeProgram (screen : Nat) (items : List RawItem)
  | storeScene (scene house aisle fade : Nat)
  | thread (projector slot : Nat)
  | unthread (projector : Nat)
  | openScreen (screen : Nat)
  | start (screen : Nat)
  | stop (screen : Nat)
  | close (screen : Nat)
  | resume (screen : Nat)
  | changeNow (screen : Nat)
  | setLamp (lamp : Nat) (settings : LampSettings)
  | strike (lamp run : Nat)
  | quench (lamp : Nat)
  | trim (lamp length : Nat)
  | setCapacity (cap : Nat)
  | setSurge (surge : Nat)
  | setReclaim (lead gap : Nat)
  | lights (auditorium : Nat) (form : LightsForm)
  | lightsRelease (auditorium : Nat)
  | setFloor (level : Nat)
  | setRest (circuit level : Nat)
  | setMotion (settings : MotionSettings)
  | fireAssert
  | fireRelease
  | clearFire
  | rehang (screen : Nat)
  /-- A kind code that is not an order code (R157). -/
  | unknown (kind : Nat)
  /-- An order code whose parameters do not have the count its layout gives (R157). -/
  | miscounted (kind : Nat)
  deriving DecidableEq, Repr

/-- A message in assembly (R154). -/
structure Partial where
  kind : Nat
  params : List Byte
  frames : Nat
  deriving DecidableEq, Repr

/-- The receive frame assembler (R153, R154). `elapsed` counts booth ticks of the 0.5 s limit (R166). -/
inductive Assembler where
  | hunt
  | frame (message : Option Partial) (got : List Byte) (elapsed : Nat)
  | gap (message : Partial) (elapsed : Nat)
  deriving DecidableEq, Repr

/-- One station line (R153 to R163). -/
structure LineState where
  asm : Assembler
  buffer : List Order
  replies : List Reply
  notices : List Notice
  overrun : Bool
  /-- `none` is IDLE (R161). -/
  tx : Option OutMsg
  deriving DecidableEq, Repr

/-! ## Supplies (chapter 10) -/

/-- The supply state (R169). -/
inductive Supply where
  | run | standby
  deriving DecidableEq, Repr

/-- The whole controller, and the queue of commands that wait. -/
structure State where
  supply : Supply
  resetPin : Bool
  vsb : Bool
  storeValid : Bool
  scanDue : Bool
  boothTime : BoothTime
  tickCount : Nat
  stampSub : Nat
  stampTimer : Nat
  reels : List (Option ReelRecord)
  programs : Quad (List ProgItem)
  scenes : List Scene
  contexts : PerProj (Option Context)
  channels : PerProj Channel
  motionSettings : MotionSettings
  seqs : Quad Sequencer
  lamps : PerProj Lamp
  budget : Budget
  circuits : PerCirc Circuit
  floor : Nat
  fire : FireUnit
  lines : PerLine LineState
  pending : List Instr
  deriving DecidableEq, Repr

/-! ## Reset values -/

/-- A channel at every reset (R39). -/
def Channel.reset : Channel :=
  { phase := 0, frames := 0, age := 65535, reference := false, ring := [], motion := .still, runup := none,
    lastCue := none, bounce := 0 }

/-- A Sequencer at every reset (R71). -/
def Sequencer.reset : Sequencer :=
  { showState := .closed, pointer := 1, roles := Pair.fill .idle, startRec := none, interval := none, reelPending := false,
    haltReason := none, haltedFrom := none, restart := none, firstMissed := false, motor := Pair.fill false,
    demand := Pair.fill .clear, sound := .muted, changeover := none }

/-- A lamp at every reset, over its retained settings and carbon (R94, R99, R123). -/
def Lamp.reset (settings : LampSettings) (carbon : Nat) : Lamp :=
  { st := .dark, settings := settings, carbon := carbon, litCurrent := none, held := false, standbyRef := 0,
    target := none, phase := none, attempts := 0, touchSamples := 0, pendingFeed := 0, lowCount := 0,
    lastArcOut := none, quenchDue := none, quenchingEnd := none, faultCause := none,
    lastCurrent := Config.sampleBeforeScan, lastVoltage := Config.sampleBeforeScan, forecast := .none,
    chosenWarm := settings.warm, chosenBy := .full, strikeTicks := 0, feedTicks := 0, forecastTicks := 0,
    fixedSurge := 0, standing := none }

/-- The budget at every reset, over its retained settings (R123). -/
def Budget.reset (cap surge lead gap : Nat) : Budget :=
  { cap := cap, surge := surge, lead := lead, gap := gap, queue := [], nextSeq := 0, overdrawn := false, examine := false,
    leadTaken := false }

/-- A circuit at every reset, over its retained rest level (R137). -/
def Circuit.reset (rest : Nat) : Circuit :=
  { rest := rest, fireBooth := false, fireLocal := false, fault := none, manual := none, program := none,
    winner := .rest, fade := none, engine := 10 * rest }

/-- All ten sources clear. -/
def Sources.clear : Sources :=
  { heat1 := false, heat2 := false, panel := false, link := false, gate := false, lines := PerLine.fill false }

/-- The Fire Protection Unit at every reset, over its retained record (R151). The inputs stand as log 9 says until the
first scan. -/
def FireUnit.reset (record : List FireEntry) : FireUnit :=
  { on := false, sources := Sources.clear, marks := Quad.fill false,
    flames := Quad.fill (Pair.fill Config.inputBeforeScan), persist := Quad.fill (Pair.fill none),
    holds := Quad.fill (Trio.fill false), ups := Quad.fill (Trio.fill Config.inputBeforeScan), record := record }

/-- A line at every reset (R163). -/
def LineState.reset : LineState :=
  { asm := .hunt, buffer := [], replies := [], notices := [], overrun := false, tx := none }

/-- The scenes at power-on (R11). -/
def Scene.defaults : List Scene :=
  [⟨100, 100, 30⟩, ⟨60, 80, 50⟩, ⟨0, 20, 80⟩, ⟨70, 80, 50⟩, ⟨40, 60, 20⟩, ⟨100, 100, 60⟩, ⟨20, 30, 40⟩, ⟨100, 100, 0⟩]

/-- A lamp's settings at power-on (R74). -/
def LampSettings.defaults : LampSettings :=
  { run := 45, standby := 30, setpoint := 110, band := 2, gain := 3, warm := 40, minWarm := 15, quenchDelay := 10,
    margin := 150, burn := ⟨⟨30, 40⟩, ⟨45, 70⟩, ⟨60, 104⟩, ⟨75, 150⟩⟩ }

/-- The booth motion settings at power-on (R38). -/
def MotionSettings.defaults : MotionSettings :=
  { gateThreshold := 180, runupLimit := 30, breakWindow := 25, persistence := 20 }

/-- The state right after a power-on reset (R170): every retained item at its default, every other item at its reset
value, in RUN, the marker set, the first scan still to come, nothing waiting. RESET low and VSB present are the model's
choice (log 8). -/
def State.reset : State :=
  { supply := .run, resetPin := false, vsb := true, storeValid := true, scanDue := true, boothTime := 0, tickCount := 0,
    stampSub := Config.stampAtReset, stampTimer := Config.stampAtReset,
    reels := List.replicate 48 none, programs := Quad.fill [], scenes := Scene.defaults,
    contexts := Quad.fill (Pair.fill none), channels := Quad.fill (Pair.fill Channel.reset),
    motionSettings := MotionSettings.defaults, seqs := Quad.fill Sequencer.reset,
    lamps := Quad.fill (Pair.fill (Lamp.reset LampSettings.defaults 0)), budget := Budget.reset 240 20 30 60,
    circuits := Quad.fill (Duo.fill (Circuit.reset 100)), floor := 15, fire := FireUnit.reset [],
    lines := PerLine.fill LineState.reset, pending := [] }

end Sys2Proof.Machine
end

