-- ==== Sys2Proof/Machine/Ops.lean ====
section
/-! DEFINITION. The named operations over the state: reading and writing one entry of each table, booth time
comparison, the codes of names, and lookups in the Store. -/

namespace Sys2Proof.Machine

/-! ## One entry of each table -/

def State.lamp (s : State) (p : Proj) : Lamp := (s.lamps.get p.screen).get p.side

def State.setLamp (s : State) (p : Proj) (v : Lamp) : State :=
  { s with lamps := s.lamps.set p.screen ((s.lamps.get p.screen).set p.side v) }

def State.modLamp (s : State) (p : Proj) (f : Lamp → Lamp) : State := s.setLamp p (f (s.lamp p))

def State.chan (s : State) (p : Proj) : Channel := (s.channels.get p.screen).get p.side

def State.setChan (s : State) (p : Proj) (v : Channel) : State :=
  { s with channels := s.channels.set p.screen ((s.channels.get p.screen).set p.side v) }

def State.modChan (s : State) (p : Proj) (f : Channel → Channel) : State := s.setChan p (f (s.chan p))

def State.ctx (s : State) (p : Proj) : Option Context := (s.contexts.get p.screen).get p.side

def State.setCtx (s : State) (p : Proj) (v : Option Context) : State :=
  { s with contexts := s.contexts.set p.screen ((s.contexts.get p.screen).set p.side v) }

def State.seq (s : State) (n : Screen) : Sequencer := s.seqs.get n

def State.setSeq (s : State) (n : Screen) (v : Sequencer) : State := { s with seqs := s.seqs.set n v }

def State.modSeq (s : State) (n : Screen) (f : Sequencer → Sequencer) : State := s.setSeq n (f (s.seq n))

def State.circ (s : State) (c : Circ) : Circuit := (s.circuits.get c.screen).get c.kind

def State.setCirc (s : State) (c : Circ) (v : Circuit) : State :=
  { s with circuits := s.circuits.set c.screen ((s.circuits.get c.screen).set c.kind v) }

def State.modCirc (s : State) (c : Circ) (f : Circuit → Circuit) : State := s.setCirc c (f (s.circ c))

def State.line (s : State) (l : Line) : LineState := s.lines.get l

def State.setLine (s : State) (l : Line) (v : LineState) : State := { s with lines := s.lines.set l v }

def State.modLine (s : State) (l : Line) (f : LineState → LineState) : State := s.setLine l (f (s.line l))

def State.modBudget (s : State) (f : Budget → Budget) : State := { s with budget := f s.budget }

def State.modFire (s : State) (f : FireUnit → FireUnit) : State := { s with fire := f s.fire }

def FireUnit.flame (u : FireUnit) (p : Proj) : Bool := (u.flames.get p.screen).get p.side

def FireUnit.setFlame (u : FireUnit) (p : Proj) (v : Bool) : FireUnit :=
  { u with flames := u.flames.set p.screen ((u.flames.get p.screen).set p.side v) }

def FireUnit.timer (u : FireUnit) (p : Proj) : Option Nat := (u.persist.get p.screen).get p.side

def FireUnit.setTimer (u : FireUnit) (p : Proj) (v : Option Nat) : FireUnit :=
  { u with persist := u.persist.set p.screen ((u.persist.get p.screen).set p.side v) }

def FireUnit.hold (u : FireUnit) (q : Port) : Bool := (u.holds.get q.screen).get q.kind

def FireUnit.up (u : FireUnit) (q : Port) : Bool := (u.ups.get q.screen).get q.kind

def FireUnit.setUp (u : FireUnit) (q : Port) (v : Bool) : FireUnit :=
  { u with ups := u.ups.set q.screen ((u.ups.get q.screen).set q.kind v) }

/-- The three holds of a screen at once (R145, R149). -/
def FireUnit.setHolds (u : FireUnit) (n : Screen) (v : Bool) : FireUnit :=
  { u with holds := u.holds.set n (Trio.fill v) }

/-- The port shutter of a projector: nPA for nA, nPB for nB (R42). -/
def portOf (p : Proj) : Port :=
  ⟨p.screen, match p.side with
    | .a => .a
    | .b => .b⟩

def Sources.get (x : Sources) : Source → Bool
  | .input .heat1 => x.heat1
  | .input .heat2 => x.heat2
  | .input .panel => x.panel
  | .input .link => x.link
  | .gate => x.gate
  | .line l => x.lines.get l

def Sources.set (x : Sources) (src : Source) (v : Bool) : Sources :=
  match src with
  | .input .heat1 => { x with heat1 := v }
  | .input .heat2 => { x with heat2 := v }
  | .input .panel => { x with panel := v }
  | .input .link => { x with link := v }
  | .gate => { x with gate := v }
  | .line l => { x with lines := x.lines.set l v }

/-! ## Doing one thing for every name -/

/-- `f` for each name of the list, in its order. -/
def forEach {α : Type} (names : List α) (f : α → State → State) (s : State) : State :=
  names.foldl (fun t x => f x t) s

/-! ## Booth time (R167) -/

/-- A booth time D is passed when (now - D) modulo 16,777,216 is less than 8,388,608 (R167). -/
def passed (now d : BoothTime) : Bool := decide ((now - d).toNat < 8388608)

/-- D1 is earlier than D2 (R167). -/
def earlier (d1 d2 : BoothTime) : Bool := decide (d1 ≠ d2) && decide ((d2 - d1).toNat < 8388608)

/-- A booth time so many tenths after another. -/
def after (d : BoothTime) (tenths : Nat) : BoothTime := d + BitVec.ofNat 24 tenths

/-- Tenths from `now` until `d`, 0 once it is passed. -/
def tenthsUntil (now d : BoothTime) : Nat := if passed now d then 0 else (d - now).toNat

/-! ## Codes of names (R164) -/

def screenNumber : Screen → Nat
  | .n1 => 1
  | .n2 => 2
  | .n3 => 3
  | .n4 => 4

/-- Screens are numbered 1 to 4 (00). -/
def screenOf : Nat → Option Screen
  | 1 => some .n1
  | 2 => some .n2
  | 3 => some .n3
  | 4 => some .n4
  | _ => none

def projCode (p : Proj) : Nat :=
  2 * (screenNumber p.screen - 1) + match p.side with
    | .a => 0
    | .b => 1

/-- Projectors and lamps are coded 0 to 7 for 1A, 1B, 2A to 4B (R164). -/
def projOf (k : Nat) : Option Proj := Proj.all[k]?

def circCode (c : Circ) : Nat :=
  2 * (screenNumber c.screen - 1) + match c.kind with
    | .house => 0
    | .aisle => 1

/-- Circuits are coded 0 to 7 for 1H, 1S, 2H to 4S (R164). -/
def circOf (k : Nat) : Option Circ := Circ.all[k]?

/-- Ports in the order 1PA, 1PB, 1PO to 4PO (00); DESIGN CHOICE (log 11), R164 gives ports no code. -/
def portCode (q : Port) : Nat :=
  3 * (screenNumber q.screen - 1) + match q.kind with
    | .a => 0
    | .b => 1
    | .o => 2

/-- The line of a screen is numbered as the screen, HOUSE is line 5 (R153). -/
def lineNumber : Line → Nat
  | .screen n => screenNumber n
  | .house => 5

def lineOf : Nat → Option Line
  | 5 => some .house
  | k => (screenOf k).map .screen

/-! ## The Store -/

/-- P, the last picture frame (R2). -/
def ReelRecord.lastPicture (r : ReelRecord) : Nat := r.length - r.tail

/-- Xco, the changeover cue frame (R2). -/
def ReelRecord.xco (r : ReelRecord) : Nat := r.lastPicture - r.lead

/-- Xmc, the motor cue frame (R2). -/
def ReelRecord.xmc (r : ReelRecord) : Nat := r.xco - r.motorLead

/-- Perforations per frame (R22). -/
def Format.divisor : Format → Nat
  | .f35 => 4
  | .f70 => 5

/-- The record in a slot, slots being numbered from 1 (R1). -/
def State.reelAt (s : State) (slot : Nat) : Option ReelRecord :=
  match slot with
  | 0 => none
  | k + 1 => (s.reels[k]?).join

/-- A slot with new content (R1). -/
def State.setReel (s : State) (slot : Nat) (r : Option ReelRecord) : State :=
  { s with reels := s.reels.set (slot - 1) r }

/-- The context of `p` holds the slot (R12). -/
def State.holds (s : State) (p : Proj) (slot : Nat) : Bool :=
  match s.ctx p with
  | some c => c.slot == slot
  | none => false

/-- The projector whose context holds the slot, if any (R13). -/
def State.holderOf (s : State) (slot : Nat) : Option Proj := Proj.all.find? (fun p => s.holds p slot)

/-- The screen's program item at a position counted from 1 (R7). -/
def State.itemAt (s : State) (n : Screen) (position : Nat) : Option ProgItem :=
  match position with
  | 0 => none
  | k + 1 => (s.programs.get n)[k]?

/-- A scene as it stands (R10); numbers 0 to 7. -/
def State.scene (s : State) (k : Nat) : Scene := s.scenes.getD k ⟨0, 0, 0⟩

/-- The last picture frame of the reel in a projector's context, if any. -/
def State.lastPicture (s : State) (p : Proj) : Option Nat := (s.ctx p).map (fun c => c.reel.lastPicture)

end Sys2Proof.Machine
end

