-- ==== Sys2Proof/Machine/Flags.lean ====
section
/-! DEFINITION. Every flag, output and test that the book fixes as a function of the state: speed and gate permission,
charges, the lamp outputs, the stub mark, gate shutters and dowsers, the fire line, winners and output levels, the READY
test. They are computed where they are read and stored nowhere (log 23). -/

namespace Sys2Proof.Machine

/-- The controller runs: RUN and not held in reset (R166, R170). -/
def State.running (s : State) : Bool :=
  match s.supply with
  | .run => !s.resetPin
  | .standby => false

/-! ## Film motion -/

/-- fps10: 400,000 over the sum of four periods, to nearest with halves up, at most 9,999; unknown below four (R26). -/
def speedOf (ring : List Nat) : Option Nat :=
  match ring.length with
  | 4 => some (min 9999 ((800000 + ring.sum) / (2 * ring.sum)))
  | _ => none

/-- The band for running speed, 228 to 252 (R26). -/
def inBand (fps : Nat) : Bool := decide (228 ≤ fps) && decide (fps ≤ 252)

/-- Gate permission (R37). -/
def gatePermission (s : State) (p : Proj) : Bool :=
  match speedOf (s.chan p).ring with
  | some v => decide (s.motionSettings.gateThreshold ≤ v)
  | none => false

/-- The running states of a channel (R21). -/
def Motion.isRunning : Motion → Bool
  | .runup | .atSpeed | .offSpeed => true
  | _ => false

/-! ## Lamps -/

/-- Lit in STANDBY and RUNNING (R73). -/
def Lamp.lit (l : Lamp) : Bool :=
  match l.st with
  | .standby | .running => true
  | _ => false

/-- In use in STRIKING, STANDBY and RUNNING (R73). -/
def Lamp.inUse (l : Lamp) : Bool :=
  match l.st with
  | .striking | .standby | .running => true
  | _ => false

/-- The charge of a lamp (R110). -/
def Lamp.charge (l : Lamp) : Nat :=
  match l.st with
  | .striking => l.litCurrent.getD 0 + l.fixedSurge
  | .standby | .running => l.litCurrent.getD 0
  | _ => 0

/-- The stub mark: C at or below M (R97). -/
def Lamp.stubMark (l : Lamp) : Bool := decide (l.carbon ≤ l.settings.margin)

/-- The contactor (R77). -/
def Lamp.contactor (l : Lamp) : Bool :=
  match l.st with
  | .striking => l.phase != some .coolOff
  | .standby | .running => true
  | _ => false

/-- The current reference (R77, R75 for STANDBY, R109 for the surge fixed at the grant). -/
def Lamp.currentReference (l : Lamp) : Nat :=
  match l.st with
  | .striking => min 120 (l.litCurrent.getD 0 + l.fixedSurge)
  | .standby => min l.standbyRef (l.litCurrent.getD 0)
  | .running => l.litCurrent.getD 0
  | _ => 0

/-- The sum of the eight charges (R110). -/
def sigma (s : State) : Nat := (Proj.all.map (fun p => (s.lamp p).charge)).sum

/-- The override of the reel in the projector's context, when the context is VALID and has one (R76). -/
def overrideOf (s : State) (p : Proj) : Option Nat := (s.ctx p).bind (fun c => c.reel.override)

/-- The effective running current (R76). -/
def effectiveCurrent (s : State) (p : Proj) : Nat := (overrideOf s p).getD (s.lamp p).settings.run

/-! ## Fire, shutters and dowsers -/

/-- The fire line: any source asserted (R139). -/
def Sources.any (x : Sources) : Bool :=
  x.heat1 || x.heat2 || x.panel || x.link || x.gate || Line.all.any (fun l => x.lines.get l)

/-- The gate shutter output (R144); closed in standby and while held in reset (R169, R170). -/
def gateShutter (s : State) (p : Proj) : Bool :=
  s.running && gatePermission s p && (s.lamp p).lit && !s.fire.on && !(s.fire.marks.get p.screen)

/-- The dowser output (R42); closed in standby and while held in reset (R169, R170). -/
def dowserOpen (s : State) (p : Proj) : Bool :=
  s.running && ((s.seq p.screen).demand.get p.side == .set) && ((s.lamp p).st == .running) && gateShutter s p &&
    s.fire.up (portOf p) && !s.fire.on

/-- The motor output as commanded (R21, R42). -/
def motorIsOn (s : State) (p : Proj) : Bool := (s.seq p.screen).motor.get p.side

/-! ## Sequencer -/

def Sequencer.role (q : Sequencer) (x : Side) : Role := q.roles.get x

def Sequencer.setRole (q : Sequencer) (x : Side) (r : Role) : Sequencer := { q with roles := q.roles.set x r }

/-- The active projector: the one whose role is ACTIVE (R40). -/
def Sequencer.activeSide (q : Sequencer) : Option Side :=
  Side.all.find? (fun x => q.roles.get x == .active)

/-- The projector that is STARTING or ACTIVE (R67). -/
def Sequencer.onScreenSide (q : Sequencer) : Option Side :=
  Side.all.find? (fun x => q.roles.get x == .starting || q.roles.get x == .active)

/-- A projector named by a start record that no halt has frozen (R13, R15). -/
def Sequencer.startsUnfrozen (q : Sequencer) (x : Side) : Bool :=
  match q.startRec with
  | some r => (r.side == x) && !r.frozen
  | none => false

/-- The READY test on an incoming projector (R59). -/
def readyTest (s : State) (p : Proj) : Bool :=
  ((s.chan p).motion == .atSpeed) && (s.lamp p).lit && gatePermission s p && s.fire.up (portOf p)

/-! ## House lights -/

/-- The FIRE claim is present while a holder is in its set (R127). -/
def Circuit.fireClaim (c : Circuit) : Bool := c.fireBooth || c.fireLocal

/-- The winner as the claim set gives it (R128). -/
def Circuit.winnerNow (c : Circuit) : Winner :=
  if c.fireClaim then .fire
  else if c.fault.isSome then .fault
  else if c.manual.isSome then .manual
  else if c.program.isSome then .program
  else .rest

/-- The claim of a class, FIRE and REST aside. -/
def Circuit.claimOf (c : Circuit) : Winner → Option Claim
  | .fault => c.fault
  | .manual => c.manual
  | .program => c.program
  | _ => none

/-- The target in percent and the fade description of what governs the circuit (R127, R128). -/
def Circuit.wanted (c : Circuit) : Winner → Nat × FadeDesc
  | .fire => (100, .time 0)
  | .rest => (c.rest, .time 30)
  | w => match c.claimOf w with
    | some k => (k.target, k.fade)
    | none => (c.rest, .time 30)

/-- The auditorium's show state is not CLOSED (R132). -/
def isOpen (s : State) (n : Screen) : Bool := (s.seq n).showState != .closed

/-- The output level of a circuit (R132). -/
def outputLevel (s : State) (c : Circ) : Nat :=
  match c.kind with
  | .house => (s.circ c).engine
  | .aisle => if isOpen s c.screen then max (s.circ c).engine (10 * s.floor) else (s.circ c).engine

/-- What the dimmer pack sees: inactive in standby and while held in reset (R137, R169, R170). -/
def dimmerOutput (s : State) (c : Circ) : Option Nat := if s.running then some (outputLevel s c) else none

/-! ## Lines -/

/-- FIRE and FIRE CLEARED are the fire notices (R152, R159). -/
def NoticeBody.isFire : NoticeBody → Bool
  | .fire _ _ => true
  | .fireCleared _ _ => true
  | _ => false

def Reply.isReadData : Reply → Bool
  | .readData _ _ _ => true
  | _ => false

/-- A READ DATA message is held from the taking of the READ until its last frame has been sent (R158). -/
def LineState.readHeld (l : LineState) : Bool :=
  l.replies.any Reply.isReadData || match l.tx with
    | some (.reply r) => r.isReadData
    | _ => false

/-- A fire notice waits in the queue (R159). -/
def LineState.firePending (l : LineState) : Bool := l.notices.any (fun n => n.body.isFire)

end Sys2Proof.Machine
end

