-- ==== Sys2Proof/Machine/Lines.lean ====
section
/-! DEFINITION. The outgoing side of a station line: notices and their queue, replies and their queue, the transmitter's
start (R158 to R161). -/

namespace Sys2Proof.Machine

/-- An IDLE transmitter starts at once, on the oldest reply, else on the head of the notice queue (R161). -/
def LineState.kick (l : LineState) : LineState :=
  match l.tx with
  | some _ => l
  | none =>
    match l.replies, l.notices with
    | r :: rs, _ => { l with replies := rs, tx := some (.reply r) }
    | [], n :: ns => { l with notices := ns, tx := some (.notice n) }
    | [], [] => l

/-- The pending fire notice takes the new notice's kind and contents in place (R160). -/
def replaceFire (n : Notice) : List Notice → List Notice
  | [] => []
  | x :: xs => if x.body.isFire then n :: xs else x :: replaceFire n xs

/-- A fire notice placed in the queue (R160). -/
def LineState.addFireNotice (l : LineState) (n : Notice) : LineState :=
  if l.firePending then { l with notices := replaceFire n l.notices }
  else if l.notices.length < 12 then { l with notices := l.notices ++ [n] }
  else { l with notices := n :: l.notices.tail, overrun := true }

/-- A notice that is no fire notice (R159). -/
def LineState.addPlainNotice (l : LineState) (n : Notice) : LineState :=
  if l.notices.length < 12 then { l with notices := l.notices ++ [n] } else { l with overrun := true }

/-- A notice that reaches a line (R159, R160). -/
def LineState.addNotice (l : LineState) (n : Notice) : LineState :=
  if n.body.isFire then l.addFireNotice n else l.addPlainNotice n

/-- A reply joins the queue of four; one that finds it full is dropped and sets the overrun flag (R158). -/
def LineState.addReply (l : LineState) (r : Reply) : LineState :=
  if l.replies.length < 4 then { l with replies := l.replies ++ [r] } else { l with overrun := true }

/-- A block appends a notice to one line's queue, stamped with the booth time (R159, R164). -/
def notify (l : Line) (b : NoticeBody) (s : State) : State :=
  s.modLine l (fun x => (x.addNotice ⟨s.boothTime, b⟩).kick)

/-- A notice to a screen's line. -/
def notifyScreen (n : Screen) (b : NoticeBody) (s : State) : State := notify (.screen n) b s

/-- A notice to a screen's line and to the house line. -/
def notifyScreenAndHouse (n : Screen) (b : NoticeBody) (s : State) : State := notify .house b (notify (.screen n) b s)

/-- A notice to every line. -/
def notifyAll (b : NoticeBody) (s : State) : State := forEach Line.all (fun l => notify l b) s

/-- A reply made on a line (R158). -/
def reply (l : Line) (r : Reply) (s : State) : State := s.modLine l (fun x => (x.addReply r).kick)

end Sys2Proof.Machine
end

