-- ==== Sys2Proof/Machine/Lights.lean ====
section
/-! DEFINITION. The House Light Unit: placing and removing claims (R126, R127), the judging of winners at the end of an
event (R128), the fade engine (R129 to R131). -/

namespace Sys2Proof.Machine

/-! ## Claims -/

/-- The claim of a class replaced or removed; FIRE has its holder set instead, and REST is no claim. -/
def Circuit.put (c : Circuit) (w : Winner) (k : Option Claim) : Circuit :=
  match w with
  | .fault => { c with fault := k }
  | .manual => { c with manual := k }
  | .program => { c with program := k }
  | .fire | .rest => c

/-- A target below the aisle floor is raised to it on an aisle circuit whose auditorium is not CLOSED (R126). -/
def flooredTarget (s : State) (c : Circ) (target : Nat) : Nat :=
  match c.kind with
  | .house => target
  | .aisle => if isOpen s c.screen then max target s.floor else target

/-- A claim placed on one circuit (R126). -/
def placeClaim (c : Circ) (w : Winner) (target : Nat) (fade : FadeDesc) (s : State) : State :=
  s.modCirc c (fun x => x.put w (some ⟨flooredTarget s c target, fade, true⟩))

/-- A claim placed on both circuits of an auditorium. -/
def placeBoth (n : Screen) (w : Winner) (house aisle : Nat) (fade : FadeDesc) (s : State) : State :=
  placeClaim ⟨n, .aisle⟩ w aisle fade (placeClaim ⟨n, .house⟩ w house fade s)

/-- The program claim takes a scene with the scene's own fade time (R40). -/
def programTakes (n : Screen) (scene : Nat) (s : State) : State :=
  placeBoth n .program (s.scene scene).house (s.scene scene).aisle (.time (s.scene scene).fade) s

/-- The program claim takes a scene with a film-locked fade (R66). -/
def programTakesFilm (n : Screen) (scene frames : Nat) (p : Proj) (s : State) : State :=
  placeBoth n .program (s.scene scene).house (s.scene scene).aisle (.film frames p) s

/-- The FAULT claim always takes scene BREAK (R40). -/
def faultTakes (n : Screen) (s : State) : State :=
  placeBoth n .fault (s.scene 4).house (s.scene 4).aisle (.time (s.scene 4).fade) s

/-- A class removed from both circuits of an auditorium (R126). -/
def removeClaims (n : Screen) (w : Winner) (s : State) : State :=
  (s.modCirc ⟨n, .house⟩ (fun x => x.put w none)).modCirc ⟨n, .aisle⟩ (fun x => x.put w none)

/-- The holder LOCAL joins or leaves the FIRE claims of an auditorium (R127). -/
def setLocalHolder (v : Bool) (n : Screen) (s : State) : State :=
  (s.modCirc ⟨n, .house⟩ (fun x => { x with fireLocal := v })).modCirc ⟨n, .aisle⟩ (fun x => { x with fireLocal := v })

/-- The holder BOOTH joins or leaves the FIRE claim of all eight circuits (R127). -/
def setBoothHolder (v : Bool) (s : State) : State :=
  forEach Circ.all (fun c t => t.modCirc c (fun x => { x with fireBooth := v })) s

/-! ## Fades -/

/-- A fade starts on a circuit toward what the circuit's winner wants (R129, R131). -/
def startFade (c : Circ) (s : State) : State :=
  let wanted := (s.circ c).wanted (s.circ c).winnerNow
  let l0 := outputLevel s c
  let l1 := 10 * wanted.1
  match wanted.2 with
  | .time 0 => s.modCirc c (fun x => { x with engine := l1, fade := none })
  | .time n => s.modCirc c (fun x => { x with engine := l0, fade := some ⟨l0, l1, n, 0, none⟩ })
  | .film n p =>
    let film : FilmFade := ⟨p, (s.chan p).frames, !(s.chan p).motion.isRunning⟩
    s.modCirc c (fun x => { x with engine := l0, fade := some ⟨l0, l1, n, 0, some film⟩ })

/-- The winner has changed in the event: another class wins, or the winning claim was placed in it (R128). -/
def Circuit.winnerChanged (c : Circuit) : Bool :=
  c.winnerNow != c.winner || match c.claimOf c.winnerNow with
    | some k => k.fresh
    | none => false

/-- A claim is no longer of the event under way. -/
def Claim.settled (k : Claim) : Claim := { k with fresh := false }

def Circuit.settled (c : Circuit) : Circuit :=
  { c with winner := c.winnerNow, fault := c.fault.map Claim.settled, manual := c.manual.map Claim.settled,
           program := c.program.map Claim.settled }

/-- The change of winner of one circuit, judged at the end of an event (R128). -/
def judgeCircuit (c : Circ) (s : State) : State :=
  (if (s.circ c).winnerChanged then startFade c s else s).modCirc c Circuit.settled

/-- Every circuit judged once (R128). -/
def judgeLights (s : State) : State := forEach Circ.all judgeCircuit s

/-- The level of a step: L0 + (L1 - L0) x k / n, the quotient truncated toward zero (R129). -/
def fadeLevel (l0 l1 k n : Nat) : Nat :=
  ((l0 : Int) + Int.tdiv (((l1 : Int) - (l0 : Int)) * (k : Int)) (n : Int)).toNat

/-- A fade goes one step, with a new last frame for a film fade (R129, R131). -/
def Circuit.fadeStep (c : Circuit) (f : Fade) (film : Option FilmFade) : Circuit :=
  if f.n ≤ f.k + 1 then { c with engine := f.l1, fade := none }
  else { c with engine := fadeLevel f.l0 f.l1 (f.k + 1) f.n, fade := some { f with k := f.k + 1, film := film } }

/-- What an advance of booth time does to a circuit: a TIME fade steps (R129), a marked FILM fade completes (R131). -/
def Circuit.timeStep (c : Circuit) : Circuit :=
  match c.fade with
  | none => c
  | some f =>
    match f.film with
    | none => c.fadeStep f none
    | some m => if m.marked then { c with engine := f.l1, fade := none } else c

/-- A frame event of `p` with frame count F: a FILM fade of `p` steps when F is above its last frame, or at 65,535
(R131). -/
def Circuit.filmStep (c : Circuit) (p : Proj) (frames : Nat) : Circuit :=
  match c.fade with
  | none => c
  | some f =>
    match f.film with
    | none => c
    | some m =>
      if m.projector = p ∧ (m.lastFrame < frames ∨ frames = 65535) then
        c.fadeStep f (some { m with lastFrame := frames })
      else c

/-- `p` has left the running states: a FILM fade of `p` is marked for completion (R131). -/
def Circuit.markFilm (c : Circuit) (p : Proj) : Circuit :=
  match c.fade with
  | none => c
  | some f =>
    match f.film with
    | none => c
    | some m => if m.projector = p then { c with fade := some { f with film := some { m with marked := true } } } else c

/-- Every circuit changed in the same way. -/
def everyCircuit (f : Circuit → Circuit) (s : State) : State := { s with circuits := s.circuits.map (Duo.map f) }

end Sys2Proof.Machine
end

