-- ==== Sys2Proof/Machine/Motion.lean ====
section
/-! DEFINITION. The Film Motion Unit's own operations: the ring and the measuring of a period (R25 to R27), changes of the
motion state, and what motor on and motor off do to a channel (R28, R32). What the Sequencer does with a channel's events
stands in Sequencer.lean. -/

namespace Sys2Proof.Machine

/-- The coast limit, 1.0 s in stamp units (R24, R32). -/
def coastUnits : Nat := 10000

/-- The break window in stamp units (R24, R38). -/
def breakUnits (m : MotionSettings) : Nat := 100 * m.breakWindow

/-- The runup limit in booth ticks (R29, R38). -/
def runupTicks (m : MotionSettings) : Nat := 10 * m.runupLimit

/-- The gate flame persistence in booth ticks (R38, R146). -/
def persistTicks (m : MotionSettings) : Nat := 10 * m.persistence

/-- The ring cleared and the reference made absent (R27). -/
def Channel.clearRing (c : Channel) : Channel := { c with ring := [], reference := false }

def clearRing (p : Proj) (s : State) : State := s.modChan p Channel.clearRing

/-- The motion state changes, and the House Light Unit is told (R34, R131). -/
def setMotion (p : Proj) (m : Motion) (s : State) : State :=
  if (s.chan p).motion = m then s
  else
    let t := s.modChan p (fun c => { c with motion := m })
    if m.isRunning then t else everyCircuit (fun c => c.markFilm p) t

/-- A state that a motor on leaves for RUNUP (R28). -/
def Motion.startsRunup : Motion → Bool
  | .still | .stoppedBreak | .stoppedStall => true
  | _ => false

/-- The motor output turned on (R28, R42); a motor already on stays as it is. -/
def motorOn (p : Proj) (s : State) : State :=
  if motorIsOn s p then s
  else
    let t := s.modSeq p.screen (fun q => { q with motor := q.motor.set p.side true })
    if (s.chan p).motion.startsRunup then
      setMotion p .runup (t.modChan p (fun c => { c.clearRing with runup := some 0 }))
    else if (s.chan p).motion = .runup then t.modChan p (fun c => { c with runup := some 0 })
    else t

/-- A state that the coast limit leaves for STILL (R32). -/
def Motion.coasts : Motion → Bool
  | .runup | .atSpeed | .offSpeed | .runout => true
  | _ => false

/-- The motor output turned off (R32, R42). -/
def motorOff (p : Proj) (s : State) : State :=
  if motorIsOn s p then
    let t := s.modSeq p.screen (fun q => { q with motor := q.motor.set p.side false })
    let u := if (s.chan p).motion = .runup then t.modChan p (fun c => { c with runup := none }) else t
    if (s.chan p).motion.coasts ∧ coastUnits ≤ (s.chan p).age then setMotion p .still u else u
  else s

/-- The ring keeps the newest four periods (R25). -/
def enterPeriod (ring : List Nat) (period : Nat) : List Nat :=
  if ring.length < 4 then ring ++ [period] else ring.tail ++ [period]

/-- Steps 1 to 3 of a frame event: F advances, the period is entered, the frame age is set to 0 (R22, R23, R25). -/
def Channel.frame (c : Channel) : Channel :=
  if c.reference then
    { c with frames := min 65535 (c.frames + 1), ring := enterPeriod c.ring (max 1 c.age), age := 0 }
  else { c with frames := min 65535 (c.frames + 1), reference := true, age := 0 }

/-- Where a recomputed known speed takes the motion state (R29, R30). -/
def Motion.atRecompute (m : Motion) (motor : Bool) (fps : Nat) : Motion :=
  match m with
  | .runup => if motor && inBand fps then .atSpeed else .runup
  | .atSpeed => if inBand fps then .atSpeed else .offSpeed
  | .offSpeed => if inBand fps then .atSpeed else .offSpeed
  | other => other

/-- Step 4 of a frame event: the motion state examined with the new speed; leaving RUNUP stops the runup timer. -/
def examineMotion (p : Proj) (s : State) : State :=
  match speedOf (s.chan p).ring with
  | none => s
  | some v =>
    let m := (s.chan p).motion
    let m' := m.atRecompute (motorIsOn s p) v
    if m = .runup ∧ m' = .atSpeed then (setMotion p m' s).modChan p (fun c => { c with runup := none })
    else setMotion p m' s

/-- The channel's part of a frame event (R22, steps 1 to 4); the motion state is examined when a period was entered. -/
def channelFrame (p : Proj) (s : State) : State :=
  let t := s.modChan p Channel.frame
  if (s.chan p).reference then examineMotion p t else t

/-- The channel's part of a THREAD (R13, R33). -/
def channelThread (p : Proj) (s : State) : State :=
  setMotion p .still (s.modChan p (fun c =>
    { c.clearRing with phase := 0, frames := 0, lastCue := none, bounce := 0, runup := none }))

/-- The channel's part of an UNTHREAD or an emptying (R33). -/
def channelUnthread (p : Proj) (s : State) : State :=
  setMotion p .still (s.modChan p (fun c => { c.clearRing with lastCue := none, bounce := 0, runup := none }))

/-- The channel's part of the start of a RESUME (R33). -/
def channelResume (p : Proj) (s : State) : State :=
  match (s.chan p).motion with
  | .stoppedBreak | .stoppedStall => setMotion p .still (clearRing p s)
  | _ => s

end Sys2Proof.Machine
end

