-- ==== Sys2Proof/Machine/Lamps.lean ====
section
/-! DEFINITION. The Lamp Controller's operations and the strike request queue they act on: entries (R111 to R113), strike
requests (R78), the set to running (R85), quench and delayed quench (R88, R89), the lit current under review (R76) and the
stub mark's notice (R97). -/

namespace Sys2Proof.Machine

/-! ## The strike request queue -/

/-- A cause of R114 has come: the budget examines its queue before the event ends. -/
def askExamine (s : State) : State := s.modBudget (fun b => { b with examine := true })

/-- Arrival sequences judged across their wrap (R111). -/
def arrivedBefore (x y : BitVec 16) : Bool := decide (x ≠ y) && decide ((y - x).toNat < 32768)

/-- Order of deadline and then arrival (R111). -/
def Entry.precedes (e f : Entry) : Bool :=
  earlier e.deadline f.deadline || (decide (e.deadline = f.deadline) && arrivedBefore e.arrival f.arrival)

/-- An entry takes its place by deadline and arrival (R112). -/
def insertEntry (e : Entry) : List Entry → List Entry
  | [] => [e]
  | f :: fs => if e.precedes f then e :: f :: fs else f :: insertEntry e fs

/-- The lamp's entry, if it has one. -/
def entryOf (s : State) (p : Proj) : Option Entry := s.budget.queue.find? (fun e => e.lamp == p)

def dropEntry (p : Proj) (q : List Entry) : List Entry := q.filter (fun e => e.lamp != p)

/-- The entry at the head is the lamp's. -/
def isHead (s : State) (p : Proj) : Bool :=
  match s.budget.queue with
  | e :: _ => e.lamp == p
  | [] => false

/-- A new entry of a lamp (R112, R117): the next arrival sequence, late sent clear. -/
def newEntry (p : Proj) (deadline : BoothTime) (held : Bool) (s : State) : State :=
  s.modBudget (fun b =>
    { b with queue := insertEntry ⟨p, deadline, b.nextSeq, held, false⟩ b.queue, nextSeq := b.nextSeq + 1 })

/-- The budget takes a request that the Lamp Controller passes on (R112). -/
def budgetRequest (p : Proj) (deadline : BoothTime) (s : State) : State :=
  if s.fire.on then s
  else
    match entryOf s p with
    | none => askExamine (newEntry p deadline ((s.lamp p).st == .quenching) s)
    | some e =>
      if earlier deadline e.deadline then
        askExamine (s.modBudget (fun b =>
          { b with queue := insertEntry { e with deadline := deadline } (dropEntry p b.queue) }))
      else s

/-- An entry is withdrawn (R113): the lamp's entry leaves the queue, and a withdrawn head makes the budget examine. -/
def withdrawEntry (p : Proj) (s : State) : State :=
  let t := s.modBudget (fun b => { b with queue := dropEntry p b.queue })
  if isHead s p then askExamine t else t

/-- A queued or held request is withdrawn: a QUEUED lamp becomes DARK, a QUENCHING lamp stays QUENCHING (R78, R113). -/
def withdrawRequest (p : Proj) (s : State) : State :=
  match entryOf s p with
  | none => s
  | some _ =>
    (withdrawEntry p s).modLamp p (fun l =>
      match l.st with
      | .queued => { l with st := .dark, target := none }
      | _ => { l with target := none })

/-! ## Quench -/

/-- A lamp's arc or strike is ended: the lamp record of a lamp that becomes QUENCHING (R88, R90). -/
def Lamp.quenched (l : Lamp) (now : BoothTime) : Lamp :=
  { l with st := .quenching, litCurrent := none, held := false, pendingFeed := 0, lowCount := 0, attempts := 0,
           phase := none, target := none, quenchDue := none, quenchingEnd := some (after now 50), fixedSurge := 0,
           standing := none }

/-- A quench (R88). -/
def quenchLamp (p : Proj) (s : State) : State :=
  match (s.lamp p).st with
  | .striking | .standby | .running => askExamine (s.modLamp p (fun l => l.quenched s.boothTime))
  | .queued => (withdrawRequest p s).modLamp p (fun l => { l with st := .dark, target := none })
  | .quenching | .dark | .fault => s

/-- The earlier of a time already set and a new one. -/
def keepEarlier (old : Option BoothTime) (new : BoothTime) : BoothTime :=
  match old with
  | some d => if earlier d new then d else new
  | none => new

/-- A delayed quench (R89). -/
def delayedQuench (p : Proj) (s : State) : State :=
  match (s.lamp p).st with
  | .running | .standby =>
    if (s.lamp p).settings.quenchDelay = 0 then quenchLamp p s
    else s.modLamp p (fun l =>
      { l with quenchDue := some (keepEarlier l.quenchDue (after s.boothTime (10 * l.settings.quenchDelay))) })
  | .queued | .quenching | .striking => withdrawRequest p (quenchLamp p s)
  | .dark | .fault => s

/-! ## Set to running -/

/-- The Sequencer sets a lamp to running (R85). -/
def setRunning (p : Proj) (s : State) : State :=
  match (s.lamp p).st with
  | .standby | .running => s.modLamp p (fun l => { l with st := .running, quenchDue := none })
  | .striking | .queued | .quenching => s.modLamp p (fun l => { l with target := some .running })
  | .dark | .fault => s

/-! ## Strike requests -/

/-- A request for RUNNING sets the target to RUNNING, one for STANDBY leaves it as it stands (R78). -/
def raiseTarget (old : Option Target) (new : Target) : Option Target :=
  match new with
  | .running => some .running
  | .standby => old

/-- The target of a QUENCHING lamp that takes a request (R78): the request's, unless RUNNING stands already (log 31). -/
def heldTarget (old : Option Target) (new : Target) : Option Target :=
  match old with
  | some .running => some .running
  | _ => some new

/-- The Lamp Controller drops a strike request: DARK at or below its margin, or FAULT (R78). -/
def requestDropped (l : Lamp) : Bool :=
  match l.st with
  | .dark => l.stubMark
  | .fault => true
  | _ => false

/-- The Lamp Controller acts on a strike request by the lamp's state (R78); a request that reaches the budget while the
fire state is ON is dropped there (R112). -/
def strikeRequest (p : Proj) (target : Target) (deadline : BoothTime) (s : State) : State :=
  if s.fire.on then s
  else
    match (s.lamp p).st with
    | .dark =>
      if (s.lamp p).stubMark then s
      else budgetRequest p deadline (s.modLamp p (fun l => { l with st := .queued, target := some target }))
    | .queued => (budgetRequest p deadline s).modLamp p (fun l => { l with target := raiseTarget l.target target })
    | .quenching => (budgetRequest p deadline s).modLamp p (fun l => { l with target := heldTarget l.target target })
    | .striking => s.modLamp p (fun l => { l with target := raiseTarget l.target target })
    | .standby | .running | .fault => s

/-! ## The lit current -/

/-- The effective running current is computed again for a lamp in use (R76): a lower value is taken at once, a higher one
when the budget has room; else the value is held for the rest of the burn and CURRENT HELD is sent. -/
def reviewCurrent (p : Proj) (s : State) : State :=
  let l := s.lamp p
  match l.inUse && !l.held, l.litCurrent with
  | true, some i =>
    let e := effectiveCurrent s p
    if e < i then askExamine (s.modLamp p (fun x => { x with litCurrent := some e }))
    else if i < e then
      if !s.budget.overdrawn && decide (sigma s + (e - i) ≤ s.budget.cap) then
        s.modLamp p (fun x => { x with litCurrent := some e })
      else notifyScreen p.screen (.currentHeld p i e) (s.modLamp p (fun x => { x with held := true }))
    else s
  | _, _ => s

/-! ## Carbon -/

/-- A change of the lamp record, with the stub mark re-examined: a mark that becomes set sends CARBON STUB (R97). -/
def withStubCheck (p : Proj) (f : Lamp → Lamp) (s : State) : State :=
  let t := s.modLamp p f
  if !(s.lamp p).stubMark && (t.lamp p).stubMark then notifyScreen p.screen (.carbonStub p (t.lamp p).carbon) t else t

end Sys2Proof.Machine
end

