-- ==== Sys2Proof/Machine/Forecast.lean ====
section
/-! DEFINITION. The endurance forecast: the burn rate (R98), the two segments (R100 to R102), need, verdict and spare
(R103), the single forecast (R104, R105) and the economy choice (R106). -/

namespace Sys2Proof.Machine

/-- A quotient rounded up (00, Rounding). -/
def ceilDiv (a b : Nat) : Nat := (a + b - 1) / b

/-- A quotient rounded to nearest, halves up (00, Rounding). -/
def nearestDiv (a b : Nat) : Nat := (2 * a + b) / (2 * b)

/-- The rate on the straight line between two points of the burn table (R98). -/
def burnBetween (p q : BurnPoint) (i : Nat) : Nat :=
  if p.rate ≤ q.rate then p.rate + nearestDiv ((q.rate - p.rate) * (i - p.current)) (q.current - p.current)
  else p.rate - nearestDiv ((p.rate - q.rate) * (i - p.current)) (q.current - p.current)

/-- The burn rate B(I) (R98). -/
def burnRate (t : BurnTable) (i : Nat) : Nat :=
  if i ≤ t.p1.current then t.p1.rate
  else if t.p4.current ≤ i then t.p4.rate
  else if i < t.p2.current then burnBetween t.p1 t.p2 i
  else if i < t.p3.current then burnBetween t.p2 t.p3 i
  else burnBetween t.p3 t.p4 i

/-- The running current of a forecast (R100). -/
def forecastCurrent (s : State) (p : Proj) : Nat :=
  if (s.lamp p).lit then (s.lamp p).litCurrent.getD (effectiveCurrent s p) else effectiveCurrent s p

/-- Seconds until the changeover cue of the other projector of the screen, when that projector is ACTIVE, VALID and below
its Xco; else 0 (R101, cases 2 and 3). -/
def secondsToCue (s : State) (p : Proj) : Nat :=
  match (s.seq p.screen).role p.side.other, s.ctx p.other with
  | .active, some c =>
    if (s.chan p.other).frames < c.reel.xco then ceilDiv (c.reel.xco - (s.chan p.other).frames) 24 else 0
  | _, _ => 0

/-- The standby segment's seconds s1, for the warm time of the pass (R101). Case 1 goes before the pass's warm time in an economy
choice too, for an unlit lamp with target RUNNING: the model's choice (R106, log 50). -/
def standbySeconds (s : State) (p : Proj) (warm : Nat) : Nat :=
  let l := s.lamp p
  if l.st = .running ∨ l.target = some .running ∨ l.quenchDue.isSome then 0
  else if l.st = .standby then secondsToCue s p
  else warm

/-- The item after a slot's REEL item in a program is a REEL item (R102). -/
def followedByReel (slot : Nat) : List ProgItem → Bool
  | .reel k :: .reel k' :: rest => k == slot || followedByReel slot (.reel k' :: rest)
  | _ :: rest => followedByReel slot rest
  | [] => false

/-- The run segment's seconds s2 (R102). -/
def runSeconds (s : State) (p : Proj) (c : Context) : Nat :=
  let l := s.lamp p
  match l.quenchDue with
  | some d => ceilDiv (tenthsUntil s.boothTime d) 10
  | none =>
    let stop := if followedByReel c.slot (s.programs.get p.screen) then c.reel.xco else c.reel.lastPicture
    let r := if l.st = .running then stop - (s.chan p).frames else stop - c.reel.head
    ceilDiv r 24 + l.settings.quenchDelay

/-- Need, in 0.1 mm (R103). -/
def needOf (t : BurnTable) (standbyCurrent s1 runCurrent s2 : Nat) : Nat :=
  ceilDiv (min 4294967295 (min 4294967295 (burnRate t standbyCurrent * s1) + min 4294967295 (burnRate t runCurrent * s2))) 100

/-- Clamped to -32,767 to 32,767 (R103). -/
def clampSpare (x : Int) : Int := max (-32767) (min 32767 x)

/-- Spare seconds, positive in hand and negative lacking (R103). -/
def spareOf (rate : Nat) (available : Int) (need : Nat) : Int :=
  if (need : Int) ≤ available then clampSpare (((available - need).toNat * 100 / rate : Nat) : Int)
  else clampSpare (-((ceilDiv (((need : Int) - available).toNat * 100) rate : Nat) : Int))

/-- The figures of a forecast for one warm time, for a VALID context (R100 to R103). -/
def figuresOf (s : State) (p : Proj) (c : Context) (warm : Nat) (choice : WarmChoice) : Figures :=
  let l := s.lamp p
  let run := forecastCurrent s p
  let sb := min l.settings.standby run
  let s1 := standbySeconds s p warm
  let s2 := runSeconds s p c
  let need := needOf l.settings.burn sb s1 run s2
  let available : Int := (l.carbon : Int) - (l.settings.margin : Int)
  { madeAt := s.boothTime, standbySeconds := s1, standbyCurrent := sb, runSeconds := s2, runCurrent := run,
    choice := choice, need := need, available := available, spare := spareOf (burnRate l.settings.burn run) available need }

/-- ENOUGH when available is at least need, SHORT otherwise (R103). -/
def Figures.verdict (f : Figures) : Forecast := if (f.need : Int) ≤ f.available then .enough f else .short f

def Forecast.isShort : Forecast → Bool
  | .short _ => true
  | _ => false

/-- The forecast replaces the last one whole, and one that turns SHORT sends CARBON SHORT (R103, R105). -/
def keepForecast (p : Proj) (f : Forecast) (s : State) : State :=
  let t := s.modLamp p (fun l => { l with forecast := f })
  match f, (s.lamp p).forecast.isShort with
  | .short x, false => notifyScreen p.screen (.carbonShort p x.need x.available x.spare) t
  | _, _ => t

/-- A single forecast (R104); its warm choice is the one the last economy choice made (log 15). -/
def singleForecast (p : Proj) (s : State) : State :=
  match s.ctx p with
  | none => keepForecast p .noReel s
  | some c => keepForecast p (figuresOf s p c (s.lamp p).chosenWarm (s.lamp p).chosenBy).verdict s

/-- The chosen warm time is set with the choice that set it (R106). -/
def chooseWarm (p : Proj) (warm : Nat) (choice : WarmChoice) (s : State) : State :=
  s.modLamp p (fun l => { l with chosenWarm := warm, chosenBy := choice })

/-- The economy choice of an unlit lamp (R106); the Sequencer is told by the caller. -/
def economyChoice (p : Proj) (s : State) : State :=
  match s.ctx p with
  | none => keepForecast p .noReel s
  | some c =>
    let x := (s.lamp p).settings
    let first := (figuresOf s p c x.warm .full).verdict
    let second := (figuresOf s p c x.minWarm .economy).verdict
    if first.isShort && !second.isShort then
      notifyScreen p.screen (.economyStrike p x.warm x.minWarm) (keepForecast p second (chooseWarm p x.minWarm .economy s))
    else keepForecast p first (chooseWarm p x.warm .full s)

end Sys2Proof.Machine
end

