-- ==== Sys2Proof/Machine/Sequencer.lean ====
section
/-! DEFINITION. The Show Sequencer's operations: demands and roles (R41, R42), the changeover record (R52 to R65), halts
(R67, R69), start sequences (R46, R47, R49), the end of a reel (R48 to R50), light marks (R66), and what the Sequencer does
with the events of the channels and of the lamps. What it re-examines at the end of every event stands in Settle.lean. -/

namespace Sys2Proof.Machine

/-! ## Small changes -/

/-- The changeover record changed, where there is one. -/
def modRecord (n : Screen) (f : Changeover → Changeover) (s : State) : State :=
  s.modSeq n (fun q => { q with changeover := q.changeover.map f })

def setRole (p : Proj) (r : Role) (s : State) : State := s.modSeq p.screen (fun q => q.setRole p.side r)

def setDemand (p : Proj) (d : Demand) (s : State) : State :=
  s.modSeq p.screen (fun q => { q with demand := q.demand.set p.side d })

/-- Demand is set for one projector and cleared for the other, the clearing first (R42). -/
def demandOnly (p : Proj) (s : State) : State := setDemand p .set (setDemand p.other .clear s)

def soundOf : Side → Sound
  | .a => .a
  | .b => .b

def setSound (n : Screen) (x : Sound) (s : State) : State := s.modSeq n (fun q => { q with sound := x })

/-- The context becomes COMMITTED (R16). -/
def commit (p : Proj) (s : State) : State :=
  match s.ctx p with
  | some c => s.setCtx p (some { c with committed := true })
  | none => s

/-! ## The record returns to NONE (R65) -/

/-- What is undone for an incoming projector that is not to become active (R65): its queued request, its lamp, its motor
and its role. -/
def undoIncoming (p : Proj) (s : State) : State :=
  setRole p .idle (motorOff p (quenchLamp p (withdrawRequest p s)))

/-- The record returns to NONE, sparing a projector that is to become active (R65, R70). -/
def recordToNoneSparing (n : Screen) (spare : Option Side) (s : State) : State :=
  match (s.seq n).changeover with
  | none => s
  | some r =>
    let t := if r.st = .switched ∨ spare = some r.incoming then s else undoIncoming ⟨n, r.incoming⟩ s
    t.modSeq n (fun q => { q with changeover := none })

/-- The record returns to NONE (R65). -/
def recordToNone (n : Screen) (s : State) : State := recordToNoneSparing n none s

/-! ## A request that could not stand (R46, R55) -/

/-- The Sequencer is told that a lamp is unavailable: its request was withdrawn by a QUENCH order, or dropped (R46, R55,
R78). -/
def lampUnavailable (p : Proj) (s : State) : State :=
  let q := s.seq p.screen
  if q.startsUnfrozen p.side ∧ (q.startRec.map StartRec.phase) = some .strikeWait then
    notifyScreen p.screen (.lampUnavailable p.screen) s
  else
    match q.changeover with
    | some r =>
      if r.incoming = p.side ∧ r.st ≠ .switched then
        notifyScreen p.screen (.lampUnavailable p.screen) (modRecord p.screen (fun r => { r with unavailable := true }) s)
      else s
    | none => s

/-- The Sequencer raises a strike request, and is told when the Lamp Controller drops it (R78). -/
def raiseRequest (p : Proj) (target : Target) (deadline : BoothTime) (s : State) : State :=
  if requestDropped (s.lamp p) then lampUnavailable p s else strikeRequest p target deadline s

/-! ## Strike action and arming (R53, R54) -/

/-- The strike action (R54): the deadline is set, and the incoming lamp is asked for by its state. -/
def strikeAction (n : Screen) (s : State) : State :=
  match (s.seq n).changeover with
  | none => s
  | some r =>
    let inc : Proj := ⟨n, r.incoming⟩
    let deadline := after s.boothTime (ceilDiv ((r.xco - (s.chan inc.other).frames) * 10) 24)
    let t := modRecord n (fun r => { r with deadline := some deadline, st := .lampWait }) s
    match (s.lamp inc).st with
    | .standby | .running => modRecord n (fun r => { r with st := .warm }) t
    | .striking => t
    | .queued | .quenching => strikeRequest inc .standby deadline t
    | .dark =>
      if (s.lamp inc).stubMark then
        notifyScreen n (.lampUnavailable n) (modRecord n (fun r => { r with unavailable := true }) t)
      else strikeRequest inc .standby deadline t
    | .fault => notifyScreen n (.lampUnavailable n) (modRecord n (fun r => { r with unavailable := true }) t)

/-- The strike point, Xmc - w x 24 (R54). -/
def strikePointOf (xmc warm : Nat) : Int := (xmc : Int) - 24 * (warm : Int)

/-- The strike action is taken when an ARMED record, not held, finds the outgoing count at or past its strike point (R54,
R63). -/
def strikeIfReached (n : Screen) (s : State) : State :=
  match (s.seq n).changeover with
  | some r =>
    if r.st = .armed ∧ r.restartHeld = false ∧ r.strikePoint ≤ ((s.chan ⟨n, r.incoming.other⟩).frames : Int) then
      strikeAction n s
    else s
  | none => s

/-- The Sequencer is told the chosen warm time after an economy choice (R54, R106). -/
def warmChosen (p : Proj) (s : State) : State :=
  match (s.seq p.screen).changeover with
  | some r =>
    if r.st = .armed ∧ r.incoming = p.side then
      strikeIfReached p.screen
        (modRecord p.screen (fun r => { r with strikePoint := strikePointOf r.xmc (s.lamp p).chosenWarm }) s)
    else s
  | none => s

/-- The outgoing context's cue mode and window; COUNT where the context is EMPTY, as no cue is then left to take. -/
def cueRules (s : State) (out : Proj) : CueMode × Nat :=
  match s.ctx out with
  | some c => (c.reel.mode, c.reel.window)
  | none => (.count, 0)

/-- The frame at which a cue at X is taken by count: X, or X + W in SENSE mode (R57). -/
def countFrame (rules : CueMode × Nat) (x : Nat) : Nat :=
  match rules.1 with
  | .sense => x + rules.2
  | _ => x

/-- The motor cue is taken (R58). -/
def takeMotorCue (n : Screen) (take : CueTake) (s : State) : State :=
  let t := modRecord n (fun r => { r with motorCue := some take }) s
  match (t.seq n).changeover with
  | none => t
  | some r =>
    if r.restartHeld then t
    else
      let u := if r.st = .armed then strikeAction n t else t
      modRecord n (fun r => { r with st := .rolling }) (motorOn ⟨n, r.incoming⟩ (commit ⟨n, r.incoming⟩ u))

/-- The record as arming sets it (R53). -/
def armedRecord (incoming : Side) (out : Context) (warm : Nat) : Changeover :=
  { st := .armed, incoming := incoming, xmc := out.reel.xmc, xco := out.reel.xco,
    strikePoint := strikePointOf out.reel.xmc warm, deadline := none, motorCue := none, changeCue := none,
    motorPulse := false, changePulse := false, stray := 0, offset := none, unavailable := false, restartHeld := false }

/-- The side and the contexts that arming needs: the record NONE, the screen SHOWING, the next item a REEL item whose slot
the other projector's VALID context holds with F below its P, and the active F below Xco (R53). -/
def canArm (s : State) (n : Screen) : Option (Side × Context) :=
  let q := s.seq n
  match q.showState, q.changeover, q.activeSide, s.itemAt n (q.pointer + 1) with
  | .showing, none, some x, some (.reel slot) =>
    match s.ctx ⟨n, x⟩, s.ctx ⟨n, x.other⟩ with
    | some out, some inc =>
      if inc.slot = slot ∧ (s.chan ⟨n, x.other⟩).frames < inc.reel.lastPicture ∧ (s.chan ⟨n, x⟩).frames < out.reel.xco then
        some (x.other, out)
      else none
    | _, _ => none
  | _, _, _, _ => none

/-- Arming is examined (R53); late arming takes the strike action and the motor cue at once. -/
def examineArming (n : Screen) (s : State) : State :=
  match canArm s n with
  | none => s
  | some (x, out) =>
    let t := (setRole ⟨n, x⟩ .incoming s).modSeq n (fun q =>
      { q with changeover := some (armedRecord x out (s.lamp ⟨n, x⟩).chosenWarm) })
    let u := strikeIfReached n t
    let f := (s.chan ⟨n, x.other⟩).frames
    if countFrame (out.reel.mode, out.reel.window) out.reel.xmc ≤ f then takeMotorCue n ⟨.count, f⟩ u else u

/-! ## The switch (R60 to R62) -/

/-- The switch, made in one event (R60), with the outgoing lamp's delayed quench (R61); the notice is LATE CHANGEOVER for a
late switch (R62). -/
def switchOver (n : Screen) (late : Bool) (s : State) : State :=
  match (s.seq n).changeover with
  | none => s
  | some r =>
    let inc : Proj := ⟨n, r.incoming⟩
    let out : Proj := ⟨n, r.incoming.other⟩
    let head := match s.ctx inc with
      | some c => c.reel.head
      | none => 0
    let offset : Int := ((s.chan inc).frames : Int) - (head : Int)
    let t := setSound n (soundOf r.incoming) (demandOnly inc (setRunning inc s))
    let u := modRecord n (fun r => { r with offset := some offset, st := .switched }) t
    let v := setRole out (.runOff .switched) (setRole inc .active u)
    let w := v.modSeq n (fun q => { q with pointer := q.pointer + 1 })
    let body := if late then NoticeBody.lateChangeover offset r.motorCue r.changeCue
      else NoticeBody.changeover offset r.motorCue r.changeCue
    delayedQuench out (notifyScreen n body w)

/-- The changeover cue is taken: the switch in READY, MISSED from ARMED to ROLLING (R60, R62). A record that is MISSED already
(at P, with its cue untaken) records the cue and does no more, since R60 gives no action for it (log 13). -/
def takeChangeCue (n : Screen) (take : CueTake) (s : State) : State :=
  let t := modRecord n (fun r => { r with changeCue := some take }) s
  match (t.seq n).changeover with
  | none => t
  | some r =>
    match r.st with
    | .ready => switchOver n false t
    | .armed | .lampWait | .warm | .rolling =>
      notifyScreen n (.changeoverMissed n) (modRecord n (fun r => { r with st := .missed }) t)
    | .missed | .switched => t

/-! ## Cues by count and by pulse (R56, R57) -/

/-- The record takes cues in the states ARMED to READY (R58, R60). -/
def RecState.takesCues : RecState → Bool
  | .armed | .lampWait | .warm | .rolling | .ready => true
  | .switched | .missed => false

/-- The motor cue by count, at the outgoing frame event F (R57). -/
def motorCueByCount (n : Screen) (out : Proj) (s : State) : State :=
  match (s.seq n).changeover with
  | some r =>
    if r.st.takesCues ∧ r.motorCue = none ∧ countFrame (cueRules s out) r.xmc ≤ (s.chan out).frames then
      takeMotorCue n ⟨.count, (s.chan out).frames⟩ s
    else s
  | none => s

/-- The changeover cue by count, at the outgoing frame event F (R57). -/
def changeCueByCount (n : Screen) (out : Proj) (s : State) : State :=
  match (s.seq n).changeover with
  | some r =>
    if r.st.takesCues ∧ r.changeCue = none ∧ countFrame (cueRules s out) r.xco ≤ (s.chan out).frames then
      takeChangeCue n ⟨.count, (s.chan out).frames⟩ s
    else s
  | none => s

/-- The cue was taken by count. -/
def byCount (c : Option CueTake) : Bool :=
  match c with
  | some ⟨.count, _⟩ => true
  | _ => false

/-- A cue recorded as CHECK-MISMATCH keeps its frame. -/
def mismatched (c : Option CueTake) : Option CueTake := c.map (fun t => { t with how := .checkMismatch })

/-- The check of a CHECKED motor cue at X + W (R57). -/
def motorCheck (n : Screen) (out : Proj) (s : State) : State :=
  match (s.seq n).changeover with
  | some r =>
    let rules := cueRules s out
    if rules.1 = .checked ∧ r.st ≠ .switched ∧ (s.chan out).frames = r.xmc + rules.2 ∧ byCount r.motorCue ∧ r.motorPulse = false then
      notifyScreen n (.cueMismatch .motor r.xmc) (modRecord n (fun r => { r with motorCue := mismatched r.motorCue }) s)
    else s
  | none => s

/-- The check of a CHECKED changeover cue at X + W, which goes on after the switch it brings (R57). -/
def changeCheck (n : Screen) (out : Proj) (s : State) : State :=
  match (s.seq n).changeover with
  | some r =>
    let rules := cueRules s out
    if rules.1 = .checked ∧ (s.chan out).frames = r.xco + rules.2 ∧ byCount r.changeCue ∧ r.changePulse = false then
      notifyScreen n (.cueMismatch .changeover r.xco) (modRecord n (fun r => { r with changeCue := mismatched r.changeCue }) s)
    else s
  | none => s

/-- The record at an outgoing frame event (R54, R57), where `out` is the outgoing projector. -/
def recordFrame (n : Screen) (out : Proj) (s : State) : State :=
  match (s.seq n).changeover with
  | some r =>
    if r.incoming = out.side.other then
      if r.st = .switched then changeCheck n out s
      else changeCheck n out (changeCueByCount n out (motorCheck n out (motorCueByCount n out (strikeIfReached n s))))
    else s
  | none => s

/-- A stamp within the window of a cue at X (R56). -/
def inWindow (x w stamp : Nat) : Bool := decide (x ≤ stamp + w) && decide (stamp ≤ x + w)

/-- Was the cue recorded as CHECK-MISMATCH? A later pulse is then a repeat (R57). -/
def isMismatch (c : Option CueTake) : Bool :=
  match c with
  | some ⟨.checkMismatch, _⟩ => true
  | _ => false

/-- A pulse in SENSE mode (R56, R57). -/
def pulseSense (n : Screen) (r : Changeover) (w stamp : Nat) (s : State) : State :=
  if r.motorCue = none ∧ inWindow r.xmc w stamp then takeMotorCue n ⟨.sensor, stamp⟩ s
  else if r.changeCue = none ∧ inWindow r.xco w stamp then takeChangeCue n ⟨.sensor, stamp⟩ s
  else if inWindow r.xmc w stamp || inWindow r.xco w stamp then s
  else modRecord n (fun r => { r with stray := min 255 (r.stray + 1) }) s

/-- A pulse in CHECKED mode, which takes no cue but is seen, before or after X (R56, R57, log 29). -/
def pulseChecked (n : Screen) (r : Changeover) (w stamp : Nat) (s : State) : State :=
  let inM := inWindow r.xmc w stamp
  let inC := inWindow r.xco w stamp
  if r.motorCue = none ∧ inM then modRecord n (fun r => { r with motorPulse := true }) s
  else if r.changeCue = none ∧ inC then modRecord n (fun r => { r with changePulse := true }) s
  else if inM ∧ r.motorPulse = false ∧ isMismatch r.motorCue = false then
    modRecord n (fun r => { r with motorPulse := true }) s
  else if inC ∧ r.changePulse = false ∧ isMismatch r.changeCue = false then
    modRecord n (fun r => { r with changePulse := true }) s
  else if inM || inC then s
  else modRecord n (fun r => { r with stray := min 255 (r.stray + 1) }) s

/-- A cue pulse event of a projector, offered to the record when the projector is its outgoing one (R41, R56,
log 30). A SWITCHED record takes it for the check of a changeover cue taken by count; one recorded as ORDER is not checked
(R57). -/
def recordPulse (p : Proj) (stamp : Nat) (s : State) : State :=
  match (s.seq p.screen).changeover with
  | some r =>
    if r.incoming = p.side.other then
      let rules := cueRules s p
      match rules.1, r.st with
      | .count, _ => s
      | .sense, .switched => s
      | .checked, .switched =>
        if inWindow r.xco rules.2 stamp ∧ byCount r.changeCue then
          modRecord p.screen (fun r => { r with changePulse := true }) s
        else s
      | .sense, _ => pulseSense p.screen r rules.2 stamp s
      | .checked, _ => pulseChecked p.screen r rules.2 stamp s
    else s
  | none => s

/-! ## Halts (R67, R69) -/

/-- The restart projector as the first halt fixes it (R67): the STARTING or ACTIVE projector, or for MISSED CHANGEOVER
the projector other than the one that reached P, also when the record is still SWITCHED, the model's choice (log 55). -/
def restartFor (q : Sequencer) (reason : HaltReason) (p : Option Proj) : Option Side :=
  match reason, p with
  | .missedChangeover, some x => some x.side.other
  | _, _ => q.onScreenSide

/-- The Sequencer's items as a halt sets them (R67, R69). -/
def Sequencer.halted (q : Sequencer) (reason : HaltReason) (p : Option Proj) : Sequencer :=
  let frozen := q.startRec.map (fun r => { r with frozen := true })
  if q.showState = .halted then { q with haltReason := some reason, startRec := frozen, sound := .muted }
  else
    { q with haltedFrom := some q.showState, showState := .halted, haltReason := some reason, startRec := frozen,
             sound := .muted, restart := restartFor q reason p, firstMissed := reason == .missedChangeover }

/-- A halt but for its projector actions (R67, R69); a CLOSED screen keeps its state. -/
def haltScreen (n : Screen) (reason : HaltReason) (p : Option Proj) (s : State) : State :=
  if (s.seq n).showState = .closed then s
  else notifyScreenAndHouse n (.screenHalted reason p) (faultTakes n (s.modSeq n (fun q => q.halted reason p)))

/-- Demand cleared and motor off; a RUN-OFF projector whose motor a halt turns off becomes IDLE (R67). -/
def stopFilm (p : Proj) (s : State) : State :=
  let t := setDemand p .clear s
  if motorIsOn t p then
    match (t.seq p.screen).role p.side with
    | .runOff _ => setRole p .idle (motorOff p t)
    | _ => motorOff p t
  else t

/-- A halt on BREAK, STALL or PORT DOWN of a projector (R67). -/
def haltFilm (reason : HaltReason) (p : Proj) (s : State) : State :=
  if (s.seq p.screen).showState = .closed then s
  else recordToNone p.screen (quenchLamp p (stopFilm p (haltScreen p.screen reason (some p) s)))

/-- A halt on STRIKE FAILED or ARC OUT TWICE: the actions are those on the STARTING or ACTIVE projector, and `p` is the
projector concerned (R67). -/
def haltLamp (reason : HaltReason) (p : Proj) (s : State) : State :=
  if (s.seq p.screen).showState = .closed then s
  else
    let t := haltScreen p.screen reason (some p) s
    let u := match (s.seq p.screen).onScreenSide with
      | some x => stopFilm ⟨p.screen, x⟩ t
      | none => t
    recordToNone p.screen u

/-- A halt on booth fire (R67, R141); a CLOSED screen keeps its state. -/
def haltFire (n : Screen) (s : State) : State :=
  recordToNone n (stopFilm ⟨n, .b⟩ (stopFilm ⟨n, .a⟩ (haltScreen n .fire none s)))

/-- A halt on local fire (R67, R145): as FIRE, and the lamp of the STARTING or ACTIVE projector is quenched when the flame
is on the other one. -/
def haltLocalFire (p : Proj) (s : State) : State :=
  if (s.seq p.screen).showState = .closed then s
  else
    let t := stopFilm ⟨p.screen, .b⟩ (stopFilm ⟨p.screen, .a⟩ (haltScreen p.screen .localFire (some p) s))
    let u := match (s.seq p.screen).onScreenSide with
      | some x => if x = p.side then t else quenchLamp ⟨p.screen, x⟩ t
      | none => t
    recordToNone p.screen u

/-- A halt on MISSED CHANGEOVER at P of the outgoing projector (R62): the record stays, or becomes, MISSED (log 13), and one that
is still SWITCHED stays SWITCHED, the model's choice (log 55). -/
def haltMissed (p : Proj) (s : State) : State :=
  let t := haltScreen p.screen .missedChangeover (some p) s
  let u := modRecord p.screen (fun r => if r.st = .switched then r else { r with st := .missed }) t
  setRole p (.runOff .missed) (delayedQuench p (setDemand p .clear u))

/-! ## Emptying a context (R15, R19) -/

/-- The record of the projector's screen names it as incoming, short of SWITCHED. -/
def isIncoming (s : State) (p : Proj) : Bool :=
  match (s.seq p.screen).changeover with
  | some r => decide (r.incoming = p.side) && decide (r.st ≠ .switched)
  | none => false

/-- The record whose incoming projector is threaded anew, or unthreaded, returns to NONE (R15, R65). -/
def dropIncoming (p : Proj) (s : State) : State := if isIncoming s p then recordToNone p.screen s else s

/-- A context becomes EMPTY: the channel is told (R33), a record whose incoming context it was returns to NONE (R15, R65), and
the lit current of a lamp that is still in use is reviewed (R76); that the record comes before the lamp is the model's choice
(log 38). -/
def emptyContext (p : Proj) (s : State) : State :=
  match s.ctx p with
  | none => s
  | some _ => reviewCurrent p (dropIncoming p (channelUnthread p (s.setCtx p none)))

/-! ## Start sequences (R45 to R49) -/

/-- A projector of the screen whose VALID context holds the slot, with F below its P (R45, R49). -/
def reelSide (s : State) (n : Screen) (slot : Nat) : Option Side :=
  Side.all.find? (fun x => match s.ctx ⟨n, x⟩ with
    | some c => decide (c.slot = slot) && decide ((s.chan ⟨n, x⟩).frames < c.reel.lastPicture)
    | none => false)

/-- A lamp that cannot start a reel: FAULT, or DARK at or below its stub margin (R45, R49). -/
def lampUnfit (l : Lamp) : Bool :=
  match l.st with
  | .fault => true
  | .dark => l.stubMark
  | _ => false

/-- The Sequencer asks for the lamp to burn at running current (R46, step 4); the start lead is 600 tenths. -/
def askRunning (p : Proj) (s : State) : State :=
  match (s.lamp p).st with
  | .dark | .queued | .quenching | .fault => raiseRequest p .running (after s.boothTime 600) s
  | .striking | .standby | .running => setRunning p s

/-- The start record is set and the projector's role becomes STARTING (R46, step 2). -/
def beginRecord (p : Proj) (kind : StartKind) (s : State) : State :=
  commit p (setRole p .starting (s.modSeq p.screen (fun q =>
    { q with startRec := some ⟨p.side, kind, .strikeWait, false⟩ })))

/-- A start sequence of kind START or INTERVAL begins (R46). -/
def beginStart (p : Proj) (kind : StartKind) (s : State) : State :=
  let n := p.screen
  let t := if (s.seq n).showState = .interval then
      s.modSeq n (fun q => { q with interval := none, reelPending := false, pointer := q.pointer + 1 })
    else s
  askRunning p (programTakes n 2 (beginRecord p kind t))

/-- The reel item of a screen: at the pointer in READY, after it in INTERVAL (R45, R49). -/
def reelItem (s : State) (n : Screen) : Option Nat :=
  let q := s.seq n
  let position := if q.showState = .interval then q.pointer + 1 else q.pointer
  match s.itemAt n position with
  | some (.reel slot) => some slot
  | _ => none

/-- The projector that can start the reel item now: its slot held with F below P, its lamp fit (R49). -/
def readyToStart (s : State) (n : Screen) : Option Side :=
  match reelItem s n with
  | none => none
  | some slot =>
    match reelSide s n slot with
    | some x => if lampUnfit (s.lamp ⟨n, x⟩) then none else some x
    | none => none

/-- A pending reel start is examined again, after a THREAD, an UNTHREAD or a RESUME (R41, R49, R70, log 27). -/
def examinePending (n : Screen) (s : State) : State :=
  if (s.seq n).showState = .interval ∧ (s.seq n).reelPending = true ∧ (s.seq n).startRec = none then
    match readyToStart s n with
    | some x => beginStart ⟨n, x⟩ .interval s
    | none => s
  else s

/-- What a THREAD or an UNTHREAD has the Sequencer examine: arming, then a pending reel start (R14, R41). -/
def examineThreading (n : Screen) (s : State) : State := examinePending n (examineArming n s)

/-- An interval expires (R49). -/
def expireInterval (n : Screen) (s : State) : State :=
  match readyToStart s n with
  | some x => beginStart ⟨n, x⟩ .interval s
  | none =>
    let t := s.modSeq n (fun q => { q with reelPending := true })
    match (reelItem s n).bind (reelSide s n) with
    | some _ => notifyScreen n (.lampUnavailable n) t
    | none => notifyScreen n (.reelNotThreaded n) t

/-! ## The end of a reel (R48 to R50) -/

/-- The closing (R48). -/
def closing (p : Proj) (s : State) : State :=
  setRole p (.runOff .closing) (delayedQuench p (setSound p.screen .muted (setDemand p .clear s)))

/-- The active projector's F has reached P with the screen SHOWING (R48 to R50, R62). -/
def reelEnds (p : Proj) (s : State) : State :=
  let n := p.screen
  match s.itemAt n ((s.seq n).pointer + 1) with
  | some (.interval minutes scene) =>
    let t := (closing p s).modSeq n (fun q =>
      { q with pointer := q.pointer + 1, interval := some (600 * minutes), showState := .interval })
    notifyScreen n (.interval minutes) (programTakes n scene t)
  | none =>
    let t := (closing p s).modSeq n (fun q => { q with showState := .ended })
    notifyScreen n (.programEnded n) (programTakes n 5 t)
  | some (.reel _) => haltMissed p s

/-! ## Light marks (R66) -/

/-- A mark whose frame equals F is acted on (R66). -/
def actOnMark (p : Proj) (m : LightMark) (s : State) : State :=
  match m.fade with
  | .time => programTakes p.screen m.scene s
  | .film frames => programTakesFilm p.screen m.scene frames p s

/-- The light marks of the projector's context compared with its F (R66). -/
def lightMarks (p : Proj) (s : State) : State :=
  match s.ctx p with
  | some c => forEach (c.reel.marks.filter (fun m => m.frame == (s.chan p).frames)) (actOnMark p) s
  | none => s

/-! ## Events of a channel (R34) -/

/-- In RUN WAIT, the pair AT SPEED with F at or past H sets the starting projector's demand (R47). -/
def examinePair (p : Proj) (s : State) : State :=
  match (s.seq p.screen).startRec, s.ctx p with
  | some r, some c =>
    if r.side = p.side ∧ r.phase = .runWait ∧ r.frozen = false ∧ (s.chan p).motion = .atSpeed ∧
        c.reel.head ≤ (s.chan p).frames ∧ (s.seq p.screen).demand.get p.side = .clear then demandOnly p s
    else s
  | _, _ => s

/-- The active projector is at P, or past it where a start or a RESUME completed there (log 43), on a SHOWING screen (R48). -/
def endIfReached (p : Proj) (s : State) : State :=
  match s.lastPicture p with
  | some f =>
    if (s.seq p.screen).role p.side = .active ∧ (s.seq p.screen).showState = .showing ∧ f ≤ (s.chan p).frames then reelEnds p s
    else s
  | none => s

/-- A frame event at the Sequencer of the screen, by the projector's role (R41, R47, R48, R57, R66). -/
def sequencerFrame (p : Proj) (s : State) : State :=
  let q := s.seq p.screen
  match q.role p.side with
  | .starting => examinePair p (if q.showState = .halted then s else lightMarks p s)
  | .active =>
    if q.showState = .showing then endIfReached p (recordFrame p.screen p (lightMarks p s)) else s
  | .runOff _ => recordFrame p.screen p s
  | .idle | .incoming => s

/-- A BREAK or STALL of an incoming projector (R63). -/
def incomingFault (p : Proj) (fault : IncomingFault) (s : State) : State :=
  match (s.seq p.screen).changeover with
  | some r =>
    if r.incoming ≠ p.side then s
    else
      match r.st with
      | .rolling | .ready =>
        notifyScreen p.screen (.incomingFault fault)
          (modRecord p.screen (fun r => { r with restartHeld := true, st := .armed }) (withdrawRequest p (motorOff p s)))
      | .missed => notifyScreen p.screen (.incomingFault fault) (motorOff p s)
      | _ => s
  | none => s

/-- The run-off of a switch ends with the record back at NONE (R61). -/
def endSwitched (n : Screen) (s : State) : State :=
  match (s.seq n).changeover with
  | some r => if r.st = .switched then s.modSeq n (fun q => { q with changeover := none }) else s
  | none => s

/-- A RUNOUT of a projector (R41, R48, R61, R62, R70, log 19). -/
def onRunout (p : Proj) (s : State) : State :=
  match (s.seq p.screen).role p.side with
  | .runOff .closing => setRole p .idle (motorOff p s)
  | .runOff .switched =>
    examineArming p.screen (endSwitched p.screen (setRole p .idle (emptyContext p (motorOff p s))))
  | .runOff .missed => motorOff p s
  | .runOff .resumed => setRole p .idle (emptyContext p (motorOff p s))
  | _ => s

/-- A BREAK of a projector, by its role (R61, R63, R67, log 33). -/
def onBreak (p : Proj) (s : State) : State :=
  match (s.seq p.screen).role p.side with
  | .starting | .active => haltFilm .filmBreak p s
  | .incoming => incomingFault p .filmBreak s
  | .runOff _ =>
    examineArming p.screen (endSwitched p.screen
      (notifyScreen p.screen (.runOffBreak p.screen) (setRole p .idle (motorOff p s))))
  | .idle => s

/-- A STALL of a projector, by its role (R63, R67). -/
def onStall (p : Proj) (s : State) : State :=
  match (s.seq p.screen).role p.side with
  | .starting => haltFilm .stall p s
  | .incoming => incomingFault p .stall s
  | _ => s

/-! ## Events of a lamp (R55, R68) -/

/-- LAMP WAIT becomes WARM when the incoming lamp is lit (R55). -/
def onLit (p : Proj) (s : State) : State :=
  if isIncoming s p then modRecord p.screen (fun r => if r.st = .lampWait then { r with st := .warm } else r) s else s

/-- Relight hold on a set demand when the lamp leaves RUNNING through arc-out (R42, R68), and the record moved back (R55). -/
def onArcOut (p : Proj) (wasRunning : Bool) (s : State) : State :=
  let t := if wasRunning ∧ (s.seq p.screen).demand.get p.side = .set then setDemand p .relightHold s else s
  if isIncoming s p then
    modRecord p.screen (fun r =>
      match r.st with
      | .warm => { r with st := .lampWait }
      | .ready => { r with st := .rolling }
      | _ => r) t
  else t

/-- The incoming lamp was reclaimed by the budget (R55). -/
def onReclaim (p : Proj) (s : State) : State :=
  if isIncoming s p then
    modRecord p.screen (fun r =>
      match r.st with
      | .warm => { r with st := .lampWait }
      | .ready => { r with st := .rolling }
      | _ => r) s
  else s

/-- A strike failure: it halts the screen of a STARTING or ACTIVE projector (R67), and is notified for an incoming one
(R55). -/
def onStrikeFailed (p : Proj) (s : State) : State :=
  match (s.seq p.screen).role p.side with
  | .starting | .active => haltLamp .strikeFailed p s
  | _ => if isIncoming s p then notifyScreen p.screen (.incomingFault .strikeFailed) s else s

end Sys2Proof.Machine
end

