-- ==== Sys2Proof/Machine/Strike.lean ====
section
/-! DEFINITION. The strike: its attempts (R80 to R82), the lamp lit (R81), the entry into FAULT (R92) and the arc-out (R86,
R87). -/

namespace Sys2Proof.Machine

/-- A lamp in FAULT (R92): its charge is released and its lit current is absent (R76, R110). -/
def Lamp.faulted (l : Lamp) (cause : FaultCause) : Lamp :=
  { l with st := .fault, litCurrent := none, held := false, pendingFeed := 0, lowCount := 0, attempts := 0, phase := none,
           target := none, quenchDue := none, faultCause := some cause, fixedSurge := 0, standing := none }

/-- The lamp goes to FAULT with a cause, and its charge falls (R82, R86). -/
def faultLamp (p : Proj) (cause : FaultCause) (s : State) : State := askExamine (s.modLamp p (fun l => l.faulted cause))

/-- A strike, or an arc-out with spent carbon, ends in FAULT with a STRIKE FAILED notice and the strike failure event (R82,
R86). -/
def failStrike (p : Proj) (cause : FaultCause) (s : State) : State :=
  onStrikeFailed p (notifyScreen p.screen (.strikeFailed p cause) (faultLamp p cause s))

/-- An attempt begins, with its carbon test (R80). -/
def beginAttempt (p : Proj) (s : State) : State :=
  if (s.lamp p).stubMark then failStrike p .noCarbon s
  else s.modLamp p (fun l =>
    { l with attempts := l.attempts + 1, phase := some .touch, touchSamples := 0, strikeTicks := 0 })

/-- An attempt fails with NO ARC or NO DRAW (R82). -/
def failAttempt (p : Proj) (cause : FaultCause) (s : State) : State :=
  if (s.lamp p).attempts < 3 then
    notifyScreen p.screen (.strikeRetry p (s.lamp p).attempts cause)
      (s.modLamp p (fun l => { l with phase := some .coolOff, strikeTicks := 0 }))
  else failStrike p cause s

/-- The lamp record at a strike success (R81). The standby current of the reference is read afresh, before the first regulation:
the model's choice (R75, R77, log 49). So is that the 100 ms feed intervals are counted from here (R84, log 56). -/
def Lamp.litUp (l : Lamp) : Lamp :=
  { l with st := if l.target = some .running then .running else .standby, attempts := 0, target := none, phase := none,
           lowCount := 0, pendingFeed := 0, fixedSurge := 0, standbyRef := l.settings.standby, feedTicks := 0,
           forecastTicks := 0 }

/-- The strike succeeds (R81, R104): the charge falls by the surge fixed at the grant, LAMP LIT is sent, the forecast is made
and the Sequencer has the lit event (log 37). -/
def lightLamp (p : Proj) (s : State) : State :=
  let l := s.lamp p
  let t := s.modLamp p Lamp.litUp
  let u := if l.fixedSurge = 0 then t else askExamine t
  onLit p (singleForecast p
    (notifyScreen p.screen (.lampLit p (decide (l.target = some .running)) l.attempts) u))

/-- The last arc-out lies less than 600 tenths before now (R86, R87). -/
def secondArcOut (now : BoothTime) (last : Option BoothTime) : Bool :=
  match last with
  | some d => decide ((now - d).toNat < 600)
  | none => false

/-- The lamp record of an arc-out that is re-queued: it waits for the state it burned in (R86). -/
def Lamp.requeued (l : Lamp) (now : BoothTime) : Lamp :=
  { l with st := .queued, litCurrent := none, held := false, pendingFeed := 0, lowCount := 0, fixedSurge := 0,
           standing := none, lastArcOut := some now,
           target := some (if l.st = .running then .running else .standby) }

/-- The arc is out (R86, R87): the first case of R86's list that holds is taken, also for an arc-out that lies within 60 s of
the last, the model's choice (log 44). -/
def arcOut (p : Proj) (s : State) : State :=
  let l := s.lamp p
  let running := decide (l.st = .running)
  let second := !l.quenchDue.isSome && !l.stubMark && secondArcOut s.boothTime l.lastArcOut
  let t := notifyScreen p.screen (.arcOut p running (if second then 2 else 1)) s
  if l.quenchDue.isSome then onArcOut p running (quenchLamp p t)
  else if l.stubMark then failStrike p .noCarbon t
  else if second then haltLamp .arcOutTwice p (faultLamp p .arcOutTwice t)
  else onArcOut p running (budgetRequest p s.boothTime (askExamine (t.modLamp p (fun x => x.requeued s.boothTime))))

end Sys2Proof.Machine
end

