-- ==== Sys2Proof/Machine/Budget.lean ====
section
/-! DEFINITION. The budget's examination of its queue: grant (R115), reclaim (R116, R117), late strikes (R119), overdraft
(R120, R121). -/

namespace Sys2Proof.Machine

/-! ## Grant (R115) -/

/-- The lamp record of a granted lamp, before its first attempt begins (R80, R109, R115, R116). -/
def Lamp.granted (l : Lamp) (current surge : Nat) (deadline : BoothTime) : Lamp :=
  { l with st := .striking, litCurrent := some current, held := false, fixedSurge := surge, standing := some deadline,
           attempts := 0 }

/-- The head is granted (R115); the notice carries the sum as the grant leaves it. -/
def grant (e : Entry) (s : State) : State :=
  let t := (s.modBudget (fun b => { b with queue := dropEntry e.lamp b.queue })).modLamp e.lamp (fun l =>
    l.granted (effectiveCurrent s e.lamp) s.budget.surge e.deadline)
  beginAttempt e.lamp (notifyScreen e.lamp.screen (.strikeGranted e.lamp e.deadline (sigma t) t.budget.cap) t)

/-- The head's charge would fit under Cap (R115). -/
def fits (s : State) (e : Entry) : Bool :=
  decide (sigma s + effectiveCurrent s e.lamp + s.budget.surge ≤ s.budget.cap)

/-! ## Reclaim (R116, R117) -/

/-- A standby lamp's own deadline (R116). -/
def ownDeadline (s : State) (p : Proj) : BoothTime :=
  let standing := (s.lamp p).standing.getD s.boothTime
  match (s.seq p.screen).changeover with
  | some r => if r.incoming = p.side then r.deadline.getD standing else standing
  | none => standing

/-- The later of a best candidate so far and another lamp; the one named first is kept on equal deadlines (R117). -/
def laterOf (s : State) (best : Option Proj) (p : Proj) : Option Proj :=
  match best with
  | none => some p
  | some q => if earlier (ownDeadline s q) (ownDeadline s p) then some p else some q

/-- The candidate with the latest own deadline among the lamps in STANDBY that pass a test (R117, R120). -/
def latestCandidate (s : State) (ok : Proj → Bool) : Option Proj :=
  (Proj.all.filter (fun p => (s.lamp p).st == .standby && ok p)).foldl (laterOf s) none

/-- The candidate of a reclaim for a head: its own deadline later than the head's by more than the gap (R117). -/
def reclaimCandidate (s : State) (e : Entry) : Option Proj :=
  latestCandidate s (fun p => earlier (after e.deadline (10 * s.budget.gap)) (ownDeadline s p))

/-- RECLAIMED to the reclaimed lamp's screen, and to the head's where that is another (R117, R120). -/
def notifyReclaimed (p : Proj) (deadline : BoothTime) (head : Option Proj) (s : State) : State :=
  let t := notifyScreen p.screen (.reclaimed p deadline head) s
  match head with
  | some h => if h.screen = p.screen then t else notifyScreen h.screen (.reclaimed p deadline head) t
  | none => t

/-- One lamp reclaimed: quenched and re-queued held at its own deadline (R117, R120). -/
def reclaim (p : Proj) (head : Option Proj) (s : State) : State :=
  let deadline := ownDeadline s p
  notifyReclaimed p deadline head (onReclaim p (newEntry p deadline true (quenchLamp p s)))

/-- The head's lead point (R117). -/
def leadPoint (s : State) (e : Entry) : BoothTime := e.deadline - BitVec.ofNat 24 (10 * s.budget.lead)

def leadPassed (s : State) (e : Entry) : Bool := passed s.boothTime (leadPoint s e)

/-! ## The examination (R114) -/

/-- Head by head: a head that fits is granted, and a head past its lead point brings reclaims until it fits or no candidate
remains (R114, R115, R117). Each round grants or reclaims, so `rounds` need never exceed the lamps and their reclaims. -/
def examineQueue (rounds : Nat) (s : State) : State :=
  match rounds, s.budget.queue with
  | 0, _ => s
  | _, [] => s
  | k + 1, e :: _ =>
    if s.fire.on || s.budget.overdrawn || e.held then s
    else if fits s e then examineQueue k (grant e s)
    else if leadPassed s e then
      match reclaimCandidate s e with
      | some p => examineQueue k (reclaim p (some e.lamp) s)
      | none => s
    else s

/-- OVERDRAWN clears when the sum is at or below Cap, with BUDGET RESTORED to every line (R121). -/
def restoreBudget (s : State) : State :=
  if s.budget.overdrawn && decide (sigma s ≤ s.budget.cap) then
    notifyAll (.budgetRestored s.budget.cap (sigma s)) (s.modBudget (fun b => { b with overdrawn := false }))
  else s

/-- The lead point of the queue's head has passed (R117). -/
def headLeadPassed (s : State) : Bool :=
  match s.budget.queue with
  | e :: _ => leadPassed s e
  | [] => false

/-- An examination is over: a lead point that has passed has acted on the head it leaves (R117, R167, log 39). -/
def markLead (s : State) : State := s.modBudget (fun b => { b with examine := false, leadTaken := headLeadPassed s })

/-- The budget answers the causes of R114 that have come: the test of R121, then the examination. -/
def examineBudget (s : State) : State := markLead (examineQueue 32 (restoreBudget s))

/-! ## Late strikes (R119) -/

/-- STRIKE LATE for the lamp's entry when its deadline is passed and late sent is clear (R119). -/
def lateStrike (p : Proj) (s : State) : State :=
  match entryOf s p with
  | some e =>
    if passed s.boothTime e.deadline && !e.lateSent then
      notifyScreen p.screen (.strikeLate p e.deadline) (s.modBudget (fun b =>
        { b with queue := b.queue.map (fun x => if x.lamp = p then { x with lateSent := true } else x) }))
    else s
  | none => s

/-- Every entry still in the queue at the end of an examination is tested (R119, log 16). -/
def lateStrikes (s : State) : State := forEach (s.budget.queue.map Entry.lamp) lateStrike s

/-! ## Overdraft (R120) -/

/-- Lamps in STANDBY are reclaimed, latest own deadline first, until the sum is at or below Cap or none remains (R120). -/
def overdraftReclaim (rounds : Nat) (s : State) : State :=
  match rounds with
  | 0 => s
  | k + 1 =>
    if sigma s ≤ s.budget.cap then s
    else
      match latestCandidate s (fun _ => true) with
      | some p => overdraftReclaim k (reclaim p none s)
      | none => s

/-- The budget becomes OVERDRAWN: BUDGET OVERDRAWN to every line, then the overdraft reclaim (R120); its end is a test of
R121. -/
def enterOverdraft (s : State) : State :=
  askExamine (overdraftReclaim 8
    (notifyAll (.budgetOverdrawn s.budget.cap (sigma s)) (s.modBudget (fun b => { b with overdrawn := true }))))

/-- A lamp has come to STANDBY: while OVERDRAWN the overdraft reclaim is made again (R120). -/
def standbyInOverdraft (s : State) : State :=
  if s.budget.overdrawn then askExamine (overdraftReclaim 8 s) else s

end Sys2Proof.Machine
end

