-- ==== Sys2Proof/Machine/Settle.lean ====
section
/-! DEFINITION. The end of an event. Every command's event acts on its owning block first; then the Sequencers re-examine what
the event may have changed (R42, R46, R47, R59, R62), the budget examines its queue where a cause of R114 has come, and the
winners of the circuits are judged once (R128). LOG 5 states this order. -/

namespace Sys2Proof.Machine

/-! ## What a Sequencer re-examines at the end of every event -/

/-- The relight hold comes off when the lamp is RUNNING and the motion AT SPEED together (R42, R68). -/
def relight (p : Proj) (s : State) : State :=
  if (s.seq p.screen).demand.get p.side = .relightHold ∧ (s.lamp p).st = .running ∧ (s.chan p).motion = .atSpeed then
    setDemand p .set s
  else s

/-- A start in STRIKE WAIT: a lamp lit in STANDBY is set to RUNNING, and at RUNNING the phase becomes RUN WAIT with the motor
turned on (R46). -/
def strikeWait (p : Proj) (s : State) : State :=
  let t := if (s.lamp p).st = .standby then setRunning p s else s
  if (t.lamp p).st = .running then
    motorOn p (t.modSeq p.screen (fun q => { q with startRec := q.startRec.map (fun r => { r with phase := .runWait }) }))
  else t

/-- The notice of a completed start (R47, R70). -/
def startNotice (p : Proj) (kind : StartKind) (frames : Nat) : NoticeBody :=
  match kind with
  | .resume => .showResumed frames
  | .start | .interval => .showStarted p frames

/-- A start completes (R47, R70), and arming is examined (R53). -/
def completeStart (p : Proj) (kind : StartKind) (s : State) : State :=
  let t := setSound p.screen (soundOf p.side) (setRole p .active s)
  let u := t.modSeq p.screen (fun q =>
    { q with startRec := none, showState := .showing, haltReason := none, haltedFrom := none, restart := none,
             firstMissed := false })
  examineArming p.screen (notifyScreen p.screen (startNotice p kind (s.chan p).frames) u)

/-- A start in RUN WAIT completes in the event in which the dowser output opens (R47). -/
def runWait (p : Proj) (kind : StartKind) (s : State) : State := if dowserOpen s p then completeStart p kind s else s

/-- A start in progress that no halt has frozen. -/
def startStep (n : Screen) (s : State) : State :=
  match (s.seq n).startRec with
  | some r =>
    if r.frozen then s
    else
      match r.phase with
      | .strikeWait => strikeWait ⟨n, r.side⟩ s
      | .runWait => runWait ⟨n, r.side⟩ r.kind s
  | none => s

/-- The READY test at the record (R59), and the late switch (R62). -/
def recordStep (n : Screen) (s : State) : State :=
  match (s.seq n).changeover with
  | none => s
  | some r =>
    let out : Proj := ⟨n, r.incoming.other⟩
    match r.st, readyTest s ⟨n, r.incoming⟩ with
    | .rolling, true => modRecord n (fun r => { r with st := .ready }) s
    | .ready, false => modRecord n (fun r => { r with st := .rolling }) s
    | .missed, true =>
      if (s.seq n).showState = .showing ∧ (s.chan out).frames < (s.lastPicture out).getD 0 then switchOver n true s else s
    | _, _ => s

/-- What one screen re-examines. -/
def screenStep (n : Screen) (s : State) : State :=
  recordStep n (startStep n (relight ⟨n, .b⟩ (relight ⟨n, .a⟩ s)))

/-- What the four screens re-examine, in their order. -/
def screenSteps (s : State) : State := forEach Screen.all screenStep s

/-! ## The end of an event -/

/-- The budget examines and the screens take what it did, until no cause of R114 is left. -/
def settleBudget (rounds : Nat) (s : State) : State :=
  match rounds with
  | 0 => s
  | k + 1 =>
    let t := screenSteps (examineBudget s)
    if t.budget.examine then settleBudget k t else t

/-- The end of an event (log 5). -/
def settle (s : State) : State :=
  let t := screenSteps s
  if t.budget.examine then judgeLights ((lateStrikes (settleBudget 8 t)).modBudget (fun b => { b with examine := false }))
  else judgeLights t

/-- One event of the running controller; in STANDBY, or held in reset, nothing is taken (R169, R170). -/
def event (f : State → State) (s : State) : State := if s.running then settle (f s) else s

end Sys2Proof.Machine
end

