-- ==== Sys2Proof/Machine/Fire.lean ====
section
/-! DEFINITION. The Fire Protection Unit: sources and booth fire (R139 to R143), gate flame and local fire (R145, R146), port
shutters (R147 to R149), the first scan (R151), and the commands that are its field events. -/

namespace Sys2Proof.Machine

/-! ## Booth fire (R141, R142) -/

def modSources (f : Sources → Sources) (s : State) : State := s.modFire (fun u => { u with sources := f u.sources })

/-- The open entry of the fire record is the newest (R150); its sources are changed by `f`. -/
def modOpenEntry (f : FireEntry → FireEntry) (s : State) : State :=
  s.modFire (fun u =>
    match u.record with
    | e :: rest => if e.ended = .openEntry then { u with record := f e :: rest } else u
    | [] => u)

/-- What the Unit does to the state it owns at booth fire entry: the fire state ON, the twelve holds released, a new entry
of which the four newest are kept (R141, R147, R150). -/
def FireUnit.enter (u : FireUnit) (now : BoothTime) : FireUnit :=
  { u with on := true, holds := Quad.fill (Trio.fill false), record := (⟨now, u.sources, none, .openEntry⟩ :: u.record).take 4 }

/-- A lamp meets booth fire: its queued or held request is withdrawn and it is quenched (R88, R122, R141). -/
def fireLamp (p : Proj) (s : State) : State := quenchLamp p (withdrawRequest p s)

/-- Booth fire is entered (R141). -/
def boothFire (s : State) : State :=
  let t := notifyAll (.fire s.boothTime s.fire.sources) (s.modFire (fun u => u.enter s.boothTime))
  let u := forEach Screen.all haltFire (forEach Proj.all fireLamp t)
  setBoothHolder true u

/-- A source is added to the open entry while the fire state is ON, and every line has the updated sources (R142). -/
def recordSource (src : Source) (s : State) : State :=
  let t := modOpenEntry (fun e => { e with sources := e.sources.set src true }) s
  match t.fire.record with
  | e :: _ => notifyAll (.fire e.entryTime e.sources) t
  | [] => t

/-- A source rises (R139, R142): one already asserted changes nothing; a rise of the fire line while OFF enters booth
fire. -/
def sourceRise (src : Source) (s : State) : State :=
  if s.fire.sources.get src then s
  else
    let t := modSources (fun x => x.set src true) s
    if s.fire.on then recordSource src t
    else if s.fire.sources.any then t
    else boothFire t

/-- A source falls, with no notice (R142). -/
def sourceFall (src : Source) (s : State) : State := modSources (fun x => x.set src false) s

/-- A field source follows its input (R139). -/
def sourceFollows (i : FireInput) (active : Bool) (s : State) : State :=
  if active then sourceRise (.input i) s else sourceFall (.input i) s

/-! ## Gate flame (R145, R146) -/

/-- What the Unit does to the state it owns at a gate flame (R145): the input, the mark, the three holds, the timer. -/
def FireUnit.flameRises (u : FireUnit) (p : Proj) : FireUnit :=
  let v := ((u.setFlame p true).setTimer p (some 0)).setHolds p.screen false
  { v with marks := v.marks.set p.screen true }

/-- A gate flame input rises (R145). -/
def flameRise (p : Proj) (s : State) : State :=
  let t := quenchLamp p (s.modFire (fun u => u.flameRises p))
  let u := notifyScreenAndHouse p.screen (.localFire p) (setLocalHolder true p.screen t)
  haltLocalFire p u

/-- Some gate flame input is asserted. -/
def FireUnit.anyFlame (u : FireUnit) : Bool := Proj.all.any (fun p => u.flame p)

/-- A gate flame input falls: its timer stops, and GATE clears when no flame is left (R146). -/
def flameFall (p : Proj) (s : State) : State :=
  let t := s.modFire (fun u => (u.setFlame p false).setTimer p none)
  if t.fire.anyFlame then t else sourceFall .gate t

/-- A running persistence timer reaches the persistence: it stops, and GATE is asserted (R146). -/
def persistenceReached (p : Proj) (s : State) : State := sourceRise .gate (s.modFire (fun u => u.setTimer p none))

/-! ## Port shutters (R148) -/

/-- The projector of a port shutter; the observation port has none (R147). -/
def projOfPort (q : Port) : Option Proj :=
  match q.kind with
  | .a => some ⟨q.screen, .a⟩
  | .b => some ⟨q.screen, .b⟩
  | .o => none

/-- The projector is ACTIVE and its dowser output is open. -/
def activeOpen (s : State) (p : Proj) : Bool :=
  ((s.seq p.screen).role p.side == .active) && dowserOpen s p

/-- A shutter drops with its hold energised (R148): PORT DOWN, and the halt of a screen whose ACTIVE dowser was open in the
state `before` the switch fell (R67). -/
def portDrops (q : Port) (before s : State) : State :=
  let t := notifyScreenAndHouse q.screen (.portDown q) s
  match projOfPort q with
  | some p => if activeOpen before p then haltFilm .portDown p t else t
  | none => t

/-- An up switch changes (R148); a report of the level it already has is no change. -/
def upChange (q : Port) (up : Bool) (s : State) : State :=
  if s.fire.up q = up then s
  else
    let t := s.modFire (fun u => u.setUp q up)
    if !up && s.fire.hold q then portDrops q s t else t

/-! ## The first scan (R151, R170) -/

/-- The level the first scan finds on a field fire input. -/
def scanLevel (x : ScanInputs) : FireInput → Bool
  | .heat1 => x.heat1
  | .heat2 => x.heat2
  | .panel => x.panel
  | .link => x.link

/-- The four field sources as the scan found them. -/
def Sources.scanned (x : Sources) (i : ScanInputs) : Sources :=
  { x with heat1 := i.heat1, heat2 := i.heat2, panel := i.panel, link := i.link }

/-- The field fire inputs taken (R151): the fire line then asserted enters booth fire; under a fire state already ON each is
a rise or a fall as at any time. -/
def scanSources (i : ScanInputs) (s : State) : State :=
  if s.fire.on then forEach [.heat1, .heat2, .panel, .link] (fun k => sourceFollows k (scanLevel i k)) s
  else
    let t := modSources (fun x => x.scanned i) s
    if t.fire.sources.any then boothFire t else t

/-- The samples of the scan, held at 255 (R94; 00, Units). -/
def scanSamples (i : ScanInputs) (s : State) : State :=
  forEach Proj.all (fun p => fun t => t.modLamp p (fun l =>
    { l with lastCurrent := min 255 ((i.currents.get p.screen).get p.side),
             lastVoltage := min 255 ((i.voltages.get p.screen).get p.side) })) s

/-- A gate flame found asserted at the scan counts as a rise (R151). One that stands asserted and is found clear stays as it is,
until its fall comes: the model's choice (log 52). So is that several are taken in the order 1A to 4B (log 57). -/
def scanFlames (i : ScanInputs) (s : State) : State :=
  forEach Proj.all (fun p => fun t =>
    if (i.flames.get p.screen).get p.side && !t.fire.flame p then flameRise p t else t) s

/-- The first scan of the latch boards after a reset (R151, R170). -/
def firstScan (i : ScanInputs) (s : State) : State :=
  let t := scanSamples i ({ s with scanDue := false }.modFire (fun u => { u with ups := i.ups }))
  scanSources i (scanFlames i t)

/-! ## The commands -/

/-- FIRE_SOURCE_INPUT (R139). -/
def execFireSourceInput (i : FireInput) (active : Bool) (s : State) : Host.Outcome State Fault Refusal :=
  .next (event (sourceFollows i active) s)

/-- GATE_FLAME_RISE (R145); a rise of an input already asserted is none (log 22). -/
def execGateFlameRise (p : Proj) (s : State) : Host.Outcome State Fault Refusal :=
  .next (event (fun t => if t.fire.flame p then t else flameRise p t) s)

/-- GATE_FLAME_FALL (R146); a fall of a clear input is none (log 22). -/
def execGateFlameFall (p : Proj) (s : State) : Host.Outcome State Fault Refusal :=
  .next (event (fun t => if t.fire.flame p then flameFall p t else t) s)

/-- PERSISTENCE (R146): the moment at which the projector's running timer reaches the persistence (log 3). -/
def execPersistence (p : Proj) (s : State) : Host.Outcome State Fault Refusal :=
  .next (event (fun t => if (t.fire.timer p).isSome then persistenceReached p t else t) s)

/-- UP_SWITCH_CHANGE (R148). -/
def execUpSwitchChange (q : Port) (up : Bool) (s : State) : Host.Outcome State Fault Refusal :=
  .next (event (upChange q up) s)

/-- FIRST_SCAN (R151, R170): taken once after a reset. -/
def execFirstScan (i : ScanInputs) (s : State) : Host.Outcome State Fault Refusal :=
  .next (event (fun t => if t.scanDue then firstScan i t else t) s)

end Sys2Proof.Machine
end

