-- ==== Sys2Proof/Machine/Film.lean ====
section
/-! DEFINITION. The film events: perforation and cue pulses (R22, R35, R36), the break window (R31), the coast limit (R32), the
runup limit (R29), and the commands that are they. -/

namespace Sys2Proof.Machine

/-! ## Perforations and frames -/

/-- A frame event (R22, R34): the channel's steps, then the receivers, the House Light Unit first (R131 makes their order
immaterial). -/
def frameEvent (p : Proj) (s : State) : State :=
  let t := channelFrame p s
  sequencerFrame p (everyCircuit (fun c => c.filmStep p (t.chan p).frames) t)

/-- A perforation pulse on a VALID context (R22). -/
def perforation (p : Proj) (divisor : Nat) (s : State) : State :=
  if (s.chan p).phase + 1 < divisor then s.modChan p (fun c => { c with phase := c.phase + 1 })
  else frameEvent p (s.modChan p (fun c => { c with phase := 0 }))

/-! ## Cue pulses -/

/-- Contact bounce: 12 frames or less after the last accepted pulse (R36). -/
def isBounce (last : Option Nat) (stamp : Nat) : Bool :=
  match last with
  | some f => decide (stamp ≤ f + 12)
  | none => false

/-- A cue pulse on a VALID context (R35, R36). -/
def cuePulse (p : Proj) (s : State) : State :=
  let stamp := (s.chan p).frames
  if isBounce (s.chan p).lastCue stamp then s.modChan p (fun c => { c with bounce := min 255 (c.bounce + 1) })
  else recordPulse p stamp (s.modChan p (fun c => { c with lastCue := some stamp }))

/-! ## The limits -/

/-- A state that a break window expiry ends, with the motor on (R31). -/
def Motion.atBreak (m : Motion) : Bool :=
  match m with
  | .atSpeed | .offSpeed => true
  | _ => false

/-- The frame age reaches the break window (R27, R31). -/
def breakReached (p : Proj) (s : State) : State :=
  let t := clearRing p s
  if (s.chan p).motion.atBreak && motorIsOn s p then
    if (s.lastPicture p).getD 0 ≤ (s.chan p).frames then onRunout p (setMotion p .runout t)
    else onBreak p (setMotion p .stoppedBreak t)
  else t

/-- The frame age reaches the coast limit (R32). -/
def coastReached (p : Proj) (s : State) : State :=
  if (s.chan p).motion.coasts && !motorIsOn s p then setMotion p .still s else s

/-- The runup timer reaches the runup limit (R29); out of RUNUP, or with the motor off, it does nothing. -/
def runupReached (p : Proj) (s : State) : State :=
  if (s.chan p).motion = .runup ∧ motorIsOn s p then
    onStall p (setMotion p .stoppedStall (s.modChan p (fun c => { c with runup := none })))
  else s

/-- The break window command's event: the age has come to the window, where it had not passed it (log 3). -/
def breakNow (p : Proj) (s : State) : State :=
  if (s.chan p).age ≤ breakUnits s.motionSettings then
    breakReached p (s.modChan p (fun c => { c with age := breakUnits s.motionSettings }))
  else s

/-- The coast limit command's event: the age has come to 1.0 s, past the break window that it has then reached too (log
3). -/
def coastNow (p : Proj) (s : State) : State :=
  if (s.chan p).age ≤ coastUnits then
    let t := if (s.chan p).age < breakUnits s.motionSettings then breakNow p s else s
    coastReached p (t.modChan p (fun c => { c with age := coastUnits }))
  else s

/-! ## The commands -/

/-- PERFORATION_PULSE (R22): discarded where the context is EMPTY. -/
def execPerforationPulse (p : Proj) (s : State) : Host.Outcome State Fault Refusal :=
  .next (event (fun t =>
    match t.ctx p with
    | some c => perforation p c.reel.format.divisor t
    | none => t) s)

/-- CUE_PULSE (R35, R36): discarded where the context is EMPTY. -/
def execCuePulse (p : Proj) (s : State) : Host.Outcome State Fault Refusal :=
  .next (event (fun t => if (t.ctx p).isSome then cuePulse p t else t) s)

/-- BREAK_WINDOW (R31). -/
def execBreakWindow (p : Proj) (s : State) : Host.Outcome State Fault Refusal := .next (event (breakNow p) s)

/-- COAST_LIMIT (R32). -/
def execCoastLimit (p : Proj) (s : State) : Host.Outcome State Fault Refusal := .next (event (coastNow p) s)

/-- RUNUP_LIMIT (R29): the moment at which the running timer reaches the limit (log 3). -/
def execRunupLimit (p : Proj) (s : State) : Host.Outcome State Fault Refusal :=
  .next (event (fun t => if (t.chan p).runup.isSome then runupReached p t else t) s)

/-- The interval of a screen has come to 0 and its expiry has not been taken. -/
def intervalDue (s : State) (n : Screen) : Bool :=
  let q := s.seq n
  (q.showState == .interval) && (q.interval == some 0) && !q.reelPending && (q.startRec == none)

/-- INTERVAL_EXPIRY (R49): the interval remaining has reached 0; before that it has no effect (log 3). -/
def execIntervalExpiry (n : Screen) (s : State) : Host.Outcome State Fault Refusal :=
  .next (event (fun t => if intervalDue t n then expireInterval n t else t) s)

end Sys2Proof.Machine
end

