-- ==== Sys2Proof/Machine/LampEvents.lean ====
section
/-! DEFINITION. The events of a lamp and of the budget's waits, each with its command: touch samples, draw end, cool-off end
(R80 to R82), regulation and feed (R83, R84), current samples (R86), quench due and quenching end (R89, R90), the lit interval
forecast (R104), the lead point (R117), the late strike (R119) and the advance of booth time (R166). -/

namespace Sys2Proof.Machine

/-! ## Samples in a strike -/

/-- One feed step of TOUCH, which does not pass through the pending feed (R80); none at or below the margin (R96). -/
def touchFeed (p : Proj) (s : State) : State :=
  if (s.lamp p).stubMark then s else withStubCheck p (fun l => { l with carbon := l.carbon - 1 }) s

/-- A current sample in TOUCH (R80). -/
def touchSample (p : Proj) (sample : Nat) (s : State) : State :=
  let t := s.modLamp p (fun l => { l with lastCurrent := min 255 sample, touchSamples := l.touchSamples + 1 })
  if 30 ≤ sample then t.modLamp p (fun l => { l with phase := some .draw, strikeTicks := 0 })
  else if 60 ≤ (t.lamp p).touchSamples then failAttempt p .noArc t
  else touchFeed p t

/-- The current sample at the end of DRAW (R81); a lamp that comes to STANDBY under overdraft brings R120's reclaim,
before the Sequencer may use the lamp in the same event: the model's choice (log 45). -/
def drawEnd (p : Proj) (sample : Nat) (s : State) : State :=
  let t := s.modLamp p (fun l => { l with lastCurrent := min 255 sample })
  if 20 ≤ sample then
    let u := lightLamp p t
    if (u.lamp p).st = .standby then standbyInOverdraft u else u
  else failAttempt p .noDraw t

/-! ## Regulation and feed -/

/-- The error of a regulation, e = V - Vs - b (R83). -/
def regulationError (x : LampSettings) (v : Nat) : Int := (v : Int) - (x.setpoint : Int) - (x.band : Int)

/-- The steps a positive error adds: e divided by g, rounded up, held at 8 (R83). -/
def regulationSteps (x : LampSettings) (v : Nat) : Nat := min 8 (ceilDiv (regulationError x v).toNat x.gain)

/-- The pending feed after a regulation (R83); steps added at or below the margin are discarded at once (R84). -/
def pendingAfter (l : Lamp) (v : Nat) : Nat :=
  if 0 < regulationError l.settings v then
    if l.stubMark then 0 else min 24 (l.pendingFeed + regulationSteps l.settings v)
  else 0

/-- A regulation (R83), at which a new standby current takes effect (R75). -/
def regulate (p : Proj) (sample : Nat) (s : State) : State :=
  s.modLamp p (fun l =>
    { l with lastVoltage := min 255 sample, standbyRef := l.settings.standby, pendingFeed := pendingAfter l (min 255 sample) })

/-- The lamp record after a feed step (R84): a step that brings C down to M discards the rest. -/
def Lamp.fed (l : Lamp) : Lamp :=
  { l with carbon := l.carbon - 1,
           pendingFeed := if l.carbon - 1 ≤ l.settings.margin then 0 else l.pendingFeed - 1 }

/-- A 100 ms feed step (R84). -/
def feedStep (p : Proj) (s : State) : State :=
  if 0 < (s.lamp p).pendingFeed ∧ (s.lamp p).stubMark = false then withStubCheck p Lamp.fed s else s

/-- The end of a 100 ms feed interval: the next one begins, and a pending step is fed (R84, R166). -/
def feedInterval (p : Proj) (s : State) : State := feedStep p (s.modLamp p (fun l => { l with feedTicks := 0 }))

/-! ## The current of a lit lamp -/

/-- A current sample of a lit lamp (R86). -/
def litSample (p : Proj) (sample : Nat) (s : State) : State :=
  let t := s.modLamp p (fun l =>
    { l with lastCurrent := min 255 sample, lowCount := if sample < 20 then l.lowCount + 1 else 0 })
  if 3 ≤ (t.lamp p).lowCount then arcOut p t else t

/-! ## Waits for booth time -/

/-- A wait's booth time has come (R167). -/
def due (s : State) (d : Option BoothTime) : Bool :=
  match d with
  | some x => passed s.boothTime x
  | none => false

/-- The 5 s of quenching end (R90). -/
def quenchingEnds (p : Proj) (s : State) : State :=
  let t := s.modLamp p (fun l => { l with quenchingEnd := none })
  match entryOf s p with
  | some _ =>
    askExamine ((t.modLamp p (fun l => { l with st := .queued })).modBudget (fun b =>
      { b with queue := b.queue.map (fun e => if e.lamp = p then { e with held := false } else e) }))
  | none => notifyScreen p.screen (.lampDark p) (t.modLamp p (fun l => { l with st := .dark }))

/-! ## Booth time -/

/-- The interval remaining of a screen falls by one while it times (R49, R67). -/
def Sequencer.intervalStep (q : Sequencer) : Sequencer :=
  if q.showState = .interval then { q with interval := q.interval.map (fun k => k - 1) } else q

/-- Booth time advances by one tenth (R166): TIME fades step, marked FILM fades complete (R129, R131), intervals fall. -/
def advanceBoothTime (s : State) : State :=
  let t := { s with boothTime := s.boothTime + 1, tickCount := 0, stampSub := 0, seqs := s.seqs.map Sequencer.intervalStep }
  everyCircuit Circuit.timeStep t

/-- The rows that end a wait for booth time, in the order in which an advance tests them (R167, log 2). -/
def waitRows : List Instr :=
  Screen.all.map .intervalExpiry ++ Proj.all.map .quenchDue ++ Proj.all.map .quenchingEnd ++ [.leadPoint] ++
    Proj.all.map .strikeLate

/-- Booth time has reached the head's lead point, and the wait has not acted (R117, R167, log 39). -/
def leadDue (s : State) : Bool := headLeadPassed s && !s.budget.leadTaken

/-- The lamp's entry has its deadline passed and its late sent flag clear (R119). -/
def lateDue (p : Proj) (s : State) : Bool :=
  match entryOf s p with
  | some e => passed s.boothTime e.deadline && !e.lateSent
  | none => false

/-- The wait of a row has ended at an advance of booth time and has not been acted on (R49, R89, R90, R117, R119, R167). -/
def isDue (s : State) : Instr → Bool
  | .intervalExpiry n => intervalDue s n
  | .quenchDue p => due s (s.lamp p).quenchDue
  | .quenchingEnd p => decide ((s.lamp p).st = .quenching) && due s (s.lamp p).quenchingEnd
  | .leadPoint => leadDue s
  | .strikeLate p => lateDue p s
  | _ => false

/-- What the end of a row's wait does. -/
def waitEnds (c : Instr) (s : State) : State :=
  match c with
  | .intervalExpiry n => expireInterval n s
  | .quenchDue p => quenchLamp p s
  | .quenchingEnd p => quenchingEnds p s
  | .leadPoint => askExamine s
  | .strikeLate p => lateStrike p s
  | _ => s

/-- A wait that is due ends, as an event of its own. -/
def takeWait (c : Instr) (s : State) : State := if isDue s c then settle (waitEnds c s) else s

/-- Every wait for booth time is tested (R166, R167). -/
def boothWaits (s : State) : State := forEach waitRows takeWait s

/-- An advance of booth time, with the waits that it ends (R166, R167). -/
def advanceWithWaits (s : State) : State := boothWaits (settle (advanceBoothTime s))

/-! ## The commands -/

/-- TOUCH_SAMPLE (R80): the lamp is in TOUCH, or nothing samples it. -/
def execTouchSample (p : Proj) (sample : Nat) (s : State) : Host.Outcome State Fault Refusal :=
  .next (event (fun t =>
    if (t.lamp p).st = .striking ∧ (t.lamp p).phase = some .touch then touchSample p sample t else t) s)

/-- DRAW_END (R81). -/
def execDrawEnd (p : Proj) (sample : Nat) (s : State) : Host.Outcome State Fault Refusal :=
  .next (event (fun t =>
    if (t.lamp p).st = .striking ∧ (t.lamp p).phase = some .draw then drawEnd p sample t else t) s)

/-- COOL_OFF_END (R82). -/
def execCoolOffEnd (p : Proj) (s : State) : Host.Outcome State Fault Refusal :=
  .next (event (fun t =>
    if (t.lamp p).st = .striking ∧ (t.lamp p).phase = some .coolOff then beginAttempt p t else t) s)

/-- REGULATION (R83). -/
def execRegulation (p : Proj) (sample : Nat) (s : State) : Host.Outcome State Fault Refusal :=
  .next (event (fun t => if (t.lamp p).lit then regulate p sample t else t) s)

/-- FEED_STEP (R84): the feed interval ends now (log 3). -/
def execFeedStep (p : Proj) (s : State) : Host.Outcome State Fault Refusal :=
  .next (event (fun t => if (t.lamp p).lit then feedInterval p t else t) s)

/-- CURRENT_SAMPLE (R86). -/
def execCurrentSample (p : Proj) (sample : Nat) (s : State) : Host.Outcome State Fault Refusal :=
  .next (event (fun t => if (t.lamp p).lit then litSample p sample t else t) s)

/-- QUENCH_DUE (R89): booth time has reached the quench due; that a WARM record of the lamp keeps its state, since R55 names no
move for it, is the model's choice (log 48). -/
def execQuenchDue (p : Proj) (s : State) : Host.Outcome State Fault Refusal :=
  .next (event (fun t => if due t (t.lamp p).quenchDue then quenchLamp p t else t) s)

/-- QUENCHING_END (R90): booth time has reached the quenching end. -/
def execQuenchingEnd (p : Proj) (s : State) : Host.Outcome State Fault Refusal :=
  .next (event (fun t =>
    if (t.lamp p).st = .quenching ∧ due t (t.lamp p).quenchingEnd then quenchingEnds p t else t) s)

/-- LIT_INTERVAL_FORECAST (R104): 60 s of the lit interval have run (log 3). -/
def execLitIntervalForecast (p : Proj) (s : State) : Host.Outcome State Fault Refusal :=
  .next (event (fun t =>
    if (t.lamp p).lit then singleForecast p (t.modLamp p (fun l => { l with forecastTicks := 0 })) else t) s)

/-- LEAD_POINT (R117): booth time has reached the head's lead point, whose wait acts once (R167). -/
def execLeadPoint (s : State) : Host.Outcome State Fault Refusal :=
  .next (event (fun t => if leadDue t then askExamine t else t) s)

/-- STRIKE_LATE (R119): the deadline of the lamp's entry has passed. -/
def execStrikeLate (p : Proj) (s : State) : Host.Outcome State Fault Refusal := .next (event (lateStrike p) s)

/-- BOOTH_TIME_ADVANCE (R166, R167). -/
def execBoothTimeAdvance (s : State) : Host.Outcome State Fault Refusal :=
  .next (if s.running then advanceWithWaits s else s)

end Sys2Proof.Machine
end

