-- ==== Sys2Proof/Machine/Operands.lean ====
section
/-! DEFINITION. Operand forms: how the parameters of an order are judged to be valid values (R1 to R3, R7, R38, R74), the
kind codes of orders (R165), and how the parameter bytes of a message spell an order (R164, R165). -/

namespace Sys2Proof.Machine

/-- A number within a range, both ends included. -/
def within (lo n hi : Nat) : Bool := decide (lo ≤ n) && decide (n ≤ hi)

/-! ## Reel records (R1 to R3) -/

def Format.ofCode : Nat → Option Format
  | 0 => some .f35
  | 1 => some .f70
  | _ => none

def CueMode.ofCode : Nat → Option CueMode
  | 0 => some .count
  | 1 => some .sense
  | 2 => some .checked
  | _ => none

/-- The optional override, a presence byte and a value (R1, R164); an encoding the layout does not give is no value
(log 12). -/
def overrideOfRaw (present value : Nat) : Option (Option Nat) :=
  match present with
  | 0 => if value = 0 then some none else none
  | 1 => if within 30 value 120 then some (some value) else none
  | _ => none

/-- A light mark within H to P (R3); a TIME mark carries a zero count (R164, log 12). -/
def markOfRaw (head lastPicture : Nat) (m : RawMark) : Option LightMark :=
  if within head m.frame lastPicture && decide (m.scene ≤ 7) then
    match m.kind with
    | 0 => if m.count = 0 then some ⟨m.frame, m.scene, .time⟩ else none
    | 1 => if within 1 m.count 480 then some ⟨m.frame, m.scene, .film m.count⟩ else none
    | _ => none
  else none

/-- At most two marks, the second at a greater frame than the first (R3). -/
def marksOfRaw (head lastPicture : Nat) : List RawMark → Option (List LightMark)
  | [] => some []
  | [m] => (markOfRaw head lastPicture m).map (fun x => [x])
  | [m, m'] =>
    match markOfRaw head lastPicture m, markOfRaw head lastPicture m' with
    | some x, some y => if x.frame < y.frame then some [x, y] else none
    | _, _ => none
  | _ => none

/-- The label's length and characters, and the ranges of R1 for the plain numbers. -/
def reelRangesOk (f : ReelFields) : Bool :=
  decide (f.label.length ≤ 8) && f.label.all (fun c => within 0x20 c 0x7E) && within 2000 f.length 65535 &&
    within 0 f.head 480 && within 0 f.tail 480 && within 0 f.lead 240 && within 96 f.motorLead 480 && within 0 f.window 48

/-- The frames of R2 stand in the order H < Xmc < Xco ≤ P. -/
def framesInOrder (r : ReelRecord) : Bool :=
  decide (r.head < r.xmc) && decide (r.xmc < r.xco) && decide (r.xco ≤ r.lastPicture)

/-- The record that valid fields give, with its owner; none where R4's fourth check fails. -/
def reelOf (f : ReelFields) (owner : Screen) : Option ReelRecord :=
  if reelRangesOk f then
    match Format.ofCode f.format, CueMode.ofCode f.mode, overrideOfRaw f.overridePresent f.overrideValue,
        marksOfRaw f.head (f.length - f.tail) f.marks with
    | some fmt, some mode, some current, some marks =>
      let r : ReelRecord :=
        { label := f.label, owner := owner, format := fmt, length := f.length, head := f.head, tail := f.tail,
          lead := f.lead, motorLead := f.motorLead, mode := mode, window := f.window, override := current, marks := marks }
      if framesInOrder r then some r else none
    | _, _, _, _ => none
  else none

/-! ## Programs (R7) -/

def itemOfRaw (i : RawItem) : Option ProgItem :=
  match i.kind with
  | 0 => if within 1 i.first 48 && decide (i.second = 0) then some (.reel i.first) else none
  | 1 => if within 1 i.first 30 && decide (i.second ≤ 7) then some (.interval i.first i.second) else none
  | _ => none

def ProgItem.isInterval : ProgItem → Bool
  | .interval _ _ => true
  | .reel _ => false

/-- No two INTERVAL items next to each other (R7). -/
def noAdjacentIntervals : List ProgItem → Bool
  | [] => true
  | [_] => true
  | x :: y :: rest => !(x.isInterval && y.isInterval) && noAdjacentIntervals (y :: rest)

/-- No two REEL items name the same slot (R7). -/
def noSlotTwice : List ProgItem → Bool
  | [] => true
  | .reel k :: rest => !(rest.any (fun i => i == .reel k)) && noSlotTwice rest
  | .interval _ _ :: rest => noSlotTwice rest

/-- The list shape R7 accepts. -/
def programShapeOk (items : List ProgItem) : Bool :=
  decide (items.length ≤ 12) && noSlotTwice items && noAdjacentIntervals items &&
    !((items.head?.map ProgItem.isInterval).getD false) && !((items.getLast?.map ProgItem.isInterval).getD false)

/-- The program list that valid items give; none where R7 refuses it. -/
def programOf (items : List RawItem) : Option (List ProgItem) :=
  match items.mapM itemOfRaw with
  | some xs => if programShapeOk xs then some xs else none
  | none => none

/-! ## Settings (R38, R74) -/

def burnOk (t : BurnTable) : Bool :=
  [t.p1, t.p2, t.p3, t.p4].all (fun p => within 30 p.current 120 && within 10 p.rate 250) &&
    decide (t.p1.current < t.p2.current) && decide (t.p2.current < t.p3.current) && decide (t.p3.current < t.p4.current)

/-- Every setting within its range (R74). -/
def settingsOk (x : LampSettings) : Bool :=
  within 30 x.run 120 && within 20 x.standby x.run && within 60 x.setpoint 160 && within 1 x.band 10 && within 1 x.gain 8 &&
    within 10 x.warm 120 && within 5 x.minWarm x.warm && within 0 x.quenchDelay 30 && within 50 x.margin 400 && burnOk x.burn

/-- Every motion setting within its range (R38). -/
def motionOk (m : MotionSettings) : Bool :=
  within 120 m.gateThreshold 228 && within 10 m.runupLimit 60 && within 10 m.breakWindow 100 && within 5 m.persistence 100

/-! ## Kind codes (R165) -/

/-- The kind code of an order (R165). -/
def Order.kind : Order → Nat
  | .read _ _ => 0x01
  | .storeReel _ _ _ => 0x02
  | .deleteReel _ => 0x03
  | .storeProgram _ _ => 0x04
  | .storeScene _ _ _ _ => 0x05
  | .thread _ _ => 0x06
  | .unthread _ => 0x07
  | .openScreen _ => 0x08
  | .start _ => 0x09
  | .stop _ => 0x0A
  | .close _ => 0x0B
  | .resume _ => 0x0C
  | .changeNow _ => 0x0D
  | .setLamp _ _ => 0x0E
  | .strike _ _ => 0x0F
  | .quench _ => 0x10
  | .trim _ _ => 0x11
  | .setCapacity _ => 0x12
  | .setSurge _ => 0x13
  | .setReclaim _ _ => 0x14
  | .lights _ _ => 0x15
  | .lightsRelease _ => 0x16
  | .setFloor _ => 0x17
  | .setRest _ _ => 0x18
  | .setMotion _ => 0x19
  | .fireAssert => 0x1A
  | .fireRelease => 0x1B
  | .clearFire => 0x1C
  | .rehang _ => 0x1D
  | .unknown k => k
  | .miscounted k => k

/-- Kind codes 01h to 1Dh are order codes (R165). -/
def isOrderCode (k : Nat) : Bool := within 0x01 k 0x1D

/-! ## From parameter bytes to an order (R164, R165) -/

/-- A two byte number, most significant byte first (R164). -/
def num2 (hi lo : Nat) : Nat := 256 * hi + lo

/-- So many light marks of six bytes each, and nothing after them. -/
def rawMarks : Nat → List Nat → Option (List RawMark)
  | 0, [] => some []
  | k + 1, f1 :: f0 :: sc :: kd :: c1 :: c0 :: rest => (rawMarks k rest).map (fun ms => ⟨num2 f1 f0, sc, kd, num2 c1 c0⟩ :: ms)
  | _, _ => none

/-- So many program items of three bytes each, and nothing after them. -/
def rawItems : Nat → List Nat → Option (List RawItem)
  | 0, [] => some []
  | k + 1, a :: b :: c :: rest => (rawItems k rest).map (fun items => ⟨a, b, c⟩ :: items)
  | _, _ => none

/-- The fields of STORE REEL after its label. -/
def reelTail (label : List Nat) : List Nat → Option ReelFields
  | fmt :: l1 :: l0 :: h1 :: h0 :: t1 :: t0 :: c :: m1 :: m0 :: mode :: w :: op :: ov :: count :: rest =>
    (rawMarks count rest).map (fun ms =>
      { label := label, format := fmt, length := num2 l1 l0, head := num2 h1 h0, tail := num2 t1 t0, lead := c,
        motorLead := num2 m1 m0, mode := mode, window := w, overridePresent := op, overrideValue := ov, marks := ms })
  | _ => none

/-- The fields of STORE REEL: the label as a counted text, then the rest. -/
def rawReel : List Nat → Option ReelFields
  | count :: rest => if count ≤ rest.length then reelTail (rest.take count) (rest.drop count) else none
  | [] => none

/-- The order that a kind code and parameter bytes spell; `miscounted` where the bytes do not have the count the layout
gives, `unknown` where the code is no order's (R157). The LEVELS form of LIGHTS has no count field of its own, and its form byte
alone gives its count: the model's choice (R134, R157, R165, log 53). -/
def orderOf (kind : Nat) (params : List Nat) : Order :=
  match kind with
  | 0x01 => match params with
    | [i, h, l] => .read i (num2 h l)
    | _ => .miscounted kind
  | 0x02 => match params with
    | slot :: owner :: rest => match rawReel rest with
      | some f => .storeReel slot owner f
      | none => .miscounted kind
    | _ => .miscounted kind
  | 0x03 => match params with
    | [slot] => .deleteReel slot
    | _ => .miscounted kind
  | 0x04 => match params with
    | n :: count :: rest => match rawItems count rest with
      | some items => .storeProgram n items
      | none => .miscounted kind
    | _ => .miscounted kind
  | 0x05 => match params with
    | [k, h, a, f1, f0] => .storeScene k h a (num2 f1 f0)
    | _ => .miscounted kind
  | 0x06 => match params with
    | [p, slot] => .thread p slot
    | _ => .miscounted kind
  | 0x07 => match params with
    | [p] => .unthread p
    | _ => .miscounted kind
  | 0x08 => match params with
    | [n] => .openScreen n
    | _ => .miscounted kind
  | 0x09 => match params with
    | [n] => .start n
    | _ => .miscounted kind
  | 0x0A => match params with
    | [n] => .stop n
    | _ => .miscounted kind
  | 0x0B => match params with
    | [n] => .close n
    | _ => .miscounted kind
  | 0x0C => match params with
    | [n] => .resume n
    | _ => .miscounted kind
  | 0x0D => match params with
    | [n] => .changeNow n
    | _ => .miscounted kind
  | 0x0E => match params with
    | [p, run, sb, vs, b, g, w, mw, q, m1, m0, i1, b1, i2, b2, i3, b3, i4, b4] =>
      .setLamp p (LampSettings.mk run sb vs b g w mw q (num2 m1 m0)
        (BurnTable.mk ⟨i1, b1⟩ ⟨i2, b2⟩ ⟨i3, b3⟩ ⟨i4, b4⟩))
    | _ => .miscounted kind
  | 0x0F => match params with
    | [p, r] => .strike p r
    | _ => .miscounted kind
  | 0x10 => match params with
    | [p] => .quench p
    | _ => .miscounted kind
  | 0x11 => match params with
    | [p, h, l] => .trim p (num2 h l)
    | _ => .miscounted kind
  | 0x12 => match params with
    | [h, l] => .setCapacity (num2 h l)
    | _ => .miscounted kind
  | 0x13 => match params with
    | [v] => .setSurge v
    | _ => .miscounted kind
  | 0x14 => match params with
    | [v, h, l] => .setReclaim v (num2 h l)
    | _ => .miscounted kind
  | 0x15 => match params with
    | [n, 0, k] => .lights n (.scene k)
    | [n, 1, h, a, f1, f0] => .lights n (.levels h a (num2 f1 f0))
    | _ => .miscounted kind
  | 0x16 => match params with
    | [n] => .lightsRelease n
    | _ => .miscounted kind
  | 0x17 => match params with
    | [v] => .setFloor v
    | _ => .miscounted kind
  | 0x18 => match params with
    | [c, v] => .setRest c v
    | _ => .miscounted kind
  | 0x19 => match params with
    | [g, r, w, t] => .setMotion ⟨g, r, w, t⟩
    | _ => .miscounted kind
  | 0x1A => match params with
    | [] => .fireAssert
    | _ => .miscounted kind
  | 0x1B => match params with
    | [] => .fireRelease
    | _ => .miscounted kind
  | 0x1C => match params with
    | [] => .clearFire
    | _ => .miscounted kind
  | 0x1D => match params with
    | [n] => .rehang n
    | _ => .miscounted kind
  | k => .unknown k

/-! ## From an order to its parameter bytes (R164, R165) -/

/-- The two bytes of a number, most significant first (R164). -/
def two (n : Nat) : List Nat := [n / 256, n % 256]

def markParams (m : RawMark) : List Nat := two m.frame ++ [m.scene, m.kind] ++ two m.count

/-- The bytes of a STORE REEL after its slot and owner. -/
def reelParams (f : ReelFields) : List Nat :=
  f.label.length :: f.label ++ (f.format :: two f.length ++ two f.head ++ two f.tail ++ [f.lead] ++ two f.motorLead ++
    [f.mode, f.window, f.overridePresent, f.overrideValue, f.marks.length] ++ f.marks.flatMap markParams)

def itemParams (i : RawItem) : List Nat := [i.kind, i.first, i.second]

def burnParams (p : BurnPoint) : List Nat := [p.current, p.rate]

def settingsParams (x : LampSettings) : List Nat :=
  [x.run, x.standby, x.setpoint, x.band, x.gain, x.warm, x.minWarm, x.quenchDelay] ++ two x.margin ++
    burnParams x.burn.p1 ++ burnParams x.burn.p2 ++ burnParams x.burn.p3 ++ burnParams x.burn.p4

def lightsParams : LightsForm → List Nat
  | .scene k => [0, k]
  | .levels h a fade => [1, h, a] ++ two fade

/-- The parameter bytes of an order (R164, R165); an order the table does not name has none. -/
def Order.params : Order → List Nat
  | .read item selector => item :: two selector
  | .storeReel slot owner f => slot :: owner :: reelParams f
  | .deleteReel slot => [slot]
  | .storeProgram n items => n :: items.length :: items.flatMap itemParams
  | .storeScene k h a fade => [k, h, a] ++ two fade
  | .thread p slot => [p, slot]
  | .unthread p => [p]
  | .openScreen n => [n]
  | .start n => [n]
  | .stop n => [n]
  | .close n => [n]
  | .resume n => [n]
  | .changeNow n => [n]
  | .setLamp p x => p :: settingsParams x
  | .strike p run => [p, run]
  | .quench p => [p]
  | .trim p length => p :: two length
  | .setCapacity cap => two cap
  | .setSurge surge => [surge]
  | .setReclaim lead gap => lead :: two gap
  | .lights n form => n :: lightsParams form
  | .lightsRelease n => [n]
  | .setFloor v => [v]
  | .setRest c v => [c, v]
  | .setMotion m => [m.gateThreshold, m.runupLimit, m.breakWindow, m.persistence]
  | .fireAssert => []
  | .fireRelease => []
  | .clearFire => []
  | .rehang n => [n]
  | .unknown _ => []
  | .miscounted _ => []

/-- The order that a command stands for, with the line it comes on; none for the rows that are no orders (log 1). -/
def orderOfInstr : Instr → Option (Line × Order)
  | .read l item selector => some (l, .read item selector)
  | .storeReel l slot owner f => some (l, .storeReel slot owner f)
  | .deleteReel l slot => some (l, .deleteReel slot)
  | .storeProgram l n items => some (l, .storeProgram n items)
  | .storeScene l k h a fade => some (l, .storeScene k h a fade)
  | .thread l p slot => some (l, .thread p slot)
  | .unthread l p => some (l, .unthread p)
  | .openScreen l n => some (l, .openScreen n)
  | .start l n => some (l, .start n)
  | .stop l n => some (l, .stop n)
  | .close l n => some (l, .close n)
  | .resume l n => some (l, .resume n)
  | .changeNow l n => some (l, .changeNow n)
  | .setLamp l p x => some (l, .setLamp p x)
  | .strike l p run => some (l, .strike p run)
  | .quench l p => some (l, .quench p)
  | .trim l p length => some (l, .trim p length)
  | .setCapacity l cap => some (l, .setCapacity cap)
  | .setSurge l surge => some (l, .setSurge surge)
  | .setReclaim l lead gap => some (l, .setReclaim lead gap)
  | .lights l n form => some (l, .lights n form)
  | .lightsRelease l n => some (l, .lightsRelease n)
  | .setFloor l v => some (l, .setFloor v)
  | .setRest l c v => some (l, .setRest c v)
  | .setMotion l m => some (l, .setMotion m)
  | .fireAssert l => some (l, .fireAssert)
  | .fireRelease l => some (l, .fireRelease)
  | .clearFire l => some (l, .clearFire)
  | .rehang l n => some (l, .rehang n)
  | .unknownOrder l k => some (l, .unknown k)
  | _ => none

/-! ## Privilege (R157) -/

/-- The line is the screen's own line. -/
def isLineOf (l : Line) (n : Screen) : Bool := l == .screen n

def isHouse (l : Line) : Bool := l == .house

/-- The screen's own line only; a name outside its range fails no privilege test (R157, log 26). -/
def ownOnly (l : Line) (n : Option Screen) : Bool :=
  match n with
  | some n => isLineOf l n
  | none => true

/-- The screen's own line, or the house line for any screen (R157). -/
def ownOrHouse (l : Line) (n : Option Screen) : Bool := isHouse l || ownOnly l n

/-- The screen of a projector or lamp code (R157). -/
def screenOfCode (k : Nat) : Option Screen := (projOf k).map Proj.screen

/-- The order is within the line's privilege (R157). -/
def privileged (l : Line) : Order → Bool
  | .thread p _ => ownOnly l (screenOfCode p)
  | .unthread p => ownOnly l (screenOfCode p)
  | .openScreen n => ownOnly l (screenOf n)
  | .start n => ownOnly l (screenOf n)
  | .close n => ownOnly l (screenOf n)
  | .resume n => ownOnly l (screenOf n)
  | .changeNow n => ownOnly l (screenOf n)
  | .storeProgram n _ => ownOnly l (screenOf n)
  | .setLamp p _ => ownOnly l (screenOfCode p)
  | .strike p _ => ownOnly l (screenOfCode p)
  | .quench p => ownOnly l (screenOfCode p)
  | .trim p _ => ownOnly l (screenOfCode p)
  | .stop n => ownOrHouse l (screenOf n)
  | .rehang n => ownOrHouse l (screenOf n)
  | .setCapacity _ => isHouse l
  | .setSurge _ => isHouse l
  | .setReclaim _ _ => isHouse l
  | .storeScene _ _ _ _ => isHouse l
  | .lights _ _ => isHouse l
  | .lightsRelease _ => isHouse l
  | .setFloor _ => isHouse l
  | .setRest _ _ => isHouse l
  | .setMotion _ => isHouse l
  | .clearFire => isHouse l
  | .storeReel _ _ _ => true
  | .deleteReel _ => true
  | .fireAssert => true
  | .fireRelease => true
  | .read _ _ => true
  | .unknown _ => true
  | .miscounted _ => true

end Sys2Proof.Machine
end

