-- ==== Sys2Proof/Machine/StoreOrders.lean ====
section
/-! DEFINITION. The orders of the Reel Store and the contexts: for each its checks, in the rule's order, and its effect
(R4 to R10, R13 to R19). A check answers the refusal reason, or none where the order passes. -/

namespace Sys2Proof.Machine

/-! ## STORE REEL (R4, R5, R17, R18) -/

/-- The owner a record stored by a line takes (R4). -/
def ownerFor (l : Line) (old : Option ReelRecord) (owner : Nat) : Option Screen :=
  match old, l with
  | some r, _ => some r.owner
  | none, .screen n => some n
  | none, .house => screenOf owner

/-- The line is the house line or the line of the record's owner; an empty slot bars nobody (R4, R6). -/
def mayEdit (l : Line) (old : Option ReelRecord) : Bool :=
  match old with
  | some r => isHouse l || isLineOf l r.owner
  | none => true

/-- The record an order would store (R4). -/
def recordFor (l : Line) (slot owner : Nat) (f : ReelFields) (s : State) : Option ReelRecord :=
  (ownerFor l (s.reelAt slot) owner).bind (reelOf f)

def checkStoreReel (l : Line) (slot owner : Nat) (f : ReelFields) (s : State) : Option Reason :=
  if within 1 slot 48 = false then some .badValue
  else if mayEdit l (s.reelAt slot) = false then some .notOwner
  else if (recordFor l slot owner f s).isNone then some .badValue
  else none

/-- A notice to the owner's line, and to the line of the projector's screen when that is another (R17, R18). -/
def notifyEdit (owner : Screen) (p : Proj) (b : NoticeBody) (s : State) : State :=
  let t := notifyScreen owner b s
  if owner = p.screen then t else notifyScreen p.screen b t

/-- An uncommitted context is refreshed (R17): the Store's CONTEXT REFRESHED goes before the lamp's CURRENT HELD that the same
refresh may bring, the model's choice (log 40). -/
def refreshContext (p : Proj) (slot : Nat) (c : Context) (r : ReelRecord) (s : State) : State :=
  let t := s.setCtx p (some { c with reel := r })
  let u := if c.reel.format = r.format then t else t.modChan p (fun x => { x with phase := 0 })
  examineArming p.screen (reviewCurrent p (notifyEdit r.owner p (.contextRefreshed p slot) u))

/-- A committed context is marked STALE (R18). -/
def markStale (p : Proj) (slot : Nat) (c : Context) (r : ReelRecord) (s : State) : State :=
  notifyEdit r.owner p (.contextStale p slot) (s.setCtx p (some { c with stale := true }))

/-- The context that holds the slot, if any, is brought up to date or marked (R5). -/
def editReaches (p : Proj) (slot : Nat) (r : ReelRecord) (s : State) : State :=
  match s.ctx p with
  | some c => if c.committed then markStale p slot c r s else refreshContext p slot c r s
  | none => s

def applyStoreReel (l : Line) (slot owner : Nat) (f : ReelFields) (s : State) : State :=
  match recordFor l slot owner f s with
  | none => s
  | some r =>
    let t := s.setReel slot (some r)
    match s.holderOf slot with
    | some p => editReaches p slot r t
    | none => t

/-! ## DELETE REEL (R6) -/

def checkDeleteReel (l : Line) (slot : Nat) (s : State) : Option Reason :=
  if within 1 slot 48 = false then some .badValue
  else if mayEdit l (s.reelAt slot) = false then some .notOwner
  else if (s.holderOf slot).isSome then some .inUse
  else none

def applyDeleteReel (slot : Nat) (s : State) : State := s.setReel slot none

/-! ## STORE PROGRAM (R7 to R9) -/

/-- The list is replaced freely: CLOSED, READY with no start in progress, ENDED (R8). -/
def programFree (q : Sequencer) : Bool :=
  match q.showState with
  | .closed | .ended => true
  | .ready => q.startRec.isNone
  | .showing | .interval | .halted => false

/-- The items at the pointer and the one after it are unchanged (R9, log 28). -/
def programKept (s : State) (n : Screen) (new : List ProgItem) : Bool :=
  let k := (s.seq n).pointer
  decide (new[k - 1]? = s.itemAt n k) &&
    match s.itemAt n (k + 1) with
    | some i => decide (new[k]? = some i)
    | none => true

def checkStoreProgram (n : Nat) (items : List RawItem) (s : State) : Option Reason :=
  match screenOf n, programOf items with
  | some x, some new => if programFree (s.seq x) || programKept s x new then none else some .inUse
  | _, _ => some .badValue

def applyStoreProgram (n : Nat) (items : List RawItem) (s : State) : State :=
  match screenOf n, programOf items with
  | some x, some new =>
    let t := { s with programs := s.programs.set x new }
    examineArming x (if programFree (s.seq x) then t.modSeq x (fun q => { q with pointer := 1 }) else t)
  | _, _ => s

/-! ## STORE SCENE (R10) -/

def checkStoreScene (scene fade : Nat) : Option Reason :=
  if within 0 scene 7 = false then some .badValue
  else if within 0 fade 600 = false then some .badValue
  else none

def applyStoreScene (scene house aisle fade : Nat) (s : State) : State :=
  { s with scenes := s.scenes.set scene ⟨min 100 house, min 100 aisle, fade⟩ }

/-! ## THREAD (R13, R14) -/

def checkThread (p slot : Nat) (s : State) : Option Reason :=
  match projOf p with
  | none => some .badValue
  | some x =>
    if within 1 slot 48 = false then some .badValue
    else if motorIsOn s x then some .wrongState
    else if (s.seq x.screen).startsUnfrozen x.side then some .inUse
    else if (s.reelAt slot).isNone then some .badValue
    else if Proj.all.any (fun y => y != x && s.holds y slot) then some .inUse
    else none

/-- The forecast that a THREAD makes: an economy choice for an unlit lamp, of which the Sequencer is told, a single forecast
for a lit one (R104, R106). -/
def threadForecast (p : Proj) (s : State) : State :=
  if (s.lamp p).lit then singleForecast p s else warmChosen p (economyChoice p s)

/-- The context loaded and handed to the channel, to the Lamp Controller and to the Sequencer (R13, R14). A record that names the
projector as incoming returns to NONE first, which quenches a lit lamp before its current is reviewed and its forecast made:
the model's choice (log 38). So are the review of the lit current before the forecast, and the forecast before a pending start
begins (log 47). -/
def threadReel (p : Proj) (slot : Nat) (r : ReelRecord) (s : State) : State :=
  let t := channelThread p ((dropIncoming p s).setCtx p (some ⟨slot, r, false, false⟩))
  examineThreading p.screen (threadForecast p (reviewCurrent p t))

def applyThread (p slot : Nat) (s : State) : State :=
  match projOf p, s.reelAt slot with
  | some x, some r => threadReel x slot r s
  | _, _ => s

/-! ## UNTHREAD (R15) -/

def checkUnthread (p : Nat) (s : State) : Option Reason :=
  match projOf p with
  | none => some .badValue
  | some x =>
    if motorIsOn s x then some .wrongState
    else if (s.seq x.screen).startsUnfrozen x.side then some .inUse
    else none

/-- The context emptied, of which the Sequencer is told; one that is EMPTY already changes nothing (R15, R41). -/
def unthreadReel (p : Proj) (s : State) : State :=
  match s.ctx p with
  | some _ => examineThreading p.screen (emptyContext p s)
  | none => s

def applyUnthread (p : Nat) (s : State) : State :=
  match projOf p with
  | some x => unthreadReel x s
  | none => s

end Sys2Proof.Machine
end

