-- ==== Sys2Proof/Machine/ShowOrders.lean ====
section
/-! DEFINITION. The show orders: OPEN (R43), CLOSE (R44), START (R45), STOP (R51), RESUME (R70) and CHANGE NOW (R64), for each
its checks in the rule's order and its effect. -/

namespace Sys2Proof.Machine

/-! ## OPEN (R43) -/

def checkOpen (n : Nat) (s : State) : Option Reason :=
  match screenOf n with
  | none => some .badValue
  | some x =>
    if s.fire.on then some .fire
    else if (s.seq x).showState ≠ .closed then some .wrongState
    else if s.programs.get x = [] then some .notReady
    else none

def openShow (n : Screen) (s : State) : State :=
  programTakes n 1 (s.modSeq n (fun q => { q with pointer := 1, showState := .ready }))

def applyOpen (n : Nat) (s : State) : State :=
  match screenOf n with
  | some x => openShow x s
  | none => s

/-! ## START (R45) -/

/-- The projector a START names, or the reason it is refused (R45, checks 3 and 4). -/
def startSide (s : State) (n : Screen) : Except Reason Side :=
  match (reelItem s n).bind (reelSide s n) with
  | none => .error .notReady
  | some x =>
    match (s.lamp ⟨n, x⟩).st with
    | .fault => .error .wrongState
    | .dark => if (s.lamp ⟨n, x⟩).stubMark then .error .noCarbon else .ok x
    | _ => .ok x

/-- READY or INTERVAL with no start record (R45, check 2). -/
def mayStart (q : Sequencer) : Bool :=
  ((q.showState == .ready) || (q.showState == .interval)) && (q.startRec == none)

def checkStart (n : Nat) (s : State) : Option Reason :=
  match screenOf n with
  | none => some .badValue
  | some x =>
    if s.fire.on then some .fire
    else if mayStart (s.seq x) = false then some .wrongState
    else
      match startSide s x with
      | .error r => some r
      | .ok _ => none

def applyStart (n : Nat) (s : State) : State :=
  match screenOf n with
  | some x =>
    match startSide s x with
    | .ok y => beginStart ⟨x, y⟩ .start s
    | .error _ => s
  | none => s

/-! ## What STOP and CLOSE share -/

/-- Both dowser demands cleared, sound MUTED, both motors off. -/
def darkScreen (n : Screen) (s : State) : State :=
  motorOff ⟨n, .b⟩ (motorOff ⟨n, .a⟩ (setSound n .muted (setDemand ⟨n, .b⟩ .clear (setDemand ⟨n, .a⟩ .clear s))))

/-- A start is cancelled: the request of its lamp is withdrawn, and the record becomes absent (R44, R51, R113). -/
def cancelStart (n : Screen) (s : State) : State :=
  let t := match (s.seq n).startRec with
    | some r => withdrawRequest ⟨n, r.side⟩ s
    | none => s
  t.modSeq n (fun q => { q with startRec := none, reelPending := false, interval := none })

/-- Both roles IDLE, no active projector, halt items none (R44, R51). -/
def Sequencer.idled (q : Sequencer) (x : Show) : Sequencer :=
  { q with roles := Pair.fill .idle, haltReason := none, haltedFrom := none, restart := none, firstMissed := false,
           showState := x }

/-! ## STOP (R51) -/

def checkStop (n : Nat) (s : State) : Option Reason :=
  match screenOf n with
  | none => some .badValue
  | some x => if (s.seq x).showState = .closed then some .wrongState else none

/-- SHOW STOPPED to the screen line, and to the house line when the order came from there (R51). -/
def notifyStopped (l : Line) (n : Screen) (s : State) : State :=
  if isHouse l then notifyScreenAndHouse n (.showStopped n) s else notifyScreen n (.showStopped n) s

def stopShow (l : Line) (n : Screen) (s : State) : State :=
  let t := recordToNone n (cancelStart n (darkScreen n s))
  let u := quenchLamp ⟨n, .b⟩ (quenchLamp ⟨n, .a⟩ t)
  notifyStopped l n (programTakes n 5 (u.modSeq n (fun q => q.idled .ended)))

def applyStop (l : Line) (n : Nat) (s : State) : State :=
  match screenOf n with
  | some x => stopShow l x s
  | none => s

/-! ## CLOSE (R44) -/

def checkClose (n : Nat) (s : State) : Option Reason :=
  match screenOf n with
  | none => some .badValue
  | some x =>
    match (s.seq x).showState with
    | .showing | .interval | .closed => some .wrongState
    | .ready | .ended | .halted =>
      if (s.lamp ⟨x, .a⟩).inUse || (s.lamp ⟨x, .b⟩).inUse then some .lampLit else none

/-- A CLOSE: the winners are judged with the output levels as they stood before the show state became CLOSED (R129,
R132). -/
def closeShow (n : Screen) (s : State) : State :=
  let t := darkScreen n (recordToNone n (cancelStart n s))
  let u := judgeLights (removeClaims n .fault (removeClaims n .program t))
  u.modSeq n (fun q => q.idled .closed)

def applyClose (n : Nat) (s : State) : State :=
  match screenOf n with
  | some x => closeShow x s
  | none => s

/-! ## RESUME (R70) -/

/-- A RESUME is in progress that no later halt has frozen (R70, check 2). -/
def resuming (q : Sequencer) : Bool :=
  match q.startRec with
  | some r => (r.kind == .resume) && !r.frozen
  | none => false

/-- The context of the restart projector will serve (R70, check 3). -/
def restartReady (s : State) (n : Screen) (x : Side) : Bool :=
  match s.ctx ⟨n, x⟩ with
  | none => false
  | some c =>
    decide ((s.chan ⟨n, x⟩).frames < c.reel.lastPicture) &&
      (!(s.seq n).firstMissed || decide (s.itemAt n ((s.seq n).pointer + 1) = some (.reel c.slot)))

/-- The lamp of the restart projector (R70, check 4). -/
def restartLamp (l : Lamp) : Option Reason :=
  match l.st with
  | .fault => some .wrongState
  | .dark => if l.stubMark then some .noCarbon else none
  | _ => none

def checkResume (n : Nat) (s : State) : Option Reason :=
  match screenOf n with
  | none => some .badValue
  | some x =>
    if s.fire.on || s.fire.marks.get x then some .fire
    else if (s.seq x).showState ≠ .halted ∨ resuming (s.seq x) = true then some .wrongState
    else
      match (s.seq x).restart with
      | none => none
      | some y => if restartReady s x y = false then some .notReady else restartLamp (s.lamp ⟨x, y⟩)

/-- RESUME is answered ACCEPTED with a restart projector, DONE without one (R70). -/
def resumeAccepts (n : Nat) (s : State) : Bool :=
  match screenOf n with
  | some x => (s.seq x).restart.isSome
  | none => false

/-- A RESUME with no restart projector (R70); that halted from becomes none with the halt reason is the model's choice (log
42). -/
def resumeState (n : Screen) (s : State) : State :=
  examinePending n ((removeClaims n .fault s).modSeq n (fun q =>
    { q with showState := q.haltedFrom.getD .halted, haltReason := none, haltedFrom := none }))

/-- The roles swap after MISSED CHANGEOVER (R70, step 2): the old outgoing projector is treated as switched away. -/
def swapRoles (n : Screen) (x : Side) (s : State) : State :=
  if (s.seq n).firstMissed then
    let t := s.modSeq n (fun q => { q with pointer := q.pointer + 1, firstMissed := false })
    let old : Proj := ⟨n, x.other⟩
    if motorIsOn t old then setRole old (.runOff .resumed) t else setRole old .idle (emptyContext old t)
  else s

/-- A RESUME with a restart projector (R70). -/
def resumeReel (n : Screen) (x : Side) (s : State) : State :=
  let p : Proj := ⟨n, x⟩
  let t := recordToNoneSparing n (some x) (swapRoles n x (removeClaims n .fault s))
  askRunning p (beginRecord p .resume (channelResume p t))

def applyResume (n : Nat) (s : State) : State :=
  match screenOf n with
  | some x =>
    match (s.seq x).restart with
    | some y => resumeReel x y s
    | none => resumeState x s
  | none => s

/-! ## CHANGE NOW (R64) -/

/-- The record is READY, so the switch is made by hand. -/
def recordReady (q : Sequencer) : Bool :=
  match q.changeover with
  | some r => r.st == .ready
  | none => false

/-- The record is ARMED with the restart held set. -/
def recordHeld (q : Sequencer) : Bool :=
  match q.changeover with
  | some r => (r.st == .armed) && r.restartHeld
  | none => false

def checkChangeNow (n : Nat) (s : State) : Option Reason :=
  match screenOf n with
  | none => some .badValue
  | some x =>
    if s.fire.on then some .fire
    else if (s.seq x).showState ≠ .showing then some .wrongState
    else if recordReady (s.seq x) || recordHeld (s.seq x) then none
    else some .notReady

/-- CHANGE NOW is answered DONE for a switch, ACCEPTED for the restart of a held motor (R64). -/
def changeNowAccepts (n : Nat) (s : State) : Bool :=
  match screenOf n with
  | some x => !recordReady (s.seq x)
  | none => false

/-- The held incoming motor restarts (R64); an incoming lamp that is DARK is asked for at the record's deadline. -/
def restartHeldMotor (n : Screen) (r : Changeover) (s : State) : State :=
  let p : Proj := ⟨n, r.incoming⟩
  let t := modRecord n (fun r => { r with restartHeld := false, st := .rolling }) (motorOn p s)
  if (t.lamp p).st = .dark then raiseRequest p .standby (r.deadline.getD s.boothTime) t else t

/-- The switch by hand, recorded as ORDER with the outgoing F (R60, R64). -/
def switchByHand (n : Screen) (r : Changeover) (s : State) : State :=
  switchOver n false (modRecord n (fun x =>
    { x with changeCue := some ⟨.order, (s.chan ⟨n, r.incoming.other⟩).frames⟩ }) s)

def applyChangeNow (n : Nat) (s : State) : State :=
  match screenOf n with
  | some x =>
    match (s.seq x).changeover with
    | some r => if r.st = .ready then switchByHand x r s else restartHeldMotor x r s
    | none => s
  | none => s

end Sys2Proof.Machine
end

