-- ==== Sys2Proof/Machine/LampOrders.lean ====
section
/-! DEFINITION. The orders of the Lamp Controller: SET LAMP (R74, R75), STRIKE (R79), QUENCH (R91), TRIM (R93); and of the
budget: SET CAPACITY (R108), SET SURGE and SET RECLAIM (R109). -/

namespace Sys2Proof.Machine

/-! ## SET LAMP (R74, R75) -/

/-- The lit current the order would raise beyond the budget's room (R75): the lamp is in use, its effective running current
comes from I_run, and the new I_run is above the lit current. -/
def raiseRefused (p : Proj) (x : LampSettings) (s : State) : Bool :=
  match (s.lamp p).inUse && (overrideOf s p).isNone, (s.lamp p).litCurrent with
  | true, some i =>
    decide (i < x.run) && !(!s.budget.overdrawn && decide (sigma s + (x.run - i) ≤ s.budget.cap))
  | _, _ => false

def checkSetLamp (p : Nat) (x : LampSettings) (s : State) : Option Reason :=
  match projOf p with
  | none => some .badValue
  | some q =>
    if settingsOk x = false then some .badValue
    else if raiseRefused q x s then some .lampLit
    else none

/-- The new I_run becomes the lit current of a lamp in use with no override (R75); a lowered charge makes the budget
examine (log 34). -/
def takeRunCurrent (p : Proj) (run : Nat) (s : State) : State :=
  match (s.lamp p).inUse && (overrideOf s p).isNone, (s.lamp p).litCurrent with
  | true, some i =>
    let t := s.modLamp p (fun l => { l with litCurrent := some run })
    if run < i then askExamine t else t
  | _, _ => s

/-- The lamp record with new settings (R75): at or below the new margin the pending feed is discarded. -/
def Lamp.withSettings (l : Lamp) (x : LampSettings) : Lamp :=
  { l with settings := x, pendingFeed := if l.carbon ≤ x.margin then 0 else l.pendingFeed }

def applySetLamp (p : Nat) (x : LampSettings) (s : State) : State :=
  match projOf p with
  | some q => takeRunCurrent q x.run (withStubCheck q (fun l => l.withSettings x) s)
  | none => s

/-! ## STRIKE (R79) -/

/-- The target a RUN flag names; a byte other than 0 and 1 is no flag (R164, log 12). -/
def targetOfFlag : Nat → Option Target
  | 0 => some .standby
  | 1 => some .running
  | _ => none

/-- The lamp's state, at the third and fourth checks of R79. -/
def strikeBar (l : Lamp) : Option Reason :=
  match l.st with
  | .striking | .standby | .running | .fault => some .wrongState
  | .dark => if l.stubMark then some .noCarbon else none
  | .queued | .quenching => none

def checkStrike (p run : Nat) (s : State) : Option Reason :=
  match projOf p, targetOfFlag run with
  | some q, some _ => if s.fire.on then some .fire else strikeBar (s.lamp q)
  | _, _ => some .badValue

def applyStrike (p run : Nat) (s : State) : State :=
  match projOf p, targetOfFlag run with
  | some q, some target => strikeRequest q target (after s.boothTime 600) s
  | _, _ => s

/-! ## QUENCH (R91) -/

/-- A role or a record by which the show uses the projector's lamp (R91). -/
def usedByShow (s : State) (p : Proj) : Bool :=
  let q := s.seq p.screen
  match q.role p.side with
  | .starting | .active => q.showState != .halted
  | .incoming => match q.changeover with
    | some r => (r.incoming == p.side) && (r.st != .armed) && (r.st != .switched)
    | none => false
  | .idle | .runOff _ => false

def checkQuench (p : Nat) (s : State) : Option Reason :=
  match projOf p with
  | none => some .badValue
  | some q => if (s.lamp q).inUse && usedByShow s q then some .inUse else none

/-- A FAULT cleared (R91). -/
def Lamp.unfaulted (l : Lamp) : Lamp := { l with st := .dark, faultCause := none, lastArcOut := none, attempts := 0 }

/-- A QUENCH order (R91); the Sequencer is told of a request it withdraws (R46, R55). -/
def quenchByOrder (p : Proj) (s : State) : State :=
  if (s.lamp p).st = .fault then notifyScreen p.screen (.lampDark p) (s.modLamp p Lamp.unfaulted)
  else
    let t := quenchLamp p (withdrawRequest p s)
    if (entryOf s p).isSome then lampUnavailable p t else t

def applyQuench (p : Nat) (s : State) : State :=
  match projOf p with
  | some q => quenchByOrder q s
  | none => s

/-! ## TRIM (R93, R97, R104) -/

def checkTrim (p length : Nat) (s : State) : Option Reason :=
  match projOf p with
  | none => some .badValue
  | some q =>
    if within 0 length 6000 = false then some .badValue
    else if (s.lamp q).st ≠ .dark then some .lampLit
    else none

/-- The carbon set, the stub mark examined, and the forecast with its economy choice where a reel is threaded; that CARBON STUB
goes before the forecast's notice is the model's choice (R97, R105, log 51). -/
def trimLamp (p : Proj) (length : Nat) (s : State) : State :=
  let t := withStubCheck p (fun l => { l with carbon := length }) s
  match s.ctx p with
  | some _ => warmChosen p (economyChoice p t)
  | none => t

def applyTrim (p length : Nat) (s : State) : State :=
  match projOf p with
  | some q => trimLamp q length s
  | none => s

/-! ## SET CAPACITY (R108) -/

def checkSetCapacity (cap : Nat) (s : State) : Option Reason :=
  if within 0 cap 400 = false then some .badValue
  else if decide (s.budget.cap < cap) && s.fire.on then some .fire
  else none

/-- Cap raised: the budget examines, with the test of R121 first; Cap lowered below the sum: OVERDRAWN (R108, R120, log
36). -/
def applySetCapacity (cap : Nat) (s : State) : State :=
  let t := s.modBudget (fun b => { b with cap := cap })
  if s.budget.cap < cap then askExamine t
  else if cap < s.budget.cap ∧ cap < sigma s then enterOverdraft t
  else t

/-! ## SET SURGE and SET RECLAIM (R109) -/

def checkSetSurge (surge : Nat) : Option Reason := if within 0 surge 60 then none else some .badValue

def applySetSurge (surge : Nat) (s : State) : State :=
  let t := s.modBudget (fun b => { b with surge := surge })
  if surge < s.budget.surge then askExamine t else t

def checkSetReclaim (lead gap : Nat) : Option Reason :=
  if within 5 lead 120 && within 10 gap 300 then none else some .badValue

/-- The new lead sets the wait for the head's lead point afresh, which acts at once where it has passed (R109, R167). -/
def applySetReclaim (lead gap : Nat) (s : State) : State :=
  let t := s.modBudget (fun b => { b with lead := lead, gap := gap, leadTaken := false })
  if headLeadPassed t then askExamine t else t

end Sys2Proof.Machine
end

