-- ==== Sys2Proof/Machine/HouseOrders.lean ====
section
/-! DEFINITION. The orders of the House Light Unit: LIGHTS (R134), LIGHTS RELEASE (R135), SET FLOOR (R133), SET REST (R136); the
booth motion settings, SET MOTION (R38); and the fire orders FIRE ASSERT and FIRE RELEASE (R140), CLEAR FIRE (R143), REHANG
(R149). -/

namespace Sys2Proof.Machine

/-! ## Lighting orders -/

/-- The auditoria an order names: 0 for ALL (R165). -/
def auditoria (n : Nat) : Option (List Screen) :=
  match n with
  | 0 => some Screen.all
  | k => (screenOf k).map (fun x => [x])

def lightsFormOk : LightsForm → Bool
  | .scene k => within 0 k 7
  | .levels _ _ fade => within 0 fade 600

def checkLights (n : Nat) (form : LightsForm) : Option Reason :=
  if (auditoria n).isNone then some .badValue
  else if lightsFormOk form then none
  else some .badValue

/-- A MANUAL claim on both circuits of an auditorium (R134). -/
def manualTakes (form : LightsForm) (n : Screen) (s : State) : State :=
  match form with
  | .scene k => placeBoth n .manual (s.scene k).house (s.scene k).aisle (.time (s.scene k).fade) s
  | .levels h a fade => placeBoth n .manual (min 100 h) (min 100 a) (.time fade) s

def applyLights (n : Nat) (form : LightsForm) (s : State) : State :=
  match auditoria n with
  | some xs => forEach xs (manualTakes form) s
  | none => s

def checkLightsRelease (n : Nat) : Option Reason := if (auditoria n).isNone then some .badValue else none

def applyLightsRelease (n : Nat) (s : State) : State :=
  match auditoria n with
  | some xs => forEach xs (fun x => removeClaims x .manual) s
  | none => s

/-- SET FLOOR clamps to 50 (R133); the output levels follow, being functions of the floor (R132). -/
def applySetFloor (level : Nat) (s : State) : State := { s with floor := min 50 level }

def checkSetRest (c : Nat) : Option Reason := if (circOf c).isNone then some .badValue else none

/-- A new rest level, which is a change of winner when REST wins (R136). -/
def restTakes (c : Circ) (level : Nat) (s : State) : State :=
  let t := s.modCirc c (fun x => { x with rest := min 100 level })
  match (t.circ c).winnerNow with
  | .rest => startFade c t
  | _ => t

def applySetRest (c level : Nat) (s : State) : State :=
  match circOf c with
  | some x => restTakes x level s
  | none => s

/-! ## SET MOTION (R38, R146) -/

def checkSetMotion (m : MotionSettings) : Option Reason := if motionOk m then none else some .badValue

/-- A running runup timer meets the new limit (R38). -/
def runupMeets (p : Proj) (s : State) : State :=
  match (s.chan p).runup with
  | some k => if runupTicks s.motionSettings ≤ k then runupReached p s else s
  | none => s

/-- The gap now running meets the new window (R38, log 17). -/
def gapMeets (p : Proj) (s : State) : State :=
  if breakUnits s.motionSettings ≤ (s.chan p).age then breakReached p s else s

/-- A running persistence timer meets the new persistence (R146). -/
def persistenceMeets (p : Proj) (s : State) : State :=
  match s.fire.timer p with
  | some k => if persistTicks s.motionSettings ≤ k then persistenceReached p s else s
  | none => s

/-- The settings are replaced, and what already meets a new limit expires: first the runup timers, then the gaps, then the
persistences, each from 1A to 4B, an order that is the model's choice (R38, R146, log 41). -/
def applySetMotion (m : MotionSettings) (s : State) : State :=
  forEach Proj.all persistenceMeets (forEach Proj.all gapMeets (forEach Proj.all runupMeets { s with motionSettings := m }))

/-! ## Fire orders -/

def applyFireAssert (l : Line) (s : State) : State := sourceRise (.line l) s

def applyFireRelease (l : Line) (s : State) : State := sourceFall (.line l) s

def checkClearFire (s : State) : Option Reason :=
  if s.fire.on = false then some .wrongState
  else if s.fire.sources.any then some .sourcesActive
  else none

/-- FIRE CLEARED to every line, with the times of the entry that was open (R143). -/
def notifyCleared (record : List FireEntry) (now : BoothTime) (s : State) : State :=
  match record with
  | e :: _ => notifyAll (.fireCleared e.entryTime now) s
  | [] => s

def applyClearFire (s : State) : State :=
  let t := modOpenEntry (fun e => { e with clearTime := some s.boothTime, ended := .cleared })
    (s.modFire (fun u => { u with on := false }))
  notifyCleared s.fire.record s.boothTime (setBoothHolder false t)

/-- A gate flame input of either projector of the screen is asserted (R149). -/
def screenFlame (s : State) (n : Screen) : Bool := s.fire.flame ⟨n, .a⟩ || s.fire.flame ⟨n, .b⟩

def checkRehang (n : Nat) (s : State) : Option Reason :=
  match screenOf n with
  | none => some .badValue
  | some x => if s.fire.on || screenFlame s x then some .fire else none

/-- What REHANG does to the state the Unit owns: the three holds energised, the mark cleared (R149). -/
def FireUnit.rehung (u : FireUnit) (n : Screen) : FireUnit := { u.setHolds n true with marks := u.marks.set n false }

def applyRehang (n : Nat) (s : State) : State :=
  match screenOf n with
  | some x => setLocalHolder false x (s.modFire (fun u => u.rehung x))
  | none => s

end Sys2Proof.Machine
end

