-- ==== Sys2Proof/Machine/Wire.lean ====
section
/-! DEFINITION. The bytes of outgoing messages: field encodings (R164), reply and notice codes with their parameters (R165) and
the frames that carry them (R153, R154, R161, R164). -/

namespace Sys2Proof.Machine

/-! ## Fields (R164) -/

/-- A number in so many bytes, most significant first. -/
def bytesOf : Nat → Nat → List Byte
  | 0, _ => []
  | k + 1, n => bytesOf k (n / 256) ++ [BitVec.ofNat 8 n]

/-- A signed number in so many bytes, two's complement. -/
def signedBytes (k : Nat) (x : Int) : List Byte := bytesOf k (x % (2 ^ (8 * k) : Int)).toNat

def byteOf (n : Nat) : Byte := BitVec.ofNat 8 n

/-- A flag: 01h set, 00h clear. -/
def flagByte (v : Bool) : Byte := if v then 1 else 0

/-- A booth time or deadline, 3 bytes. -/
def timeBytes (d : BoothTime) : List Byte := bytesOf 3 d.toNat

def projByte (p : Proj) : Byte := byteOf (projCode p)

def screenByte (n : Screen) : Byte := byteOf (screenNumber n)

/-- An optional field of so many bytes: the presence byte, then the field, zero when absent. -/
def optBytes {α : Type} (size : Nat) (f : α → List Byte) : Option α → List Byte
  | some x => 1 :: f x
  | none => 0 :: List.replicate size 0

/-- A list: the count byte, then the entries. -/
def listBytes {α : Type} (f : α → List Byte) (xs : List α) : List Byte := byteOf xs.length :: xs.flatMap f

/-- A bit mask with the first member in bit 0. -/
def maskOf : List Bool → Nat
  | [] => 0
  | v :: vs => v.toNat + 2 * maskOf vs

/-- The ten sources in the order of R139. -/
def Sources.list (x : Sources) : List Bool :=
  [x.heat1, x.heat2, x.panel, x.link, x.gate] ++ Line.all.map (fun l => x.lines.get l)

/-! ## Named values: the position in the rule's list, counting from 0; "none" is the first member of its list -/

def haltCode : HaltReason → Nat
  | .filmBreak => 1
  | .stall => 2
  | .missedChangeover => 3
  | .strikeFailed => 4
  | .arcOutTwice => 5
  | .portDown => 6
  | .fire => 7
  | .localFire => 8

def faultCode : FaultCause → Nat
  | .noArc => 1
  | .noDraw => 2
  | .noCarbon => 3
  | .arcOutTwice => 4

def lampStateCode : LampState → Nat
  | .dark => 0
  | .queued => 1
  | .striking => 2
  | .standby => 3
  | .running => 4
  | .quenching => 5
  | .fault => 6

/-- The state a lamp was lit to or burned in, as R73 lists it (log 11). -/
def burnStateCode (running : Bool) : Nat := lampStateCode (if running then .running else .standby)

def howCode : CueHow → Nat
  | .count => 0
  | .sensor => 1
  | .checkMismatch => 2
  | .order => 3

/-- A cue as taken: absent, or its way and its frame (R52). -/
def cueBytes (c : Option CueTake) : List Byte := optBytes 3 (fun x => byteOf (howCode x.how) :: bytesOf 2 x.frame) c

def reasonCode : Reason → Nat
  | .notOwner => 0
  | .badValue => 1
  | .inUse => 2
  | .notReady => 3
  | .wrongState => 4
  | .lampLit => 5
  | .noCarbon => 6
  | .fire => 7
  | .sourcesActive => 8
  | .noRoom => 9
  | .unknownOrder => 10

def causeCode : GarbleCause → Nat
  | .time => 0
  | .length => 1
  | .check => 2
  | .byteError => 3
  | .sequence => 4

def cueNameCode : CueName → Nat
  | .motor => 0
  | .changeover => 1

def incomingFaultCode : IncomingFault → Nat
  | .filmBreak => 0
  | .stall => 1
  | .strikeFailed => 2

/-! ## Replies (R158, R164, R165) -/

/-- The kind code of a reply. -/
def Reply.code : Reply → Nat
  | .done _ => 0x40
  | .accepted _ => 0x41
  | .refused _ _ => 0x42
  | .busy _ => 0x43
  | .garbled _ => 0x44
  | .readData _ _ _ => 0x45

/-- The parameters of a reply. -/
def Reply.params : Reply → List Byte
  | .done k => [byteOf k]
  | .accepted k => [byteOf k]
  | .refused k r => [byteOf k, byteOf (reasonCode r)]
  | .busy k => [byteOf k]
  | .garbled c => [byteOf (causeCode c)]
  | .readData item selector record => byteOf item :: bytesOf 2 selector ++ record

/-! ## Notices (R165 and the owning tables) -/

/-- The kind code of a notice. -/
def NoticeBody.code : NoticeBody → Nat
  | .contextRefreshed _ _ => 0x50
  | .contextStale _ _ => 0x51
  | .showStarted _ _ => 0x52
  | .showResumed _ => 0x53
  | .interval _ => 0x54
  | .reelNotThreaded _ => 0x55
  | .lampUnavailable _ => 0x56
  | .programEnded _ => 0x57
  | .showStopped _ => 0x58
  | .changeover _ _ _ => 0x59
  | .lateChangeover _ _ _ => 0x5A
  | .changeoverMissed _ => 0x5B
  | .cueMismatch _ _ => 0x5C
  | .incomingFault _ => 0x5D
  | .runOffBreak _ => 0x5E
  | .screenHalted _ _ => 0x5F
  | .lampLit _ _ _ => 0x60
  | .strikeRetry _ _ _ => 0x61
  | .strikeFailed _ _ => 0x62
  | .arcOut _ _ _ => 0x63
  | .lampDark _ => 0x64
  | .currentHeld _ _ _ => 0x65
  | .carbonStub _ _ => 0x66
  | .carbonShort _ _ _ _ => 0x67
  | .economyStrike _ _ _ => 0x68
  | .strikeGranted _ _ _ _ => 0x69
  | .reclaimed _ _ _ => 0x6A
  | .strikeLate _ _ => 0x6B
  | .budgetOverdrawn _ _ => 0x6C
  | .budgetRestored _ _ => 0x6D
  | .fire _ _ => 0x6E
  | .fireCleared _ _ => 0x6F
  | .localFire _ => 0x70
  | .portDown _ => 0x71
  | .lineRestarted => 0x72

/-- The carried fields of a notice, as its owning table lists them. The cues of a switch have a presence byte and its offset has
none, and the cause of STRIKE RETRY is coded by R73's list: the model's choices (log 11). -/
def NoticeBody.fields : NoticeBody → List Byte
  | .contextRefreshed p slot => [projByte p, byteOf slot]
  | .contextStale p slot => [projByte p, byteOf slot]
  | .showStarted p f => projByte p :: bytesOf 2 f
  | .showResumed f => bytesOf 2 f
  | .interval m => [byteOf m]
  | .reelNotThreaded n => [screenByte n]
  | .lampUnavailable n => [screenByte n]
  | .programEnded n => [screenByte n]
  | .showStopped n => [screenByte n]
  | .changeover x m c => signedBytes 3 x ++ cueBytes m ++ cueBytes c
  | .lateChangeover x m c => signedBytes 3 x ++ cueBytes m ++ cueBytes c
  | .changeoverMissed n => [screenByte n]
  | .cueMismatch c f => byteOf (cueNameCode c) :: bytesOf 2 f
  | .incomingFault f => [byteOf (incomingFaultCode f)]
  | .runOffBreak n => [screenByte n]
  | .screenHalted r p => byteOf (haltCode r) :: optBytes 1 (fun x => [projByte x]) p
  | .lampLit p running k => [projByte p, byteOf (burnStateCode running), byteOf k]
  | .strikeRetry p k c => [projByte p, byteOf k, byteOf (faultCode c)]
  | .strikeFailed p c => [projByte p, byteOf (faultCode c)]
  | .arcOut p running k => [projByte p, byteOf (burnStateCode running), byteOf k]
  | .lampDark p => [projByte p]
  | .currentHeld p held wanted => [projByte p, byteOf held, byteOf wanted]
  | .carbonStub p c => projByte p :: bytesOf 2 c
  | .carbonShort p need available spare =>
    projByte p :: bytesOf 2 need ++ signedBytes 2 available ++ signedBytes 2 spare
  | .economyStrike p w m => [projByte p, byteOf w, byteOf m]
  | .strikeGranted p d sum cap => projByte p :: timeBytes d ++ bytesOf 2 sum ++ bytesOf 2 cap
  | .reclaimed p d head => projByte p :: timeBytes d ++ optBytes 1 (fun x => [projByte x]) head
  | .strikeLate p d => projByte p :: timeBytes d
  | .budgetOverdrawn cap sum => bytesOf 2 cap ++ bytesOf 2 sum
  | .budgetRestored cap sum => bytesOf 2 cap ++ bytesOf 2 sum
  | .fire d x => timeBytes d ++ bytesOf 2 (maskOf x.list)
  | .fireCleared d c => timeBytes d ++ timeBytes c
  | .localFire p => [projByte p]
  | .portDown q => [byteOf (portCode q)]
  | .lineRestarted => []

/-! ## Messages and frames -/

/-- The kind code of a message. -/
def OutMsg.code : OutMsg → Nat
  | .reply r => r.code
  | .notice n => n.body.code

/-- The parameters of a message; a notice begins with the booth time of its making (R164). -/
def OutMsg.params : OutMsg → List Byte
  | .reply r => r.params
  | .notice n => timeBytes n.time ++ n.body.fields

/-- The check byte makes the bytes from the length on sum to 0 modulo 256 (R164). -/
def checkByte (bytes : List Byte) : Byte := -(bytes.foldl (fun x y => x + y) 0)

/-- One frame (R164): sync, length, kind with the continuation flag, parameters, check. -/
def frameBytes (kind : Nat) (continued : Bool) (params : List Byte) : List Byte :=
  let body := byteOf (params.length + 1) :: byteOf (kind + if continued then 128 else 0) :: params
  0x7E :: body ++ [checkByte body]

/-- A message's frames, the continuation flag set in each but the last (R154, R161); `rounds` bounds the frames. That each frame
but the last is filled with 23 parameter bytes is the model's choice (log 46). -/
def framesFrom (kind : Nat) : Nat → List Byte → List (List Byte)
  | 0, _ => []
  | k + 1, params =>
    if params.length ≤ 23 then [frameBytes kind false params]
    else frameBytes kind true (params.take 23) :: framesFrom kind k (params.drop 23)

/-- The frames of an outgoing message, at most eight (R154). -/
def OutMsg.frames (m : OutMsg) : List (List Byte) := framesFrom m.code 8 m.params

end Sys2Proof.Machine
end

