-- ==== Sys2Proof/Machine/Read.lean ====
section
/-! DEFINITION. The records that READ returns, field by field in the order of the owning rule (R20, R72, R95, R124, R138, R152,
R162), and the item and selector that choose them (R162, R165). Log 11 states what R164 leaves open in their layout. -/

namespace Sys2Proof.Machine

/-! ## Named values of the records -/

def showCode : Show → Nat
  | .closed => 0
  | .ready => 1
  | .showing => 2
  | .interval => 3
  | .halted => 4
  | .ended => 5

/-- Halted from: none, READY, SHOWING, INTERVAL, ENDED (R40). -/
def haltedFromCode : Option Show → Nat
  | some .ready => 1
  | some .showing => 2
  | some .interval => 3
  | some .ended => 4
  | _ => 0

def roleCode : Role → Nat
  | .idle => 0
  | .starting => 1
  | .active => 2
  | .incoming => 3
  | .runOff _ => 4

/-- None, nA or nB (R40). -/
def activeCode : Option Side → Nat
  | none => 0
  | some .a => 1
  | some .b => 2

def startKindCode : StartKind → Nat
  | .start => 0
  | .interval => 1
  | .resume => 2

def startPhaseCode : StartPhase → Nat
  | .strikeWait => 0
  | .runWait => 1

def soundCode : Sound → Nat
  | .muted => 0
  | .a => 1
  | .b => 2

def recStateCode : RecState → Nat
  | .armed => 1
  | .lampWait => 2
  | .warm => 3
  | .rolling => 4
  | .ready => 5
  | .switched => 6
  | .missed => 7

def motionCode : Motion → Nat
  | .still => 0
  | .runup => 1
  | .atSpeed => 2
  | .offSpeed => 3
  | .stoppedBreak => 4
  | .stoppedStall => 5
  | .runout => 6

def formatCode : Format → Nat
  | .f35 => 0
  | .f70 => 1

def modeCode : CueMode → Nat
  | .count => 0
  | .sense => 1
  | .checked => 2

def targetCode : Target → Nat
  | .standby => 0
  | .running => 1

def phaseCode : StrikePhase → Nat
  | .touch => 0
  | .draw => 1
  | .coolOff => 2

def warmCode : WarmChoice → Nat
  | .full => 0
  | .economy => 1

def winnerCode : Winner → Nat
  | .fire => 0
  | .fault => 1
  | .manual => 2
  | .program => 3
  | .rest => 4

def fireEndCode : FireEnd → Nat
  | .openEntry => 0
  | .cleared => 1
  | .reset => 2

def assemblerCode : Assembler → Nat
  | .hunt => 0
  | .frame _ _ _ => 1
  | .gap _ _ => 2

/-! ## Line status (R162) -/

def lineStatus (s : State) (l : Line) : List Byte :=
  let x := s.line l
  [flagByte x.overrun, byteOf x.buffer.length, byteOf x.replies.length, flagByte x.readHeld, byteOf x.notices.length,
   flagByte x.firePending, byteOf (assemblerCode x.asm), flagByte x.tx.isSome] ++ timeBytes s.boothTime

/-! ## Screen (R72) -/

def startBytes (n : Screen) (r : Option StartRec) : List Byte :=
  optBytes 3 (fun x => [projByte ⟨n, x.side⟩, byteOf (startKindCode x.kind), byteOf (startPhaseCode x.phase)]) r

/-- The changeover record with every field; all zero in NONE (R52). -/
def changeoverBytes (n : Screen) : Option Changeover → List Byte
  | none => List.replicate 31 0
  | some r =>
    [byteOf (recStateCode r.st), projByte ⟨n, r.incoming.other⟩, projByte ⟨n, r.incoming⟩] ++ bytesOf 2 r.xmc ++
      bytesOf 2 r.xco ++ signedBytes 3 r.strikePoint ++ optBytes 3 timeBytes r.deadline ++ cueBytes r.motorCue ++
      cueBytes r.changeCue ++ [flagByte r.motorPulse, flagByte r.changePulse, byteOf r.stray] ++
      optBytes 3 (signedBytes 3) r.offset ++ [flagByte r.unavailable, flagByte r.restartHeld]

def screenRecord (s : State) (n : Screen) : List Byte :=
  let q := s.seq n
  [byteOf (showCode q.showState), byteOf q.pointer, byteOf (roleCode q.roles.a), byteOf (roleCode q.roles.b),
   byteOf (activeCode q.activeSide)] ++ startBytes n q.startRec ++ optBytes 2 (bytesOf 2) q.interval ++
  [flagByte q.reelPending, byteOf ((q.haltReason.map haltCode).getD 0), byteOf (haltedFromCode q.haltedFrom),
   flagByte q.motor.a, flagByte q.motor.b, flagByte (dowserOpen s ⟨n, .a⟩), flagByte (dowserOpen s ⟨n, .b⟩),
   byteOf (soundCode q.sound)] ++ changeoverBytes n q.changeover

/-! ## Projector (R20, R21) -/

/-- Context state, slot, COMMITTED, STALE, P, Xco, Xmc, format; all zero when EMPTY. -/
def contextBytes : Option Context → List Byte
  | none => List.replicate 11 0
  | some c =>
    [1, byteOf c.slot, flagByte c.committed, flagByte c.stale] ++ bytesOf 2 c.reel.lastPicture ++ bytesOf 2 c.reel.xco ++
      bytesOf 2 c.reel.xmc ++ [byteOf (formatCode c.reel.format)]

def channelBytes (s : State) (p : Proj) : List Byte :=
  let c := s.chan p
  byteOf c.phase :: bytesOf 2 c.frames ++ bytesOf 2 c.age ++ [flagByte (!c.reference)] ++ listBytes (bytesOf 2) c.ring ++
    optBytes 2 (bytesOf 2) (speedOf c.ring) ++ [byteOf (motionCode c.motion), flagByte c.runup.isNone] ++
    optBytes 2 (bytesOf 2) c.lastCue ++ [byteOf c.bounce, flagByte (gatePermission s p)]

def projectorRecord (s : State) (p : Proj) : List Byte := contextBytes (s.ctx p) ++ channelBytes s p

/-! ## Lamp (R95) -/

/-- The items of a forecast other than its verdict (R99). -/
def figuresBytes (f : Figures) : List Byte :=
  1 :: timeBytes f.madeAt ++ bytesOf 2 f.standbySeconds ++ [byteOf f.standbyCurrent] ++ bytesOf 2 f.runSeconds ++
    [byteOf f.runCurrent, byteOf (warmCode f.choice)] ++ bytesOf 2 f.need ++ signedBytes 2 f.available ++
    signedBytes 2 f.spare

def forecastBytes : Forecast → List Byte
  | .none => List.replicate 18 0
  | .noReel => 1 :: List.replicate 17 0
  | .enough f => 2 :: figuresBytes f
  | .short f => 3 :: figuresBytes f

def burnBytes (t : BurnTable) : List Byte :=
  [t.p1, t.p2, t.p3, t.p4].flatMap (fun x => [byteOf x.current, byteOf x.rate])

def settingsBytes (x : LampSettings) : List Byte :=
  [byteOf x.run, byteOf x.standby, byteOf x.setpoint, byteOf x.band, byteOf x.gain, byteOf x.warm, byteOf x.minWarm,
   byteOf x.quenchDelay] ++ bytesOf 2 x.margin ++ burnBytes x.burn

def lampRecord (l : Lamp) : List Byte :=
  byteOf (lampStateCode l.st) :: optBytes 1 (fun x => [byteOf (phaseCode x)]) l.phase ++
    optBytes 1 (fun x => [byteOf (targetCode x)]) l.target ++ [byteOf l.attempts] ++
    optBytes 1 (bytesOf 1) l.litCurrent ++ [byteOf l.charge, byteOf l.pendingFeed, byteOf l.lowCount] ++
    optBytes 3 timeBytes l.lastArcOut ++ optBytes 3 timeBytes l.quenchDue ++
    [byteOf ((l.faultCause.map faultCode).getD 0), byteOf l.lastCurrent, byteOf l.lastVoltage] ++ bytesOf 2 l.carbon ++
    [flagByte l.stubMark] ++ forecastBytes l.forecast ++ [byteOf l.chosenWarm] ++ settingsBytes l.settings

/-! ## Budget (R124) -/

/-- A lamp's charge, the surge fixed at its grant while it is STRIKING, its standing deadline. -/
def chargeBytes (l : Lamp) : List Byte :=
  byteOf l.charge :: optBytes 1 (bytesOf 1) (if l.st = .striking then some l.fixedSurge else none) ++
    optBytes 3 timeBytes l.standing

def entryBytes (e : Entry) : List Byte :=
  projByte e.lamp :: timeBytes e.deadline ++ bytesOf 2 e.arrival.toNat ++ [flagByte e.held, flagByte e.lateSent]

def budgetRecord (s : State) : List Byte :=
  let b := s.budget
  bytesOf 2 b.cap ++ [byteOf b.surge, byteOf b.lead] ++ bytesOf 2 b.gap ++ bytesOf 2 (sigma s) ++ [flagByte b.overdrawn] ++
    Proj.all.flatMap (fun p => chargeBytes (s.lamp p)) ++ listBytes entryBytes b.queue

/-! ## Circuit (R138) -/

/-- A fade description: kind, tenths or frames, projector (zero for TIME). -/
def fadeDescBytes : FadeDesc → List Byte
  | .time n => 0 :: bytesOf 2 n ++ [0]
  | .film n p => 1 :: bytesOf 2 n ++ [projByte p]

def claimBytes (k : Option Claim) : List Byte := optBytes 5 (fun x => byteOf x.target :: fadeDescBytes x.fade) k

/-- The FIRE claim: presence, target 100 with TIME 0, holder set (R127). -/
def fireClaimBytes (c : Circuit) : List Byte :=
  if c.fireClaim then [1, 100] ++ fadeDescBytes (.time 0) ++ [byteOf (maskOf [c.fireBooth, c.fireLocal])]
  else List.replicate 7 0

def filmBytes : Option FilmFade → List Byte
  | none => List.replicate 5 0
  | some f => [1, projByte f.projector] ++ bytesOf 2 f.lastFrame ++ [flagByte f.marked]

/-- The fade engine: idle or running, L0, L1, n, k, kind, projector, last frame, marked. -/
def fadeBytes : Option Fade → List Byte
  | none => List.replicate 14 0
  | some f => 1 :: bytesOf 2 f.l0 ++ bytesOf 2 f.l1 ++ bytesOf 2 f.n ++ bytesOf 2 f.k ++ filmBytes f.film

def circuitRecord (s : State) (c : Circ) : List Byte :=
  let x := s.circ c
  [byteOf x.rest, byteOf s.floor] ++ fireClaimBytes x ++ claimBytes x.fault ++ claimBytes x.manual ++
    claimBytes x.program ++ [byteOf (winnerCode x.winner)] ++ fadeBytes x.fade ++ bytesOf 2 x.engine ++
    bytesOf 2 (outputLevel s c)

/-! ## Fire record (R152) -/

/-- Input, persistence timer (0 stopped, 1 running) and gate shutter output of a projector. -/
def flameBytes (s : State) (p : Proj) : List Byte :=
  [flagByte (s.fire.flame p), flagByte (s.fire.timer p).isSome, flagByte (gateShutter s p)]

/-- Hold and up switch of a port shutter, 1 for energised and for up (log 11). -/
def portBytes (s : State) (q : Port) : List Byte := [flagByte (s.fire.hold q), flagByte (s.fire.up q)]

def fireEntryBytes (e : FireEntry) : List Byte :=
  timeBytes e.entryTime ++ bytesOf 2 (maskOf e.sources.list) ++ optBytes 3 timeBytes e.clearTime ++ [byteOf (fireEndCode e.ended)]

def fireRecord (s : State) : List Byte :=
  [flagByte s.fire.on, flagByte s.fire.sources.any] ++ s.fire.sources.list.map flagByte ++
    Screen.all.map (fun n => flagByte (s.fire.marks.get n)) ++ Proj.all.flatMap (flameBytes s) ++
    Port.all.flatMap (portBytes s) ++ listBytes fireEntryBytes s.fire.record

/-! ## Reel record and program (R20) -/

def markBytes (m : LightMark) : List Byte :=
  bytesOf 2 m.frame ++ [byteOf m.scene] ++ match m.fade with
    | .time => [0, 0, 0]
    | .film n => 1 :: bytesOf 2 n

/-- The record's fields in the order of R1's table, the owner second, then its computed frames: the owner's place is the model's
choice (R20, R164, log 11). -/
def reelBytes (r : ReelRecord) : List Byte :=
  listBytes (bytesOf 1) r.label ++ [screenByte r.owner, byteOf (formatCode r.format)] ++ bytesOf 2 r.length ++
    bytesOf 2 r.head ++ bytesOf 2 r.tail ++ [byteOf r.lead] ++ bytesOf 2 r.motorLead ++
    [byteOf (modeCode r.mode), byteOf r.window] ++ optBytes 1 (bytesOf 1) r.override ++ listBytes markBytes r.marks ++
    bytesOf 2 r.lastPicture ++ bytesOf 2 r.xco ++ bytesOf 2 r.xmc

/-- Empty, or the record with the projector whose context holds the slot. -/
def reelRecord (s : State) (slot : Nat) : List Byte :=
  match s.reelAt slot with
  | none => [0]
  | some r => 1 :: reelBytes r ++ optBytes 1 (fun p => [projByte p]) (s.holderOf slot)

def itemBytes : ProgItem → List Byte
  | .reel slot => [0, byteOf slot, 0]
  | .interval minutes scene => [1, byteOf minutes, byteOf scene]

def programRecord (s : State) (n : Screen) : List Byte :=
  listBytes itemBytes (s.programs.get n) ++ [byteOf (s.seq n).pointer]

/-! ## Item and selector (R162, R165) -/

/-- The record of an item, as it stands; none for an item that READ does not name or a selector outside its range.
That an item above 8 is answered BAD VALUE like such a selector is the model's choice (R162, R165, log 58). -/
def readRecord (s : State) (item selector : Nat) : Option (List Byte) :=
  match item with
  | 0 => (lineOf selector).map (lineStatus s)
  | 1 => (screenOf selector).map (screenRecord s)
  | 2 => (projOf selector).map (projectorRecord s)
  | 3 => (projOf selector).map (fun p => lampRecord (s.lamp p))
  | 4 => if selector = 0 then some (budgetRecord s) else none
  | 5 => (circOf selector).map (circuitRecord s)
  | 6 => if selector = 0 then some (fireRecord s) else none
  | 7 => if within 1 selector 48 then some (reelRecord s selector) else none
  | 8 => (screenOf selector).map (programRecord s)
  | _ => none

end Sys2Proof.Machine
end

