-- ==== Sys2Proof/Machine/Orders.lean ====
section
/-! DEFINITION. Taking an order (R156 to R158, R162): the checks of the Station Line Unit, the block's own checks, the one reply
and the block's effect; and the commands that are the orders. An order row stands for the order's whole message completing on
its line (log 1). -/

namespace Sys2Proof.Machine

/-! ## The owning block's checks, reply class and effect -/

/-- The owning block's checks: the reason it refuses the order, or none. READ and the orders R157 refuses have none. -/
def checkOrder (l : Line) (o : Order) (s : State) : Option Reason :=
  match o with
  | .storeReel slot owner f => checkStoreReel l slot owner f s
  | .deleteReel slot => checkDeleteReel l slot s
  | .storeProgram n items => checkStoreProgram n items s
  | .storeScene k _ _ fade => checkStoreScene k fade
  | .thread p slot => checkThread p slot s
  | .unthread p => checkUnthread p s
  | .openScreen n => checkOpen n s
  | .start n => checkStart n s
  | .stop n => checkStop n s
  | .close n => checkClose n s
  | .resume n => checkResume n s
  | .changeNow n => checkChangeNow n s
  | .setLamp p x => checkSetLamp p x s
  | .strike p r => checkStrike p r s
  | .quench p => checkQuench p s
  | .trim p n => checkTrim p n s
  | .setCapacity v => checkSetCapacity v s
  | .setSurge v => checkSetSurge v
  | .setReclaim x y => checkSetReclaim x y
  | .lights n form => checkLights n form
  | .lightsRelease n => checkLightsRelease n
  | .setFloor _ => none
  | .setRest c _ => checkSetRest c
  | .setMotion m => checkSetMotion m
  | .fireAssert => none
  | .fireRelease => none
  | .clearFire => checkClearFire s
  | .rehang n => checkRehang n s
  | .read _ _ => none
  | .unknown _ => some .unknownOrder
  | .miscounted _ => some .badValue

/-- An order that passes is answered ACCEPTED where its rule says so, else DONE (R158). -/
def acceptsOrder (o : Order) (s : State) : Bool :=
  match o with
  | .start _ => true
  | .strike _ _ => true
  | .resume n => resumeAccepts n s
  | .changeNow n => changeNowAccepts n s
  | _ => false

/-- The owning block's effect of an order that passes. -/
def applyOrder (l : Line) (o : Order) (s : State) : State :=
  match o with
  | .storeReel slot owner f => applyStoreReel l slot owner f s
  | .deleteReel slot => applyDeleteReel slot s
  | .storeProgram n items => applyStoreProgram n items s
  | .storeScene k h a fade => applyStoreScene k h a fade s
  | .thread p slot => applyThread p slot s
  | .unthread p => applyUnthread p s
  | .openScreen n => applyOpen n s
  | .start n => applyStart n s
  | .stop n => applyStop l n s
  | .close n => applyClose n s
  | .resume n => applyResume n s
  | .changeNow n => applyChangeNow n s
  | .setLamp p x => applySetLamp p x s
  | .strike p r => applyStrike p r s
  | .quench p => applyQuench p s
  | .trim p n => applyTrim p n s
  | .setCapacity v => applySetCapacity v s
  | .setSurge v => applySetSurge v s
  | .setReclaim x y => applySetReclaim x y s
  | .lights n form => applyLights n form s
  | .lightsRelease n => applyLightsRelease n s
  | .setFloor v => applySetFloor v s
  | .setRest c v => applySetRest c v s
  | .setMotion m => applySetMotion m s
  | .fireAssert => applyFireAssert l s
  | .fireRelease => applyFireRelease l s
  | .clearFire => applyClearFire s
  | .rehang n => applyRehang n s
  | .read _ _ => s
  | .unknown _ => s
  | .miscounted _ => s

/-! ## READ (R158, R162) -/

/-- A READ of line status that names the sending line clears that line's overrun flag, after the record is taken (R162). -/
def clearOwnStatus (l : Line) (item selector : Nat) (s : State) : State :=
  if item = 0 ∧ lineOf selector = some l then s.modLine l (fun x => { x with overrun := false }) else s

/-- A READ taken: BAD VALUE, NO ROOM, or READ DATA with the record as it stands (R158, R162; log 18). The
record of the sending line is made before its own READ DATA is held, the model's choice (log 54). -/
def takeRead (l : Line) (item selector : Nat) (s : State) : State :=
  match readRecord s item selector with
  | none => reply l (.refused 0x01 .badValue) s
  | some record =>
    if (s.line l).readHeld then reply l (.refused 0x01 .noRoom) s
    else clearOwnStatus l item selector (reply l (.readData item selector record) s)

/-! ## Taking -/

/-- The reply to an order other than READ, judged in the order of R157: UNKNOWN ORDER, the parameter count, privilege, then
the owning block's checks. -/
def judgeOrder (l : Line) (o : Order) (s : State) : Reply :=
  match o with
  | .unknown k => .refused k .unknownOrder
  | .miscounted k => .refused k .badValue
  | _ =>
    if privileged l o = false then .refused o.kind .notOwner
    else
      match checkOrder l o s with
      | some r => .refused o.kind r
      | none => if acceptsOrder o s then .accepted o.kind else .done o.kind

/-- The reply lets the order act. -/
def Reply.acts : Reply → Bool
  | .done _ => true
  | .accepted _ => true
  | _ => false

/-- The Unit takes an order: one reply, and the block's effect where it passes (R157). -/
def takeOrder (l : Line) (o : Order) (s : State) : State :=
  match o with
  | .read item selector => takeRead l item selector s
  | _ =>
    let r := judgeOrder l o s
    if r.acts then applyOrder l o (reply l r s) else reply l r s

/-- The oldest buffered order is taken when the reply queue has room, as one event (R156). -/
def takeOne (l : Line) (s : State) : State :=
  match (s.line l).buffer with
  | [] => s
  | o :: rest =>
    if (s.line l).replies.length < 4 then settle (takeOrder l o (s.modLine l (fun x => { x with buffer := rest }))) else s

/-- Orders are taken while the buffer of two holds any and the replies have room (R156). -/
def takeAll (l : Line) (s : State) : State := takeOne l (takeOne l s)

/-- An order completes on a line: it joins the buffer, or finds two held and is answered BUSY (R156). -/
def arrive (l : Line) (o : Order) (s : State) : State :=
  if s.running then
    if (s.line l).buffer.length < 2 then takeAll l (s.modLine l (fun x => { x with buffer := x.buffer ++ [o] }))
    else reply l (.busy o.kind) s
  else s

/-! ## The commands that are orders -/

/-- READ (R162). -/
def execRead (l : Line) (item selector : Nat) (s : State) : Host.Outcome State Fault Refusal :=
  .next (arrive l (.read item selector) s)

/-- STORE_REEL (R4, R5, R17, R18). -/
def execStoreReel (l : Line) (slot owner : Nat) (f : ReelFields) (s : State) : Host.Outcome State Fault Refusal :=
  .next (arrive l (.storeReel slot owner f) s)

/-- DELETE_REEL (R6). -/
def execDeleteReel (l : Line) (slot : Nat) (s : State) : Host.Outcome State Fault Refusal :=
  .next (arrive l (.deleteReel slot) s)

/-- STORE_PROGRAM (R7 to R9). -/
def execStoreProgram (l : Line) (n : Nat) (items : List RawItem) (s : State) : Host.Outcome State Fault Refusal :=
  .next (arrive l (.storeProgram n items) s)

/-- STORE_SCENE (R10). -/
def execStoreScene (l : Line) (scene house aisle fade : Nat) (s : State) : Host.Outcome State Fault Refusal :=
  .next (arrive l (.storeScene scene house aisle fade) s)

/-- THREAD (R13, R14). -/
def execThread (l : Line) (p slot : Nat) (s : State) : Host.Outcome State Fault Refusal :=
  .next (arrive l (.thread p slot) s)

/-- UNTHREAD (R15). -/
def execUnthread (l : Line) (p : Nat) (s : State) : Host.Outcome State Fault Refusal := .next (arrive l (.unthread p) s)

/-- OPEN (R43). -/
def execOpenScreen (l : Line) (n : Nat) (s : State) : Host.Outcome State Fault Refusal := .next (arrive l (.openScreen n) s)

/-- START (R45, R46). -/
def execStart (l : Line) (n : Nat) (s : State) : Host.Outcome State Fault Refusal := .next (arrive l (.start n) s)

/-- STOP (R51). -/
def execStop (l : Line) (n : Nat) (s : State) : Host.Outcome State Fault Refusal := .next (arrive l (.stop n) s)

/-- CLOSE (R44). -/
def execClose (l : Line) (n : Nat) (s : State) : Host.Outcome State Fault Refusal := .next (arrive l (.close n) s)

/-- RESUME (R70). -/
def execResume (l : Line) (n : Nat) (s : State) : Host.Outcome State Fault Refusal := .next (arrive l (.resume n) s)

/-- CHANGE_NOW (R64). -/
def execChangeNow (l : Line) (n : Nat) (s : State) : Host.Outcome State Fault Refusal := .next (arrive l (.changeNow n) s)

/-- SET_LAMP (R74, R75). -/
def execSetLamp (l : Line) (p : Nat) (x : LampSettings) (s : State) : Host.Outcome State Fault Refusal :=
  .next (arrive l (.setLamp p x) s)

/-- STRIKE (R79). -/
def execStrike (l : Line) (p run : Nat) (s : State) : Host.Outcome State Fault Refusal :=
  .next (arrive l (.strike p run) s)

/-- QUENCH (R91). -/
def execQuench (l : Line) (p : Nat) (s : State) : Host.Outcome State Fault Refusal := .next (arrive l (.quench p) s)

/-- TRIM (R93). -/
def execTrim (l : Line) (p length : Nat) (s : State) : Host.Outcome State Fault Refusal := .next (arrive l (.trim p length) s)

/-- SET_CAPACITY (R108). -/
def execSetCapacity (l : Line) (cap : Nat) (s : State) : Host.Outcome State Fault Refusal :=
  .next (arrive l (.setCapacity cap) s)

/-- SET_SURGE (R109). -/
def execSetSurge (l : Line) (surge : Nat) (s : State) : Host.Outcome State Fault Refusal :=
  .next (arrive l (.setSurge surge) s)

/-- SET_RECLAIM (R109). -/
def execSetReclaim (l : Line) (lead gap : Nat) (s : State) : Host.Outcome State Fault Refusal :=
  .next (arrive l (.setReclaim lead gap) s)

/-- LIGHTS (R134). -/
def execLights (l : Line) (n : Nat) (form : LightsForm) (s : State) : Host.Outcome State Fault Refusal :=
  .next (arrive l (.lights n form) s)

/-- LIGHTS_RELEASE (R135). -/
def execLightsRelease (l : Line) (n : Nat) (s : State) : Host.Outcome State Fault Refusal :=
  .next (arrive l (.lightsRelease n) s)

/-- SET_FLOOR (R133). -/
def execSetFloor (l : Line) (level : Nat) (s : State) : Host.Outcome State Fault Refusal :=
  .next (arrive l (.setFloor level) s)

/-- SET_REST (R136). -/
def execSetRest (l : Line) (c level : Nat) (s : State) : Host.Outcome State Fault Refusal :=
  .next (arrive l (.setRest c level) s)

/-- SET_MOTION (R38). -/
def execSetMotion (l : Line) (m : MotionSettings) (s : State) : Host.Outcome State Fault Refusal :=
  .next (arrive l (.setMotion m) s)

/-- FIRE_ASSERT (R140). -/
def execFireAssert (l : Line) (s : State) : Host.Outcome State Fault Refusal := .next (arrive l .fireAssert s)

/-- FIRE_RELEASE (R140). -/
def execFireRelease (l : Line) (s : State) : Host.Outcome State Fault Refusal := .next (arrive l .fireRelease s)

/-- CLEAR_FIRE (R143). -/
def execClearFire (l : Line) (s : State) : Host.Outcome State Fault Refusal := .next (arrive l .clearFire s)

/-- REHANG (R149). -/
def execRehang (l : Line) (n : Nat) (s : State) : Host.Outcome State Fault Refusal := .next (arrive l (.rehang n) s)

/-- UNKNOWN_ORDER (R154, R157). -/
def execUnknownOrder (l : Line) (kind : Nat) (s : State) : Host.Outcome State Fault Refusal :=
  .next (arrive l (.unknown kind) s)

end Sys2Proof.Machine
end

