-- ==== Sys2Proof/Machine/Station.lean ====
section
/-! DEFINITION. The receiving side of a station line byte by byte (R153, R154), its limits, the line reset (R155), the end of an
outgoing message (R161), and the commands that are these events. -/

namespace Sys2Proof.Machine

def setAssembler (l : Line) (a : Assembler) (s : State) : State := s.modLine l (fun x => { x with asm := a })

/-- The frame, with the message it belongs to, is discarded: HUNT, and one GARBLED reply with its cause (R153, R154). -/
def garble (l : Line) (cause : GarbleCause) (s : State) : State := reply l (.garbled cause) (setAssembler l .hunt s)

/-! ## Judging a frame -/

/-- The bytes from the length to the check sum to 0 modulo 256 (R153). -/
def soundSum (bytes : List Byte) : Bool := bytes.foldl (fun x y => x + y) 0 == 0

/-- The kind code and the continuation flag of a kind byte (R154). -/
def kindOf (b : Byte) : Nat := b.toNat % 128

def continues (b : Byte) : Bool := decide (128 ≤ b.toNat)

/-- A later frame of a message: its kind differs from the first frame's, or it is a ninth (R154). -/
def outOfSequence (m : Option Partial) (kind : Nat) : Bool :=
  match m with
  | some x => decide (x.kind ≠ kind) || decide (8 ≤ x.frames)
  | none => false

/-- The message with one more sound frame joined (R154). -/
def joined (m : Option Partial) (kind : Nat) (params : List Byte) : Partial :=
  match m with
  | some x => { x with params := x.params ++ params, frames := x.frames + 1 }
  | none => ⟨kind, params, 1⟩

/-- A sound frame ends its message, which is an order, or leaves the assembler in GAP (R154). -/
def soundFrame (l : Line) (m : Option Partial) (kindByte : Byte) (params : List Byte) (s : State) : State :=
  if outOfSequence m (kindOf kindByte) then garble l .sequence s
  else
    let x := joined m (kindOf kindByte) params
    if continues kindByte then setAssembler l (.gap x 0) s
    else arrive l (orderOf x.kind (x.params.map BitVec.toNat)) (setAssembler l .hunt s)

/-- A frame complete with its check byte is judged by its sum (R153); `got` is its bytes after the sync byte. -/
def wholeFrame (l : Line) (m : Option Partial) (got : List Byte) (s : State) : State :=
  if soundSum got then
    match got with
    | _ :: kindByte :: rest => soundFrame l m kindByte rest.dropLast s
    | _ => garble l .length s
  else garble l .check s

/-- One more byte of a frame (R153): a bad length discards it, the check byte completes it. -/
def frameByte (l : Line) (m : Option Partial) (got : List Byte) (elapsed : Nat) (s : State) : State :=
  match got with
  | [] => s
  | n :: _ =>
    if n.toNat = 0 ∨ 24 < n.toNat then garble l .length s
    else if got.length < n.toNat + 2 then setAssembler l (.frame m got elapsed) s
    else wholeFrame l m got s

/-- A byte taken by the assembler (R153, R154). -/
def feedByte (l : Line) (b : Byte) (s : State) : State :=
  match (s.line l).asm with
  | .hunt => if b = 0x7E then setAssembler l (.frame none [] 0) s else s
  | .frame m got elapsed => frameByte l m (got ++ [b]) elapsed s
  | .gap m _ => if b = 0x7E then setAssembler l (.frame (some m) [] 0) s else garble l .sequence s

/-- The bytes of a line in their order. -/
def feedBytes (l : Line) (bytes : List Byte) (s : State) : State := bytes.foldl (fun t b => feedByte l b t) s

/-! ## Limits, errors, break and the transmitter -/

/-- The 0.5 s of a frame run out (R154). -/
def frameTimeOut (l : Line) (s : State) : State :=
  match (s.line l).asm with
  | .frame _ _ _ => garble l .time s
  | _ => s

/-- The 0.5 s in GAP run out (R154). -/
def gapTimeOut (l : Line) (s : State) : State :=
  match (s.line l).asm with
  | .gap _ _ => garble l .sequence s
  | _ => s

/-- A byte error, or a byte other than 7Eh in GAP (R153, R154). -/
def byteFails (l : Line) (s : State) : State :=
  match (s.line l).asm with
  | .hunt => s
  | .frame _ _ _ => garble l .byteError s
  | .gap _ _ => garble l .sequence s

/-- A line reset (R155): a message whose transmission has begun is sent to its end. -/
def LineState.lineReset (x : LineState) : LineState :=
  { asm := .hunt, buffer := [], replies := [], notices := [], overrun := false, tx := x.tx }

def lineBreaks (l : Line) (s : State) : State := notify l .lineRestarted (s.modLine l LineState.lineReset)

/-- The last frame of an outgoing message completes: the transmitter chooses the next (R161), and a reply that leaves its
queue may let a buffered order be taken (R158). -/
def messageSent (l : Line) (s : State) : State :=
  match (s.line l).tx with
  | some _ => takeAll l (s.modLine l (fun x => LineState.kick { x with tx := none }))
  | none => s

/-- What the line events do while the controller runs. -/
def whileRunning (f : State → State) (s : State) : State := if s.running then f s else s

/-! ## The commands -/

/-- FRAME_RECEIVED (R153, R154; log 20). -/
def execFrameReceived (l : Line) (bytes : List Byte) (s : State) : Host.Outcome State Fault Refusal :=
  .next (whileRunning (feedBytes l bytes) s)

/-- FRAME_TIME_LIMIT (R154). -/
def execFrameTimeLimit (l : Line) (s : State) : Host.Outcome State Fault Refusal := .next (whileRunning (frameTimeOut l) s)

/-- GAP_TIME_LIMIT (R154). -/
def execGapTimeLimit (l : Line) (s : State) : Host.Outcome State Fault Refusal := .next (whileRunning (gapTimeOut l) s)

/-- LINE_BREAK (R155). -/
def execLineBreak (l : Line) (s : State) : Host.Outcome State Fault Refusal := .next (whileRunning (lineBreaks l) s)

/-- MESSAGE_SENT (R161). -/
def execMessageSent (l : Line) (s : State) : Host.Outcome State Fault Refusal := .next (whileRunning (messageSent l) s)

/-- BYTE_ERROR (R153, R154). -/
def execByteError (l : Line) (s : State) : Host.Outcome State Fault Refusal := .next (whileRunning (byteFails l) s)

end Sys2Proof.Machine
end

