-- ==== Sys2Proof/Machine/Supply.lean ====
section
/-! DEFINITION. The supplies and the resets (R169, R170): what is kept and what takes its reset value, the fall and rise of
SGOOD, the loss of VSB, the RESET input, and the commands that are these events. -/

namespace Sys2Proof.Machine

/-! ## Reset values and retained items -/

/-- A retained fire record met by a main restore or a panel reset: an OPEN entry ends RESET (R150). -/
def closeByReset (record : List FireEntry) : List FireEntry :=
  record.map (fun e => if e.ended = .openEntry then { e with ended := .reset, clearTime := none } else e)

/-- Every item that is not retained takes its reset value (R39, R71, R94, R123, R137, R151, R163, R166, R170); the retained
items, the pins and the waiting commands stay. -/
def State.resetValues (s : State) : State :=
  { s with
    scanDue := true, boothTime := 0, tickCount := 0, stampSub := Config.stampAtReset, stampTimer := Config.stampAtReset,
    contexts := Quad.fill (Pair.fill none), channels := Quad.fill (Pair.fill Channel.reset),
    seqs := Quad.fill Sequencer.reset,
    lamps := s.lamps.map (Pair.map (fun l => Lamp.reset l.settings l.carbon)),
    budget := Budget.reset s.budget.cap s.budget.surge s.budget.lead s.budget.gap,
    circuits := s.circuits.map (Duo.map (fun c => Circuit.reset c.rest)),
    fire := FireUnit.reset s.fire.record,
    lines := PerLine.fill LineState.reset }

/-- Every retained item at its default (R11, R38, R74, R96, R107, R137, R150), the marker lost, everything else as it
stands. -/
def State.storeLost (s : State) : State :=
  { s with
    storeValid := false, reels := State.reset.reels, programs := State.reset.programs, scenes := Scene.defaults,
    motionSettings := MotionSettings.defaults,
    lamps := s.lamps.map (Pair.map (fun l => { l with settings := LampSettings.defaults, carbon := 0 })),
    budget := { s.budget with cap := State.reset.budget.cap, surge := State.reset.budget.surge,
                              lead := State.reset.budget.lead, gap := State.reset.budget.gap },
    circuits := s.circuits.map (Duo.map (fun c => { c with rest := 100 })), floor := State.reset.floor,
    fire := { s.fire with record := [] } }

/-- A main restore or a panel reset (R170): the retained items kept, an OPEN fire entry ended (R150). -/
def State.keptReset (s : State) : State :=
  (s.resetValues).modFire (fun u => { u with record := closeByReset u.record })

/-- A power-on (R170): every retained item at its default, then the marker set. -/
def State.powerOn (s : State) : State := { s.storeLost.resetValues with storeValid := true }

/-! ## The events -/

/-- SGOOD falls (R169): STANDBY; what is not retained is lost (it takes its reset value at once, log 7), and without VSB the
retained items and the marker are lost with it. -/
def sgoodFalls (vsb : Bool) (s : State) : State :=
  match s.supply with
  | .standby => s
  | .run =>
    let t := if vsb then s else s.storeLost
    { t.resetValues with supply := .standby, vsb := vsb }

/-- SGOOD rises from STANDBY (R169, R170): a main restore with the marker, a power-on without it. -/
def sgoodRises (vsb : Bool) (s : State) : State :=
  match s.supply with
  | .run => s
  | .standby =>
    let t := if vsb then s else s.storeLost
    { (if t.storeValid then t.keptReset else t.powerOn) with supply := .run, vsb := vsb }

/-- VSB is lost (R169): the marker goes with it, and in STANDBY the retained items too; in RUN the controller runs on. -/
def vsbLost (s : State) : State :=
  match s.supply with
  | .run => { s with vsb := false, storeValid := false }
  | .standby => { s.storeLost with vsb := false }

/-- RESET rises (R170): a panel reset in RUN, no effect in STANDBY but the level of the pin. -/
def resetRises (s : State) : State :=
  if s.resetPin then s
  else
    match s.supply with
    | .run => { s.keptReset with resetPin := true }
    | .standby => { s with resetPin := true }

/-! ## The commands -/

/-- SGOOD_FALL (R169). -/
def execSgoodFall (vsb : Bool) (s : State) : Host.Outcome State Fault Refusal := .next (sgoodFalls vsb s)

/-- SGOOD_RISE (R169, R170). -/
def execSgoodRise (vsb : Bool) (s : State) : Host.Outcome State Fault Refusal := .next (sgoodRises vsb s)

/-- VSB_LOSS (R169). -/
def execVsbLoss (s : State) : Host.Outcome State Fault Refusal := .next (vsbLost s)

/-- PANEL_RESET (R170). -/
def execPanelReset (s : State) : Host.Outcome State Fault Refusal := .next (resetRises s)

/-- RESET_FALL (R170): the controller runs from its reset values. -/
def execResetFall (s : State) : Host.Outcome State Fault Refusal := .next { s with resetPin := false }

end Sys2Proof.Machine
end

