-- ==== Sys2Proof/Machine/Clock.lean ====
section
/-! DEFINITION. The passing of time (R166 to R168): what a step does when no command waits. One idle step is one stamp unit of
0.1 ms; the channels' limits, booth ticks and advances of booth time that fall in it are taken inside it (log 2). -/

namespace Sys2Proof.Machine

/-- The half second of the assembler's limits, in booth ticks (R154, R166). -/
def lineLimit : Nat := 50

/-! ## One stamp unit -/

/-- A frame age rises with the stamp timer and saturates (R24). -/
def Channel.older (c : Channel) : Channel := { c with age := min 65535 (c.age + 1) }

/-- The elapsed time of an assembler's limit (R154). -/
def Assembler.older : Assembler → Assembler
  | .hunt => .hunt
  | .frame m got e => .frame m got (e + 1)
  | .gap m e => .gap m (e + 1)

/-- The stamp timer advances, and with it the frame ages (R24, R168). -/
def stampAdvance (s : State) : State :=
  { s with stampTimer := (s.stampTimer + 1) % Config.stampWrap, stampSub := s.stampSub + 1,
           channels := s.channels.map (Pair.map Channel.older) }

/-- The frame age has just reached the break window or the coast limit (R24). -/
def channelLimits (p : Proj) (s : State) : State :=
  let age := (s.chan p).age
  let t := if age = breakUnits s.motionSettings then settle (breakNow p s) else s
  if age = coastUnits then settle (coastNow p t) else t

/-! ## One booth tick -/

/-- An assembler's limit counts a tick, and may reach the half second (R154, R166). -/
def lineTick (l : Line) (s : State) : State :=
  let t := s.modLine l (fun x => { x with asm := x.asm.older })
  match (t.line l).asm with
  | .frame _ _ e => if lineLimit ≤ e then frameTimeOut l t else t
  | .gap _ e => if lineLimit ≤ e then gapTimeOut l t else t
  | .hunt => t

/-- A runup timer counts a tick, and may reach the limit (R29, R166). -/
def runupTick (p : Proj) (s : State) : State :=
  match (s.chan p).runup with
  | none => s
  | some k =>
    let t := s.modChan p (fun c => { c with runup := some (k + 1) })
    if runupTicks s.motionSettings ≤ k + 1 then settle (runupReached p t) else t

/-- A persistence timer counts a tick, and may reach the persistence (R146, R166). -/
def persistTick (p : Proj) (s : State) : State :=
  match s.fire.timer p with
  | none => s
  | some k =>
    let t := s.modFire (fun u => u.setTimer p (some (k + 1)))
    if persistTicks s.motionSettings ≤ k + 1 then settle (persistenceReached p t) else t

/-- A lamp in STRIKING counts its phase; COOL-OFF ends after 500 ticks (R82). -/
def strikeTick (p : Proj) (s : State) : State :=
  let t := s.modLamp p (fun l => { l with strikeTicks := l.strikeTicks + 1 })
  if (t.lamp p).phase = some .coolOff ∧ 500 ≤ (t.lamp p).strikeTicks then settle (beginAttempt p t) else t

/-- A lit lamp's 100 ms feed interval (R84). -/
def feedTick (p : Proj) (s : State) : State :=
  let t := s.modLamp p (fun l => { l with feedTicks := l.feedTicks + 1 })
  if 10 ≤ (t.lamp p).feedTicks then settle (feedInterval p t) else t

/-- A lit lamp's 60 s interval (R104). -/
def forecastTick (p : Proj) (s : State) : State :=
  let t := s.modLamp p (fun l => { l with forecastTicks := l.forecastTicks + 1 })
  if 6000 ≤ (t.lamp p).forecastTicks then
    settle (singleForecast p (t.modLamp p (fun l => { l with forecastTicks := 0 })))
  else t

/-- A lamp's timers at a booth tick. -/
def lampTick (p : Proj) (s : State) : State :=
  if (s.lamp p).lit then forecastTick p (feedTick p s)
  else if (s.lamp p).st = .striking then strikeTick p s
  else s

/-! ## The booth tick -/

/-- A booth tick (R166). -/
def boothTick (s : State) : State :=
  let u := forEach Line.all lineTick { s with stampSub := 0 }
  let t := forEach Proj.all (fun p x => lampTick p (persistTick p (runupTick p x))) u
  if 9 ≤ s.tickCount then advanceWithWaits t else { t with tickCount := s.tickCount + 1 }

/-! ## The idle step -/

/-- Time passes by one stamp unit while the controller runs (R166, R168); it stands still in STANDBY and in reset. -/
def idle (s : State) : State :=
  if s.running then
    let t := forEach Proj.all channelLimits (stampAdvance s)
    if 100 ≤ t.stampSub then boothTick t else t
  else s

end Sys2Proof.Machine
end

