-- ==== Sys2Proof/Machine/Dispatch.lean ====
section
/-! DEFINITION. The meaning of every command: one arm per constructor, each one call of the command's own meaning. -/

namespace Sys2Proof.Machine

def exec (i : Instr) (s : State) : Host.Outcome State Fault Refusal :=
  match i with
  | .read line item selector => Sys2Proof.Machine.execRead line item selector s
  | .storeReel line slot owner fields => Sys2Proof.Machine.execStoreReel line slot owner fields s
  | .deleteReel line slot => Sys2Proof.Machine.execDeleteReel line slot s
  | .storeProgram line screen items => Sys2Proof.Machine.execStoreProgram line screen items s
  | .storeScene line scene house aisle fade => Sys2Proof.Machine.execStoreScene line scene house aisle fade s
  | .thread line projector slot => Sys2Proof.Machine.execThread line projector slot s
  | .unthread line projector => Sys2Proof.Machine.execUnthread line projector s
  | .openScreen line screen => Sys2Proof.Machine.execOpenScreen line screen s
  | .start line screen => Sys2Proof.Machine.execStart line screen s
  | .stop line screen => Sys2Proof.Machine.execStop line screen s
  | .close line screen => Sys2Proof.Machine.execClose line screen s
  | .resume line screen => Sys2Proof.Machine.execResume line screen s
  | .changeNow line screen => Sys2Proof.Machine.execChangeNow line screen s
  | .setLamp line lamp settings => Sys2Proof.Machine.execSetLamp line lamp settings s
  | .strike line lamp run => Sys2Proof.Machine.execStrike line lamp run s
  | .quench line lamp => Sys2Proof.Machine.execQuench line lamp s
  | .trim line lamp length => Sys2Proof.Machine.execTrim line lamp length s
  | .setCapacity line cap => Sys2Proof.Machine.execSetCapacity line cap s
  | .setSurge line surge => Sys2Proof.Machine.execSetSurge line surge s
  | .setReclaim line lead gap => Sys2Proof.Machine.execSetReclaim line lead gap s
  | .lights line auditorium form => Sys2Proof.Machine.execLights line auditorium form s
  | .lightsRelease line auditorium => Sys2Proof.Machine.execLightsRelease line auditorium s
  | .setFloor line level => Sys2Proof.Machine.execSetFloor line level s
  | .setRest line circuit level => Sys2Proof.Machine.execSetRest line circuit level s
  | .setMotion line settings => Sys2Proof.Machine.execSetMotion line settings s
  | .fireAssert line => Sys2Proof.Machine.execFireAssert line s
  | .fireRelease line => Sys2Proof.Machine.execFireRelease line s
  | .clearFire line => Sys2Proof.Machine.execClearFire line s
  | .rehang line screen => Sys2Proof.Machine.execRehang line screen s
  | .unknownOrder line kind => Sys2Proof.Machine.execUnknownOrder line kind s
  | .frameReceived line bytes => Sys2Proof.Machine.execFrameReceived line bytes s
  | .frameTimeLimit line => Sys2Proof.Machine.execFrameTimeLimit line s
  | .gapTimeLimit line => Sys2Proof.Machine.execGapTimeLimit line s
  | .lineBreak line => Sys2Proof.Machine.execLineBreak line s
  | .messageSent line => Sys2Proof.Machine.execMessageSent line s
  | .perforationPulse projector => Sys2Proof.Machine.execPerforationPulse projector s
  | .cuePulse projector => Sys2Proof.Machine.execCuePulse projector s
  | .breakWindow projector => Sys2Proof.Machine.execBreakWindow projector s
  | .coastLimit projector => Sys2Proof.Machine.execCoastLimit projector s
  | .runupLimit projector => Sys2Proof.Machine.execRunupLimit projector s
  | .intervalExpiry screen => Sys2Proof.Machine.execIntervalExpiry screen s
  | .touchSample lamp sample => Sys2Proof.Machine.execTouchSample lamp sample s
  | .drawEnd lamp sample => Sys2Proof.Machine.execDrawEnd lamp sample s
  | .coolOffEnd lamp => Sys2Proof.Machine.execCoolOffEnd lamp s
  | .regulation lamp sample => Sys2Proof.Machine.execRegulation lamp sample s
  | .feedStep lamp => Sys2Proof.Machine.execFeedStep lamp s
  | .currentSample lamp sample => Sys2Proof.Machine.execCurrentSample lamp sample s
  | .quenchDue lamp => Sys2Proof.Machine.execQuenchDue lamp s
  | .quenchingEnd lamp => Sys2Proof.Machine.execQuenchingEnd lamp s
  | .litIntervalForecast lamp => Sys2Proof.Machine.execLitIntervalForecast lamp s
  | .leadPoint => Sys2Proof.Machine.execLeadPoint s
  | .strikeLate lamp => Sys2Proof.Machine.execStrikeLate lamp s
  | .boothTimeAdvance => Sys2Proof.Machine.execBoothTimeAdvance s
  | .fireSourceInput source active => Sys2Proof.Machine.execFireSourceInput source active s
  | .gateFlameRise projector => Sys2Proof.Machine.execGateFlameRise projector s
  | .gateFlameFall projector => Sys2Proof.Machine.execGateFlameFall projector s
  | .persistence projector => Sys2Proof.Machine.execPersistence projector s
  | .upSwitchChange port up => Sys2Proof.Machine.execUpSwitchChange port up s
  | .sgoodFall vsb => Sys2Proof.Machine.execSgoodFall vsb s
  | .sgoodRise vsb => Sys2Proof.Machine.execSgoodRise vsb s
  | .vsbLoss => Sys2Proof.Machine.execVsbLoss s
  | .panelReset => Sys2Proof.Machine.execPanelReset s
  | .resetFall => Sys2Proof.Machine.execResetFall s
  | .firstScan inputs => Sys2Proof.Machine.execFirstScan inputs s
  | .byteError line => Sys2Proof.Machine.execByteError line s

end Sys2Proof.Machine
end

