-- ==== Sys2Proof/Safety.lean ====
section
/-! DEFINITION. What a run of the controller may never show, as Booleans and propositions over a state: the bounds the book
prints in bold, and the shape of the machine's own data. -/

namespace Sys2Proof.Machine

/-! ## What the end of an event leaves as it stands

`settle` (log 5) may move lamps, the budget's queue, roles, motors, fades and notices. `State.still` is all the rest. -/

/-- What of a lamp the end of an event leaves alone. -/
abbrev Lamp.still (l : Lamp) : Lamp :=
  { l with st := .dark, litCurrent := none, held := false, target := none, phase := none, attempts := 0, touchSamples := 0,
           pendingFeed := 0, lowCount := 0, quenchDue := none, quenchingEnd := none, faultCause := none, strikeTicks := 0,
           fixedSurge := 0, standing := none }

/-- What of a channel the end of an event leaves alone. -/
abbrev Channel.still (c : Channel) : Channel := { c with reference := false, ring := [], motion := .still, runup := none }

/-- A context but for its COMMITTED flag. -/
abbrev Context.still (c : Context) : Context := { c with committed := false }

/-- A claim but for the mark of the event under way. -/
abbrev Claim.still (k : Claim) : Claim := { k with fresh := false }

/-- What of a circuit the end of an event leaves alone: the rest level, the FIRE holders, the MANUAL and PROGRAM claims. -/
abbrev Circuit.still (c : Circuit) : Circuit :=
  { c with fault := none, manual := c.manual.map Claim.still, program := c.program.map Claim.still, winner := .rest,
           fade := none, engine := 0 }

/-- The replies of a line that are being sent or wait, in their order. -/
def LineState.outgoing (l : LineState) : List Reply :=
  (match l.tx with
    | some (.reply r) => [r]
    | _ => []) ++ l.replies

/-- What of a line a notice leaves alone. -/
abbrev LineState.still (l : LineState) : Assembler × List Order × List Reply := (l.asm, l.buffer, l.outgoing)

/-- What of the budget the end of an event leaves alone. -/
abbrev Budget.still (b : Budget) : Nat × Nat × Nat × Nat := (b.cap, b.surge, b.lead, b.gap)

/-- What of a Sequencer the end of an event leaves alone. -/
abbrev Sequencer.still (q : Sequencer) : Option Nat × Bool := (q.interval, q.reelPending)

/-- What the end of an event leaves alone in the whole state, table by table. -/
structure Still where
  base : State
  lamps : PerProj Lamp
  channels : PerProj Channel
  contexts : PerProj (Option Context)
  circuits : PerCirc Circuit
  lines : PerLine (Assembler × List Order × List Reply)
  budget : Nat × Nat × Nat × Nat
  seqs : Quad (Option Nat × Bool)

/-- A state with the tables of `State.still` blanked: what is left is the supplies, the clock, the Store, the scenes, the motion
settings, the aisle floor, the Fire Protection Unit and the waiting commands. -/
def State.base (s : State) : State :=
  { s with contexts := State.reset.contexts, channels := State.reset.channels, seqs := State.reset.seqs,
           lamps := State.reset.lamps, budget := State.reset.budget, circuits := State.reset.circuits,
           lines := State.reset.lines }

def State.still (s : State) : Still :=
  { base := s.base, lamps := s.lamps.map (Pair.map Lamp.still), channels := s.channels.map (Pair.map Channel.still),
    contexts := s.contexts.map (Pair.map (Option.map Context.still)), circuits := s.circuits.map (Duo.map Circuit.still),
    lines := ⟨s.lines.screens.map LineState.still, s.lines.house.still⟩, budget := s.budget.still,
    seqs := s.seqs.map Sequencer.still }

/-- The line has got one reply more, behind those it had. -/
def Still.replied (x : Still) (l : Line) (r : Reply) : Still :=
  { x with lines := x.lines.set l ((x.lines.get l).1, (x.lines.get l).2.1, (x.lines.get l).2.2 ++ [r]) }

/-! ## When a command runs -/

/-- The command answers a next state, and that state satisfies `post`. -/
def runs (c : Instr) (s : State) (post : State → Prop) : Prop := ∃ t, exec c s = .next t ∧ post t

/-- An order that completes on the line is taken in the same event: the controller runs, no order waits before it, and the
reply queue has room (R156). -/
abbrev lineFree (s : State) (l : Line) : Prop := s.running = true ∧ (s.line l).buffer = [] ∧ (s.line l).replies.length < 4

/-- The end of an event has nothing to do but to judge the lights: no start, no changeover record, no relight hold, no cause of
R114 that waits. -/
def quiet (s : State) : Prop :=
  s.budget.examine = false ∧
    ∀ n : Screen, (s.seq n).startRec = none ∧ (s.seq n).changeover = none ∧ (s.seq n).demand.a ≠ .relightHold ∧
      (s.seq n).demand.b ≠ .relightHold

/-- The command answers a next state, which is `u` as the end of the event leaves it (log 5): what `State.still` gathers is as
`u` has it, and a quiet `u` has only its lights judged. -/
def ends (c : Instr) (s u : State) : Prop :=
  ∃ t, exec c s = .next t ∧ t = settle u ∧ t.still = u.still ∧ (quiet u → t = judgeLights u)

/-- The PROGRAM claims of an auditorium that is not CLOSED take a scene as placed in this event: the aisle target is no lower
than the aisle floor (R40, R126). -/
def takesScene (n : Screen) (x : Scene) (s : State) : State :=
  (s.setCirc ⟨n, .house⟩ { s.circ ⟨n, .house⟩ with program := some ⟨x.house, .time x.fade, true⟩ }).setCirc ⟨n, .aisle⟩
    { s.circ ⟨n, .aisle⟩ with program := some ⟨max x.aisle s.floor, .time x.fade, true⟩ }

/-- A cause of R114 has come. -/
def examined (s : State) : State := { s with budget := { s.budget with examine := true } }

/-- A reset other than a line reset brings `t`: a panel reset, or the end of standby by a main restore or a power-on (R170). -/
def everyReset (s t : State) : Prop :=
  (s.supply = .run ∧ s.resetPin = false ∧ exec .panelReset s = .next t) ∨
    (s.supply = .standby ∧ ∃ vsb, exec (.sgoodRise vsb) s = .next t)

/-- The five commands of the supplies and of the RESET input (R169, R170). -/
def isSupplyCommand : Instr → Bool
  | .sgoodFall _ => true
  | .sgoodRise _ => true
  | .vsbLoss => true
  | .panelReset => true
  | .resetFall => true
  | _ => false

/-- The retained items of `t` but the fire record are those of `s` (R169, R170). -/
def sameStore (s t : State) : Prop :=
  t.reels = s.reels ∧ t.programs = s.programs ∧ t.scenes = s.scenes ∧ t.floor = s.floor ∧
    t.motionSettings = s.motionSettings ∧ t.budget.still = s.budget.still ∧
    (∀ p : Proj, (t.lamp p).settings = (s.lamp p).settings ∧ (t.lamp p).carbon = (s.lamp p).carbon) ∧
    ∀ c : Circ, (t.circ c).rest = (s.circ c).rest

/-- A fire record as a main restore or a panel reset leaves it: an OPEN entry ends RESET with no clear time (R150). -/
def recordClosed (record : List FireEntry) : List FireEntry :=
  record.map (fun e => if e.ended = .openEntry then { e with ended := .reset, clearTime := none } else e)

/-! ## Cues (R58, R60) -/

/-- From `s` to `u` the record `r` has taken its motor cue: the incoming film is started and the record is ROLLING; with the
restart held the cue is only recorded (R58). -/
def motorCueTaken (n : Screen) (r : Changeover) (take : CueTake) (s u : State) : Prop :=
  ∃ r', (u.seq n).changeover = some r' ∧ r'.motorCue = some take ∧ r'.changeCue = r.changeCue ∧ (u.seq n).roles = (s.seq n).roles ∧
    (r.restartHeld = true → r'.st = r.st ∧ (u.seq n).motor = (s.seq n).motor) ∧
    (r.restartHeld = false → r'.st = .rolling ∧ motorIsOn u ⟨n, r.incoming⟩ = true ∧
      ∀ c, u.ctx ⟨n, r.incoming⟩ = some c → c.committed = true)

/-- From `s` to `u` the record `r` has taken its changeover cue: the switch in READY, MISSED in the states before (R60, R62). -/
def changeCueTaken (n : Screen) (r : Changeover) (take : CueTake) (s u : State) : Prop :=
  ∃ r', (u.seq n).changeover = some r' ∧ r'.changeCue = some take ∧ (u.seq n).showState = (s.seq n).showState ∧
    (r.st = .ready → r'.st = .switched ∧ (u.seq n).pointer = (s.seq n).pointer + 1 ∧
      (u.seq n).role r.incoming = .active ∧ (u.seq n).role r.incoming.other = .runOff .switched ∧
      (u.seq n).demand.get r.incoming = .set ∧ (u.seq n).demand.get r.incoming.other = .clear ∧
      (u.seq n).sound = soundOf r.incoming ∧
      ∀ c, s.ctx ⟨n, r.incoming⟩ = some c →
        r'.offset = some (((s.chan ⟨n, r.incoming⟩).frames : Int) - (c.reel.head : Int))) ∧
    (r.st ≠ .ready → r'.st = .missed ∧ (u.seq n).pointer = (s.seq n).pointer ∧ (u.seq n).roles = (s.seq n).roles ∧
      (u.seq n).demand = (s.seq n).demand ∧ (u.seq n).sound = (s.seq n).sound)

/-! ## Station lines (R156, R158, R159) -/

/-- How many of a line's waiting notices are fire notices. -/
def fireCount (ns : List Notice) : Nat := (ns.filter (fun n => n.body.isFire)).length

/-- A line's queues are within their sizes, and at most one fire notice waits (R156, R158, R159). -/
def LineState.ok (l : LineState) : Prop :=
  l.buffer.length ≤ 2 ∧ l.replies.length ≤ 4 ∧ l.notices.length ≤ 12 ∧ fireCount l.notices ≤ 1

/-- Every line is within its bounds. -/
def linesOk (s : State) : Prop := ∀ l : Line, (s.line l).ok

/-! ## Film channels (R21) -/

/-- A channel's items are within their ranges (R21): F, the frame age, the ring and its periods, the bounce count. -/
def Channel.ok (c : Channel) : Prop :=
  c.frames ≤ 65535 ∧ c.age ≤ 65535 ∧ c.ring.length ≤ 4 ∧ (∀ x ∈ c.ring, 1 ≤ x ∧ x ≤ 65535) ∧ c.bounce ≤ 255

def channelsOk (s : State) : Prop := ∀ p : Proj, (s.chan p).ok

/-- Every channel within its ranges, and the motion settings within theirs (R21, R38). -/
def motionWellKept (s : State) : Prop := channelsOk s ∧ motionOk s.motionSettings = true

/-! ## The store (R1, R2, R7, R10) -/

/-- The store has its 48 slots and its eight scenes, of levels within 0 to 100 and fade times within 0 to 600; the frames of
every record stand in the order of R2, and every program list has the shape of R7. -/
def storeOk (s : State) : Prop :=
  s.reels.length = 48 ∧ (∀ r, some r ∈ s.reels → r.head < r.xmc ∧ r.xmc < r.xco ∧ r.xco ≤ r.lastPicture) ∧
    s.scenes.length = 8 ∧ (∀ x ∈ s.scenes, x.house ≤ 100 ∧ x.aisle ≤ 100 ∧ x.fade ≤ 600) ∧
    (∀ n : Screen, programShapeOk (s.programs.get n) = true)

/-! ## Screens (R42) -/

/-- Demand is set for at most one projector of a screen (R42). -/
def oneDemand (q : Sequencer) : Prop := q.demand.a = .clear ∨ q.demand.b = .clear

def demandsOk (s : State) : Prop := ∀ n : Screen, oneDemand (s.seq n)

/-! ## Booth fire (R142) -/

/-- While the fire state is ON: charges zero, motors off, FIRE claims on every circuit (R142). -/
def fireHolds (s : State) : Prop :=
  s.fire.on = true →
    (∀ p : Proj, (s.lamp p).charge = 0) ∧ (∀ p : Proj, motorIsOn s p = false) ∧ (∀ c : Circ, (s.circ c).winnerNow = .fire)

/-- A start that no halt has frozen. -/
def Sequencer.starting (q : Sequencer) : Bool :=
  match q.startRec with
  | some r => !r.frozen
  | none => false

/-- What keeps `fireHolds` while the fire state is ON (R142): no lamp waits, no entry waits, no screen shows, times an interval
or stands READY, no start goes on, no changeover is prepared. At any time, no CLOSED screen has a start, and no halt came from
CLOSED (R67). -/
def fireSafe (s : State) : Prop :=
  (∀ n : Screen, ((s.seq n).showState = .closed → (s.seq n).startRec = none) ∧ (s.seq n).haltedFrom ≠ some .closed) ∧
    (s.fire.on = true →
      fireHolds s ∧ s.budget.queue = [] ∧ (∀ p : Proj, (s.lamp p).inUse = false ∧ (s.lamp p).st ≠ .queued) ∧
        (∀ c : Circ, (s.circ c).fireBooth = true) ∧
        ∀ n : Screen, (s.seq n).changeover = none ∧ (s.seq n).starting = false ∧
          ((s.seq n).showState = .closed ∨ (s.seq n).showState = .halted ∨ (s.seq n).showState = .ended))

/-! ## The budget (R110, R111) -/

/-- At most one entry for each lamp (R111). -/
def oneEntryEach (q : List Entry) : Prop := (q.map Entry.lamp).Nodup

/-- Every entry's lamp is QUEUED or QUENCHING (R111). -/
def entriesWait (s : State) : Prop :=
  ∀ e ∈ s.budget.queue, (s.lamp e.lamp).st = .queued ∨ (s.lamp e.lamp).st = .quenching

def queueOk (s : State) : Prop := oneEntryEach s.budget.queue ∧ entriesWait s

/-- The sum of the charges is within Cap but under an overdraft, and in STANDBY no lamp is in use (R110, R169). -/
def withinCap (s : State) : Prop :=
  (s.supply = .standby → ∀ p : Proj, (s.lamp p).inUse = false) ∧ (s.budget.overdrawn = false → sigma s ≤ s.budget.cap)

end Sys2Proof.Machine
end

