-- ==== Sys2Proof/WellFormed.lean ====
section
/-! DEFINITION. Well-formed commands: those that a wire or a latch board can bring. An order's parameters are numbers of one
or two bytes as R164 lays them out, within the 184 parameter bytes of a message (R154); whether they are valid values is the
owning block's own check, and no part of this. -/

namespace Sys2Proof

/-- A number that one byte spells. -/
def isByte (n : Nat) : Bool := decide (n < 256)

/-- A number that two bytes spell. -/
def isTwoBytes (n : Nat) : Bool := decide (n < 65536)

/-- A kind code that is not an order code (R154, R165). -/
def isForeignKind (k : Nat) : Bool := decide (k < 128) && !(decide (1 ≤ k) && decide (k ≤ 0x1D))

def RawMark.wf (m : RawMark) : Bool := isTwoBytes m.frame && isByte m.scene && isByte m.kind && isTwoBytes m.count

/-- The bytes of a STORE REEL message fit in eight frames: 19 of fixed fields, the label and 6 for each mark (R164). -/
def ReelFields.wf (f : ReelFields) : Bool :=
  f.label.all isByte && isByte f.format && isTwoBytes f.length && isTwoBytes f.head && isTwoBytes f.tail && isByte f.lead &&
    isTwoBytes f.motorLead && isByte f.mode && isByte f.window && isByte f.overridePresent && isByte f.overrideValue &&
    f.marks.all RawMark.wf && decide (18 + f.label.length + 6 * f.marks.length ≤ 184)

def RawItem.wf (i : RawItem) : Bool := isByte i.kind && isByte i.first && isByte i.second

def BurnPoint.wf (p : BurnPoint) : Bool := isByte p.current && isByte p.rate

def LampSettings.wf (x : LampSettings) : Bool :=
  isByte x.run && isByte x.standby && isByte x.setpoint && isByte x.band && isByte x.gain && isByte x.warm &&
    isByte x.minWarm && isByte x.quenchDelay && isTwoBytes x.margin && x.burn.p1.wf && x.burn.p2.wf && x.burn.p3.wf &&
    x.burn.p4.wf

def LightsForm.wf : LightsForm → Bool
  | .scene k => isByte k
  | .levels h a fade => isByte h && isByte a && isTwoBytes fade

def MotionSettings.wf (m : MotionSettings) : Bool :=
  isByte m.gateThreshold && isByte m.runupLimit && isByte m.breakWindow && isByte m.persistence

/-- A sample is held at 255 by the latch board (00, Units). -/
def ScanInputs.wf (i : ScanInputs) : Bool :=
  Proj.all.all (fun p => isByte ((i.currents.get p.screen).get p.side) && isByte ((i.voltages.get p.screen).get p.side))

/-- The command is one that its sender can send. -/
def Instr.wf : Instr → Bool
  | .read _ item selector => isByte item && isTwoBytes selector
  | .storeReel _ slot owner f => isByte slot && isByte owner && f.wf
  | .deleteReel _ slot => isByte slot
  | .storeProgram _ n items => isByte n && items.all RawItem.wf && decide (2 + 3 * items.length ≤ 184)
  | .storeScene _ k h a fade => isByte k && isByte h && isByte a && isTwoBytes fade
  | .thread _ p slot => isByte p && isByte slot
  | .unthread _ p => isByte p
  | .openScreen _ n => isByte n
  | .start _ n => isByte n
  | .stop _ n => isByte n
  | .close _ n => isByte n
  | .resume _ n => isByte n
  | .changeNow _ n => isByte n
  | .setLamp _ p x => isByte p && x.wf
  | .strike _ p run => isByte p && isByte run
  | .quench _ p => isByte p
  | .trim _ p length => isByte p && isTwoBytes length
  | .setCapacity _ cap => isTwoBytes cap
  | .setSurge _ surge => isByte surge
  | .setReclaim _ lead gap => isByte lead && isTwoBytes gap
  | .lights _ n form => isByte n && form.wf
  | .lightsRelease _ n => isByte n
  | .setFloor _ v => isByte v
  | .setRest _ c v => isByte c && isByte v
  | .setMotion _ m => m.wf
  | .fireAssert _ => true
  | .fireRelease _ => true
  | .clearFire _ => true
  | .rehang _ n => isByte n
  | .unknownOrder _ k => isForeignKind k
  | .frameReceived _ bytes => decide (bytes.length ≤ 27)
  | .frameTimeLimit _ => true
  | .gapTimeLimit _ => true
  | .lineBreak _ => true
  | .messageSent _ => true
  | .perforationPulse _ => true
  | .cuePulse _ => true
  | .breakWindow _ => true
  | .coastLimit _ => true
  | .runupLimit _ => true
  | .intervalExpiry _ => true
  | .touchSample _ v => isByte v
  | .drawEnd _ v => isByte v
  | .coolOffEnd _ => true
  | .regulation _ v => isByte v
  | .feedStep _ => true
  | .currentSample _ v => isByte v
  | .quenchDue _ => true
  | .quenchingEnd _ => true
  | .litIntervalForecast _ => true
  | .leadPoint => true
  | .strikeLate _ => true
  | .boothTimeAdvance => true
  | .fireSourceInput _ _ => true
  | .gateFlameRise _ => true
  | .gateFlameFall _ => true
  | .persistence _ => true
  | .upSwitchChange _ _ => true
  | .sgoodFall _ => true
  | .sgoodRise _ => true
  | .vsbLoss => true
  | .panelReset => true
  | .resetFall => true
  | .firstScan i => i.wf
  | .byteError _ => true

end Sys2Proof
end

