-- ==== Sys2Proof/Certificates/Slice0/Obligations.lean ====
section
/-! DEFINITION. The statements for the provers, by chapter of the book. A statement about a command that is one event of the
running controller is written with `ends` (Safety.lean): the command answers a next state, and that state is the given one with
the end of the event taken (log 5). -/

section

open Sys2Proof Sys2Proof.Machine

/-! ## The block as a whole -/

/-- One step takes the command at the front of the queue and runs it on the queue's rest. -/
def Obligations.StepTakesTheFrontCommand : Prop :=
  ∀ (c : Instr) (rest : List Instr) (s : State), s.pending = c :: rest → step s = exec c { s with pending := rest }

/-- Every command answers a next state and leaves the waiting commands; only the supply commands touch the supplies, only
they and an advance touch booth time. Out of run, no other command and no idle step has any effect (R166, R169, R170). -/
def Obligations.EveryCommandAnswers : Prop :=
  (∀ (c : Instr) (s : State), runs c s (fun t => t.pending = s.pending ∧
    (isSupplyCommand c = false → t.supply = s.supply ∧ t.resetPin = s.resetPin ∧ t.vsb = s.vsb ∧ t.storeValid = s.storeValid ∧
      t.stampTimer = s.stampTimer ∧ (c ≠ .boothTimeAdvance → t.boothTime = s.boothTime)))) ∧
  ∀ s : State, s.running = false →
    (∀ c : Instr, isSupplyCommand c = false → exec c s = .next s) ∧ (s.pending = [] → step s = .next s)

/-- An idle step of a running controller is one stamp unit; a hundred are a booth tick, ten ticks advance booth time (R166, R168;
that a step stands for one stamp unit is the model's choice, log 2). -/
def Obligations.IdleStepCountsTime : Prop :=
  ∀ s : State, s.running = true → s.pending = [] → ∃ t, step s = .next t ∧ t.stampTimer = (s.stampTimer + 1) % 65536 ∧
    (s.stampSub + 1 < 100 → t.stampSub = s.stampSub + 1 ∧ t.tickCount = s.tickCount ∧ t.boothTime = s.boothTime) ∧
    (100 ≤ s.stampSub + 1 → t.stampSub = 0 ∧ t.tickCount = (if 9 ≤ s.tickCount then 0 else s.tickCount + 1) ∧
      t.boothTime = (if 9 ≤ s.tickCount then s.boothTime + 1 else s.boothTime))

/-! ## Station lines (chapter 9) -/

/-- An order other than READ, completing on a free line, gets exactly one reply; no other line, and no buffer or assembler,
changes. An order that finds two held is answered BUSY; one that finds four replies waiting waits in the buffer (R156 to R158). -/
def Obligations.AnOrderGetsOneReply : Prop :=
  ∀ (c : Instr) (l : Line) (o : Order) (s : State), orderOfInstr c = some (l, o) →
    ((∀ item selector, o ≠ .read item selector) → lineFree s l →
      runs c s (fun t => t.still.lines = (s.still.replied l (judgeOrder l o s)).lines)) ∧
    (s.running = true → (s.line l).buffer.length = 2 → exec c s = .next (reply l (.busy o.kind) s)) ∧
    (s.running = true → (s.line l).buffer.length < 2 → (s.line l).replies.length = 4 →
      exec c s = .next (s.setLine l { s.line l with buffer := (s.line l).buffer ++ [o] }))

/-- A refused order, an unknown one among them, has its reply and no other effect (R157, R158). -/
def Obligations.ARefusedOrderChangesNothing : Prop :=
  (∀ (c : Instr) (l : Line) (o : Order) (s : State) (k : Nat) (r : Reason), orderOfInstr c = some (l, o) →
    (∀ item selector, o ≠ .read item selector) → lineFree s l → judgeOrder l o s = .refused k r →
      ends c s (reply l (.refused k r) s)) ∧
  ∀ (l : Line) (k : Nat) (s : State), lineFree s l → ends (.unknownOrder l k) s (reply l (.refused k .unknownOrder) s)

/-- The screen orders are the own line's, STOP and REHANG the house line's too, the settings and lighting orders the house
line's, the rest any line's; an order without its privilege is refused NOT OWNER before the owning block's checks (R157). -/
def Obligations.PrivilegeIsTheLines : Prop :=
  (∀ (l : Line) (o : Order) (s : State), privileged l o = false → judgeOrder l o s = .refused o.kind .notOwner) ∧
  (∀ (l : Line) (n : Screen) (items : List RawItem),
    ∀ o ∈ [Order.openScreen (screenNumber n), .start (screenNumber n), .close (screenNumber n), .resume (screenNumber n),
        .changeNow (screenNumber n), .storeProgram (screenNumber n) items],
      (privileged l o = true ↔ l = .screen n)) ∧
  (∀ (l : Line) (p : Proj) (k : Nat) (x : LampSettings),
    ∀ o ∈ [Order.thread (projCode p) k, .unthread (projCode p), .setLamp (projCode p) x, .strike (projCode p) k,
        .quench (projCode p), .trim (projCode p) k],
      (privileged l o = true ↔ l = .screen p.screen)) ∧
  (∀ (l : Line) (n : Screen), ∀ o ∈ [Order.stop (screenNumber n), .rehang (screenNumber n)],
    (privileged l o = true ↔ l = .house ∨ l = .screen n)) ∧
  (∀ (l : Line) (i j k h : Nat) (form : LightsForm) (m : MotionSettings),
    ∀ o ∈ [Order.setCapacity i, .setSurge i, .setReclaim i j, .storeScene i j k h, .lights i form, .lightsRelease i,
        .setFloor i, .setRest i j, .setMotion m, .clearFire],
      (privileged l o = true ↔ l = .house)) ∧
  ∀ (l : Line) (i j : Nat) (f : ReelFields),
    ∀ o ∈ [Order.storeReel i j f, .deleteReel i, .fireAssert, .fireRelease, .read i j], privileged l o = true

/-- A READ answers the record as it stands, once per line at a time, for the nine items and their selectors and no others; a
READ of the sending line's own status clears its overrun flag (R158, R162). Of the model: BAD VALUE comes before NO ROOM
(inference, log 18), the record is made after the READ has left the buffer (inference, log 32) and before its own message is held
(choice, log 54), and an item above 8 is BAD VALUE (choice, log 58). -/
def Obligations.ReadAnswersTheRecord : Prop :=
  (∀ (s : State) (i k : Nat), (readRecord s i k).isSome = true ↔
    (i = 0 ∧ 1 ≤ k ∧ k ≤ 5) ∨ ((i = 1 ∨ i = 8) ∧ 1 ≤ k ∧ k ≤ 4) ∨ ((i = 2 ∨ i = 3 ∨ i = 5) ∧ k ≤ 7) ∨
      ((i = 4 ∨ i = 6) ∧ k = 0) ∨ (i = 7 ∧ 1 ≤ k ∧ k ≤ 48)) ∧
  ∀ (l : Line) (i k : Nat) (s : State), lineFree s l →
    (readRecord s i k = none → ends (.read l i k) s (reply l (.refused 0x01 .badValue) s)) ∧
    ∀ record, readRecord s i k = some record →
      ((s.line l).readHeld = true → ends (.read l i k) s (reply l (.refused 0x01 .noRoom) s)) ∧
      ((s.line l).readHeld = false →
        let u := reply l (.readData i k record) s
        ends (.read l i k) s
          (if i = 0 ∧ lineOf k = some l then u.setLine l { u.line l with overrun := false } else u))

/-- Sound frames deliver the message they spell: a frame without the continuation flag completes it, one with the flag leaves
the assembler in GAP with the parameters joined (R153, R154, R164). -/
def Obligations.SoundFramesAreJoined : Prop :=
  ∀ (l : Line) (s : State) (k : Nat) (ps : List Byte), s.running = true → k < 128 → ps.length ≤ 23 →
    ((s.line l).asm = .hunt →
      exec (.frameReceived l (frameBytes k false ps)) s = .next (arrive l (orderOf k (ps.map BitVec.toNat)) s) ∧
      exec (.frameReceived l (frameBytes k true ps)) s = .next (s.setLine l { s.line l with asm := .gap ⟨k, ps, 1⟩ 0 })) ∧
    ∀ (m : Partial) (e : Nat), (s.line l).asm = .gap m e → m.kind = k → m.frames < 8 →
      exec (.frameReceived l (frameBytes k false ps)) s =
        .next (arrive l (orderOf k ((m.params ++ ps).map BitVec.toNat)) (s.setLine l { s.line l with asm := .hunt })) ∧
      exec (.frameReceived l (frameBytes k true ps)) s =
        .next (s.setLine l { s.line l with asm := .gap ⟨k, m.params ++ ps, m.frames + 1⟩ 0 })

/-- Every well-formed order is spelled by its parameters, and sending its frames to a line in HUNT is giving the order (R153,
R154, R164, R165). -/
def Obligations.SendingAnOrderIsGivingIt : Prop :=
  ∀ (c : Instr) (l : Line) (o : Order), orderOfInstr c = some (l, o) → c.wf = true →
    orderOf o.kind o.params = o ∧
    ∀ s : State, s.running = true → (s.line l).asm = .hunt →
      exec (.frameReceived l (framesFrom o.kind 8 (o.params.map byteOf)).flatten) s = exec c s

/-- A frame or message that fails is discarded with one GARBLED reply and its cause, and the assembler is in HUNT: the two time
limits, byte errors, bad lengths and bad sums (R153, R154). -/
def Obligations.BadFramesAreGarbled : Prop :=
  ∀ (l : Line) (s : State), s.running = true →
    (∀ (m : Option Partial) (got : List Byte) (e : Nat), (s.line l).asm = .frame m got e →
      exec (.frameTimeLimit l) s = .next (reply l (.garbled .time) (s.setLine l { s.line l with asm := .hunt })) ∧
      exec (.byteError l) s = .next (reply l (.garbled .byteError) (s.setLine l { s.line l with asm := .hunt }))) ∧
    (∀ (m : Partial) (e : Nat), (s.line l).asm = .gap m e →
      exec (.gapTimeLimit l) s = .next (reply l (.garbled .sequence) (s.setLine l { s.line l with asm := .hunt })) ∧
      exec (.byteError l) s = .next (reply l (.garbled .sequence) (s.setLine l { s.line l with asm := .hunt }))) ∧
    ((s.line l).asm = .hunt →
      (∀ n : Byte, n = 0 ∨ 24 < n.toNat → exec (.frameReceived l [0x7E, n]) s = .next (reply l (.garbled .length) s)) ∧
      ∀ (n : Byte) (rest : List Byte), 1 ≤ n.toNat → n.toNat ≤ 24 → rest.length = n.toNat + 1 →
        (n :: rest).foldl (fun x y => x + y) 0 ≠ 0 →
        exec (.frameReceived l (0x7E :: n :: rest)) s = .next (reply l (.garbled .check) s))

/-- The end of an outgoing message starts the oldest reply, else the oldest notice, else leaves the transmitter IDLE; a reply
that leaves its queue of four lets the waiting order be taken (R156, R158, R161). -/
def Obligations.MessageSentStartsTheNext : Prop :=
  ∀ (l : Line) (s : State) (m : OutMsg), s.running = true → (s.line l).tx = some m →
    ((s.line l).buffer = [] →
      (∀ r rs, (s.line l).replies = r :: rs →
        exec (.messageSent l) s = .next (s.setLine l { s.line l with replies := rs, tx := some (.reply r) })) ∧
      (∀ n ns, (s.line l).replies = [] → (s.line l).notices = n :: ns →
        exec (.messageSent l) s = .next (s.setLine l { s.line l with notices := ns, tx := some (.notice n) })) ∧
      ((s.line l).replies = [] → (s.line l).notices = [] →
        exec (.messageSent l) s = .next (s.setLine l { s.line l with tx := none }))) ∧
    ∀ (o : Order) (r : Reply) (rs : List Reply), (s.line l).buffer = [o] → (s.line l).replies = r :: rs → rs.length < 4 →
      exec (.messageSent l) s =
        .next (settle (takeOrder l o (s.setLine l { s.line l with buffer := [], replies := rs, tx := some (.reply r) })))

/-- The placing of a fire notice in a queue of 12 (R160). -/
def Obligations.FireNoticesArePlaced : Prop :=
  ∀ (x : LineState) (n : Notice), n.body.isFire = true →
    (∀ before old after, x.notices = before ++ old :: after → (∀ y ∈ before, y.body.isFire = false) →
      old.body.isFire = true → x.addNotice n = { x with notices := before ++ n :: after }) ∧
    ((∀ y ∈ x.notices, y.body.isFire = false) →
      (x.notices.length < 12 → x.addNotice n = { x with notices := x.notices ++ [n] }) ∧
      ∀ oldest rest, x.notices = oldest :: rest → x.notices.length = 12 →
        x.addNotice n = { x with notices := n :: rest, overrun := true })

/-- Every step keeps every line's queues within their sizes, with at most one fire notice waiting (R156, R158, R159). -/
def Obligations.LinesStayWithinTheirSizes : Prop :=
  ∀ s t : State, linesOk s → step s = .next t → linesOk t

/-! ## The Store and the contexts (chapter 1) -/

/-- STORE REEL and DELETE REEL: the slot takes the record, its owner kept or taken from the line; a context that holds the slot
is marked STALE when committed and takes the new record when not; a slot that is deleted is held by none (R4 to R6, R17, R18). -/
def Obligations.ReelOrdersWriteTheSlot : Prop :=
  ∀ (l : Line) (k : Nat) (s : State), lineFree s l → 1 ≤ k → k ≤ 48 →
    (∀ old, s.reelAt k = some old → l = .house ∨ l = .screen old.owner) →
    (∀ (o : Nat) (f : ReelFields) (w : Screen) (r : ReelRecord),
      (∀ old, s.reelAt k = some old → w = old.owner) →
      (s.reelAt k = none → l = .screen w ∨ (l = .house ∧ screenOf o = some w)) →
      reelOf f w = some r →
      let v : State := { reply l (.done 0x02) s with reels := s.reels.set (k - 1) (some r) }
      (s.holderOf k = none → ends (.storeReel l k o f) s v) ∧
      ∀ p c, s.holderOf k = some p → s.ctx p = some c →
        (c.committed = true →
          ends (.storeReel l k o f) s
            (let t := notifyScreen r.owner (.contextStale p k) (v.setCtx p (some { c with stale := true }))
             if r.owner = p.screen then t else notifyScreen p.screen (.contextStale p k) t)) ∧
        (c.committed = false →
          runs (.storeReel l k o f) s (fun t =>
            (t.ctx p).map Context.still = some { c with reel := r } ∧ t.base = { s.base with reels := v.reels } ∧
              ∀ q, q ≠ p → (t.ctx q).map Context.still = (s.ctx q).map Context.still))) ∧
    (s.holderOf k = none →
      ends (.deleteReel l k) s { reply l (.done 0x03) s with reels := s.reels.set (k - 1) none })

/-- STORE PROGRAM replaces the screen's list: with the pointer set to 1 in CLOSED, ENDED and READY with no start, and with the
pointer kept and arming examined where the items at it and after it are unchanged. STORE SCENE replaces the scene, its levels
clamped to 100; claims in place and running fades keep what they took (R7 to R10). -/
def Obligations.ProgramAndSceneOrdersReplace : Prop :=
  (∀ (s : State) (k house aisle fade : Nat), lineFree s .house → k ≤ 7 → fade ≤ 600 →
    ends (.storeScene .house k house aisle fade) s
      { reply .house (.done 0x05) s with scenes := s.scenes.set k ⟨min 100 house, min 100 aisle, fade⟩ }) ∧
  ∀ (n : Screen) (items : List RawItem) (new : List ProgItem) (s : State), lineFree s (.screen n) → programOf items = some new →
    let v : State := { reply (.screen n) (.done 0x04) s with programs := s.programs.set n new }
    (((s.seq n).showState = .closed ∨ (s.seq n).showState = .ended ∨
        ((s.seq n).showState = .ready ∧ (s.seq n).startRec = none)) →
      ends (.storeProgram (.screen n) (screenNumber n) items) s (v.setSeq n { s.seq n with pointer := 1 })) ∧
    (¬((s.seq n).showState = .closed ∨ (s.seq n).showState = .ended ∨
        ((s.seq n).showState = .ready ∧ (s.seq n).startRec = none)) →
      new[(s.seq n).pointer - 1]? = s.itemAt n (s.seq n).pointer →
      (∀ i, s.itemAt n ((s.seq n).pointer + 1) = some i → new[(s.seq n).pointer]? = some i) →
      ends (.storeProgram (.screen n) (screenNumber n) items) s (examineArming n v))

/-- Every step keeps the store in shape: 48 slots whose frames stand in order, eight scenes in range, programs of R7's shape
(R1, R2, R7, R10). -/
def Obligations.TheStoreStaysInShape : Prop :=
  ∀ s t : State, storeOk s → step s = .next t → storeOk t

/-- THREAD loads the record into the context and zeroes the channel's counts; UNTHREAD empties the context; of no other
projector does either touch the context or the counts (R13 to R15, R33). -/
def Obligations.ThreadLoadsAndUnthreadEmpties : Prop :=
  ∀ (p : Proj) (s : State), lineFree s (.screen p.screen) → motorIsOn s p = false →
    (∀ r, (s.seq p.screen).startRec = some r → r.side = p.side → r.frozen = true) →
    (∀ (k : Nat) (r : ReelRecord), 1 ≤ k → k ≤ 48 → s.reelAt k = some r →
      (∀ q c, q ≠ p → s.ctx q = some c → c.slot ≠ k) →
      runs (.thread (.screen p.screen) (projCode p) k) s (fun t =>
        (t.ctx p).map Context.still = some ⟨k, r, false, false⟩ ∧
        (t.chan p).still = { (s.chan p).still with phase := 0, frames := 0, lastCue := none, bounce := 0 } ∧
        (∀ q, q ≠ p → (t.ctx q).map Context.still = (s.ctx q).map Context.still ∧ (t.chan q).still = (s.chan q).still) ∧
        t.base = s.base ∧ t.still.lines = (s.still.replied (.screen p.screen) (.done 0x06)).lines)) ∧
    runs (.unthread (.screen p.screen) (projCode p)) s (fun t =>
      t.ctx p = none ∧
      (∀ c, s.ctx p = some c →
        (t.chan p).still = { (s.chan p).still with lastCue := none, bounce := 0 }) ∧
      (∀ q, q ≠ p → (t.ctx q).map Context.still = (s.ctx q).map Context.still ∧ (t.chan q).still = (s.chan q).still) ∧
      t.base = s.base ∧ t.still.lines = (s.still.replied (.screen p.screen) (.done 0x07)).lines)

/-! ## Film motion (chapter 2) -/

/-- A perforation pulse: discarded on an EMPTY context; else it counts a perforation, and the last one of a frame is a frame
event that advances F, enters the period, zeroes the frame age and examines the motion state (R22 to R25, R29, R30). -/
def Obligations.PerforationsCountFrames : Prop :=
  ∀ (p : Proj) (s : State), s.running = true →
    (s.ctx p = none → ends (.perforationPulse p) s s) ∧
    ∀ c, s.ctx p = some c →
      let d := match c.reel.format with
        | .f35 => 4
        | .f70 => 5
      ((s.chan p).phase + 1 < d →
        ends (.perforationPulse p) s (s.setChan p { s.chan p with phase := (s.chan p).phase + 1 })) ∧
      (d ≤ (s.chan p).phase + 1 → ∃ u, ends (.perforationPulse p) s u ∧
        (u.chan p).phase = 0 ∧ (u.chan p).frames = min 65535 ((s.chan p).frames + 1) ∧ (u.chan p).age = 0 ∧
        (u.chan p).reference = true ∧ (u.chan p).lastCue = (s.chan p).lastCue ∧ (u.chan p).bounce = (s.chan p).bounce ∧
        ((s.chan p).reference = false → (u.chan p).ring = (s.chan p).ring ∧ (u.chan p).motion = (s.chan p).motion) ∧
        ((s.chan p).reference = true →
          (u.chan p).ring = enterPeriod (s.chan p).ring (max 1 (s.chan p).age) ∧
          (u.chan p).motion = match speedOf (u.chan p).ring with
            | some v => (s.chan p).motion.atRecompute (motorIsOn s p) v
            | none => (s.chan p).motion) ∧
        (∀ q, q ≠ p → (u.chan q).still = (s.chan q).still) ∧
        ∀ q, (u.ctx q).map Context.still = (s.ctx q).map Context.still)

/-- fps10 is unknown below four periods; with four it is 400,000 over their sum, to nearest with halves up, and at most 9,999;
the band for running speed is 228 to 252 (R26). -/
def Obligations.SpeedIsFourPeriods : Prop :=
  (∀ ring : List Nat, ring.length < 4 → speedOf ring = none) ∧
  (∀ ring : List Nat, ring.length = 4 → 0 < ring.sum → ∃ q : Nat,
    2 * q * ring.sum ≤ 800000 + ring.sum ∧ 800000 + ring.sum < 2 * (q + 1) * ring.sum ∧
      speedOf ring = some (min 9999 q)) ∧
  ∀ fps : Nat, inBand fps = true ↔ 228 ≤ fps ∧ fps ≤ 252

/-- A cue pulse: discarded on an EMPTY context; within 12 frames of the last accepted one it is bounce; else it is accepted with
its stamp, whatever the motion state (R35, R36). -/
def Obligations.CuePulsesAreStamped : Prop :=
  ∀ (p : Proj) (s : State), s.running = true →
    (s.ctx p = none → ends (.cuePulse p) s s) ∧
    ∀ c, s.ctx p = some c →
      (∀ f, (s.chan p).lastCue = some f → (s.chan p).frames ≤ f + 12 →
        ends (.cuePulse p) s (s.setChan p { s.chan p with bounce := min 255 ((s.chan p).bounce + 1) })) ∧
      ((∀ f, (s.chan p).lastCue = some f → f + 12 < (s.chan p).frames) →
        (∃ u, ends (.cuePulse p) s u ∧ u.chan p = { s.chan p with lastCue := some (s.chan p).frames }) ∧
        ((s.seq p.screen).changeover = none →
          ends (.cuePulse p) s (s.setChan p { s.chan p with lastCue := some (s.chan p).frames })))

/-- The break window clears the ring; with the motor on and the film AT SPEED or OFF SPEED it is a runout at or past P and a break
below it, and what follows goes by the projector's role. The coast limit brings a film that runs with its motor off to STILL (R27,
R31, R32, R41, R48, R61, R63, R67, R69; that the rows declare the moment is the model's choice, log 3, what a runout after a missed
changeover leaves and that a run-off's break examines arming are its inferences, log 19 and log 33). -/
def Obligations.FilmThatStopsIsNoticed : Prop :=
  ∀ (p : Proj) (s : State), s.running = true →
    let q := s.seq p.screen
    let w := breakUnits s.motionSettings
    let gone : Channel := { s.chan p with ring := [], reference := false, age := w }
    let moves := (s.chan p).motion = .atSpeed ∨ (s.chan p).motion = .offSpeed
    (w < (s.chan p).age → ends (.breakWindow p) s s) ∧
    ((s.chan p).age ≤ w → ¬moves ∨ motorIsOn s p = false → ends (.breakWindow p) s (s.setChan p gone)) ∧
    ((s.chan p).age ≤ w → moves → motorIsOn s p = true → ∀ c, s.ctx p = some c →
      (c.reel.lastPicture ≤ (s.chan p).frames → ∃ u, ends (.breakWindow p) s u ∧
        (q.role p.side = .idle ∨ q.role p.side = .starting ∨ q.role p.side = .active ∨ q.role p.side = .incoming →
          u.chan p = { gone with motion := .runout } ∧ u.seqs = s.seqs ∧ u.lamps = s.lamps ∧ u.contexts = s.contexts) ∧
        (∀ k, q.role p.side = .runOff k → motorIsOn u p = false) ∧
        (q.role p.side = .runOff .closing → (u.seq p.screen).role p.side = .idle ∧ u.contexts = s.contexts ∧
          (u.seq p.screen).changeover = q.changeover) ∧
        (q.role p.side = .runOff .switched → (u.seq p.screen).role p.side = .idle ∧ u.ctx p = none ∧
          (u.chan p).motion = .still ∧
          ((∀ r, q.changeover = some r → r.st = .switched) → (u.seq p.screen).changeover = none)) ∧
        (q.role p.side = .runOff .missed → (u.seq p.screen).role p.side = .runOff .missed ∧ u.contexts = s.contexts ∧
          (u.seq p.screen).changeover = q.changeover) ∧
        (q.role p.side = .runOff .resumed → (u.seq p.screen).role p.side = .idle ∧ u.ctx p = none ∧
          ((∀ r, q.changeover = some r → r.incoming ≠ p.side) → (u.seq p.screen).changeover = q.changeover))) ∧
      ((s.chan p).frames < c.reel.lastPicture → ∃ u, ends (.breakWindow p) s u ∧
        (q.role p.side = .idle → u.chan p = { gone with motion := .stoppedBreak } ∧ u.seqs = s.seqs ∧ u.lamps = s.lamps) ∧
        (q.role p.side = .active ∨ q.role p.side = .starting →
          (q.showState = .closed →
            u.chan p = { gone with motion := .stoppedBreak } ∧ u.seqs = s.seqs ∧ u.lamps = s.lamps) ∧
          (q.showState ≠ .closed → (u.chan p).motion = .stoppedBreak ∧ motorIsOn u p = false ∧
            (u.seq p.screen).demand.get p.side = .clear ∧ (u.seq p.screen).sound = .muted ∧
            (u.seq p.screen).showState = .halted ∧ (u.seq p.screen).haltReason = some .filmBreak ∧
            (u.seq p.screen).haltedFrom = (if q.showState = .halted then q.haltedFrom else some q.showState) ∧
            (u.lamp p).inUse = false ∧ (u.seq p.screen).changeover = none)) ∧
        (q.role p.side = .incoming → (u.chan p).motion = .stoppedBreak ∧ ∀ r, q.changeover = some r → r.incoming = p.side →
          (r.st = .rolling ∨ r.st = .ready →
            (u.seq p.screen).changeover = some { r with restartHeld := true, st := .armed } ∧ motorIsOn u p = false ∧
            ((s.lamp p).st = .queued → entryOf s p ≠ none → (u.lamp p).st = .dark) ∧
            ((s.lamp p).lit = true → (u.lamp p).lit = true)) ∧
          (r.st = .missed → (u.seq p.screen).changeover = some r ∧ motorIsOn u p = false ∧ u.lamps = s.lamps) ∧
          (r.st = .armed ∨ r.st = .lampWait ∨ r.st = .warm ∨ r.st = .switched → u.seqs = s.seqs ∧ u.lamps = s.lamps)) ∧
        (∀ k, q.role p.side = .runOff k → motorIsOn u p = false ∧ (u.chan p).motion = .stoppedBreak ∧ u.ctx p = s.ctx p ∧
          (u.seq p.screen).showState = q.showState ∧
          ((∀ r, q.changeover = some r → r.st = .switched) → s.itemAt p.screen (q.pointer + 1) ≠ some (.reel c.slot) →
            (u.seq p.screen).role p.side = .idle ∧ (u.seq p.screen).changeover = none)))) ∧
    (coastUnits < (s.chan p).age → ends (.coastLimit p) s s) ∧
    ((s.chan p).age ≤ coastUnits → motorIsOn s p = true → w ≤ (s.chan p).age →
      ends (.coastLimit p) s (s.setChan p { s.chan p with age := coastUnits })) ∧
    ((s.chan p).age ≤ coastUnits → motorIsOn s p = false → ∃ u, ends (.coastLimit p) s u ∧
      u.chan p =
        { s.chan p with
          age := coastUnits,
          ring := (if (s.chan p).age < w then [] else (s.chan p).ring),
          reference := (if (s.chan p).age < w then false else (s.chan p).reference),
          motion := (match (s.chan p).motion with
            | .runup | .atSpeed | .offSpeed | .runout => .still
            | m => m) } ∧
      u.seqs = s.seqs ∧ u.lamps = s.lamps ∧ ∀ x, x ≠ p → u.chan x = s.chan x)

/-- The runup limit in RUNUP with the motor on is a stall: it stops the timer, halts the screen of a STARTING projector, and
leaves an IDLE one's screen alone (R29, R67; log 3). -/
def Obligations.RunupLimitIsAStall : Prop :=
  ∀ (p : Proj) (s : State) (k : Nat), s.running = true → (s.chan p).runup = some k → (s.chan p).motion = .runup →
    motorIsOn s p = true →
    ∃ u, ends (.runupLimit p) s u ∧ (u.chan p).motion = .stoppedStall ∧ (u.chan p).runup = none ∧
      ((s.seq p.screen).role p.side = .starting → (s.seq p.screen).showState ≠ .closed →
        motorIsOn u p = false ∧ (u.seq p.screen).demand.get p.side = .clear ∧ (u.seq p.screen).showState = .halted ∧
          (u.seq p.screen).haltReason = some .stall ∧ (u.lamp p).inUse = false) ∧
      ((s.seq p.screen).role p.side = .idle → u.seqs = s.seqs ∧ u.lamps = s.lamps)

/-- Every step keeps every channel within the ranges of R21 and the motion settings within those of R38. -/
def Obligations.ChannelsStayWithinTheirRanges : Prop :=
  ∀ s t : State, motionWellKept s → step s = .next t → motionWellKept t

/-- SET MOTION replaces the four settings; where no running gap or timer meets a new limit, nothing else changes (R38, R146; that
a channel already clear of film meets the new window with no effect is the model's reading, log 17). -/
def Obligations.SetMotionTakesTheSettings : Prop :=
  ∀ (m : MotionSettings) (s : State), lineFree s .house → 120 ≤ m.gateThreshold → m.gateThreshold ≤ 228 →
    10 ≤ m.runupLimit → m.runupLimit ≤ 60 → 10 ≤ m.breakWindow → m.breakWindow ≤ 100 → 5 ≤ m.persistence →
    m.persistence ≤ 100 →
    runs (.setMotion .house m) s (fun t =>
      t.motionSettings = m ∧ t.still.lines = (s.still.replied .house (.done 0x19)).lines) ∧
    ((∀ p, (∀ k, (s.chan p).runup = some k → k < 10 * m.runupLimit) ∧
        (∀ k, s.fire.timer p = some k → k < 10 * m.persistence) ∧
        ((s.chan p).age < 100 * m.breakWindow ∨
          ((s.chan p).ring = [] ∧ (s.chan p).reference = false ∧ (s.chan p).motion ≠ .atSpeed ∧
            (s.chan p).motion ≠ .offSpeed))) →
      ends (.setMotion .house m) s { reply .house (.done 0x19) s with motionSettings := m })

/-! ## Show sequencing (chapter 3) -/

/-- OPEN makes a CLOSED screen with a program READY at its first item under scene PRESHOW; CLOSE makes a READY, ENDED or HALTED
screen whose lamps are out CLOSED, with its roles, records and claims gone and its motors off (R43, R44). -/
def Obligations.OpenAndClose : Prop :=
  ∀ (n : Screen) (s : State), lineFree s (.screen n) →
    (s.fire.on = false → (s.seq n).showState = .closed → s.programs.get n ≠ [] →
      ends (.openScreen (.screen n) (screenNumber n)) s
        (takesScene n (s.scene 1) ((reply (.screen n) (.done 0x08) s).setSeq n
          { s.seq n with pointer := 1, showState := .ready }))) ∧
    ((s.seq n).showState = .ready ∨ (s.seq n).showState = .ended ∨ (s.seq n).showState = .halted →
      (s.lamp ⟨n, .a⟩).inUse = false → (s.lamp ⟨n, .b⟩).inUse = false →
      ∃ u, ends (.close (.screen n) (screenNumber n)) s u ∧
        u.seq n = { Sequencer.reset with pointer := (s.seq n).pointer } ∧
        (∀ k, (u.circ ⟨n, k⟩).fault = none ∧ (u.circ ⟨n, k⟩).program = none) ∧
        (∀ m, m ≠ n → u.seq m = s.seq m) ∧ u.base = s.base)

/-- START begins the show or ends an interval: the projector that holds the reel item is STARTING under scene DOWN, its context
COMMITTED, and its lamp is asked to burn at running current, by its state (R45, R46). -/
def Obligations.StartBeginsTheStart : Prop :=
  ∀ (n : Screen) (x : Side) (k : Nat) (c : Context) (s : State), lineFree s (.screen n) → s.fire.on = false →
    (s.seq n).showState = .ready ∨ (s.seq n).showState = .interval → (s.seq n).startRec = none →
    s.itemAt n (if (s.seq n).showState = .interval then (s.seq n).pointer + 1 else (s.seq n).pointer) = some (.reel k) →
    s.ctx ⟨n, x⟩ = some c → c.slot = k → (s.chan ⟨n, x⟩).frames < c.reel.lastPicture →
    (∀ c', s.ctx ⟨n, x.other⟩ = some c' → c'.slot ≠ k) →
    (s.lamp ⟨n, x⟩).st ≠ .fault → ((s.lamp ⟨n, x⟩).st = .dark → (s.lamp ⟨n, x⟩).settings.margin < (s.lamp ⟨n, x⟩).carbon) →
    let q := s.seq n
    let q' : Sequencer :=
      { q with
        startRec := some ⟨x, .start, .strikeWait, false⟩, roles := q.roles.set x .starting,
        pointer := if q.showState = .interval then q.pointer + 1 else q.pointer,
        interval := if q.showState = .interval then none else q.interval,
        reelPending := if q.showState = .interval then false else q.reelPending }
    let v := takesScene n (s.scene 2)
      (((reply (.screen n) (.accepted 0x09) s).setSeq n q').setCtx ⟨n, x⟩ (some { c with committed := true }))
    ends (.start (.screen n) (screenNumber n)) s (askRunning ⟨n, x⟩ v) ∧
    ((s.lamp ⟨n, x⟩).st = .standby ∨ (s.lamp ⟨n, x⟩).st = .running →
      askRunning ⟨n, x⟩ v = v.setLamp ⟨n, x⟩ { s.lamp ⟨n, x⟩ with st := .running, quenchDue := none }) ∧
    ((s.lamp ⟨n, x⟩).st = .striking →
      askRunning ⟨n, x⟩ v = v.setLamp ⟨n, x⟩ { s.lamp ⟨n, x⟩ with target := some .running }) ∧
    ((s.lamp ⟨n, x⟩).st = .dark → entryOf s ⟨n, x⟩ = none →
      askRunning ⟨n, x⟩ v =
        { v.setLamp ⟨n, x⟩ { s.lamp ⟨n, x⟩ with st := .queued, target := some .running } with
          budget := { s.budget with
            queue := insertEntry ⟨⟨n, x⟩, after s.boothTime 600, s.budget.nextSeq, false, false⟩ s.budget.queue,
            nextSeq := s.budget.nextSeq + 1, examine := true } })

/-- STOP, from the screen's line or the house line, ends the show of a screen that is not CLOSED: demands, motors, sound, roles,
start, interval and changeover record are undone, both lamps are quenched, and scene END governs (R51). -/
def Obligations.StopEndsTheShow : Prop :=
  ∀ (l : Line) (n : Screen) (s : State), lineFree s l → l = .house ∨ l = .screen n → (s.seq n).showState ≠ .closed →
    ∃ u, ends (.stop l (screenNumber n)) s u ∧
      u.seq n = { Sequencer.reset with showState := .ended, pointer := (s.seq n).pointer } ∧
      (∀ x, ((s.lamp ⟨n, x⟩).inUse = true → u.lamp ⟨n, x⟩ = (s.lamp ⟨n, x⟩).quenched s.boothTime) ∧
        ((s.lamp ⟨n, x⟩).st = .queued → u.lamp ⟨n, x⟩ = { s.lamp ⟨n, x⟩ with st := .dark, target := none })) ∧
      (u.circ ⟨n, .house⟩).program = some ⟨(s.scene 5).house, .time (s.scene 5).fade, true⟩ ∧
      (u.circ ⟨n, .aisle⟩).program = some ⟨max (s.scene 5).aisle s.floor, .time (s.scene 5).fade, true⟩ ∧
      (∀ m, m ≠ n → u.seq m = s.seq m) ∧ (∀ p, p.screen ≠ n → u.lamp p = s.lamp p) ∧ u.base = s.base

/-- RESUME returns a halted screen to the state it halted from, or, with a restart projector, starts that projector again as a
start of kind RESUME; either way the FAULT claims leave (R70; that halted from is cleared with no restart projector is the model's
choice, log 42). -/
def Obligations.ResumeTakesTheShowUp : Prop :=
  ∀ (n : Screen) (s : State), lineFree s (.screen n) → s.fire.on = false → s.fire.marks.get n = false →
    (s.seq n).showState = .halted → (∀ r, (s.seq n).startRec = some r → r.kind = .resume → r.frozen = true) →
    ((s.seq n).restart = none → ∀ from', (s.seq n).haltedFrom = some from' →
      ends (.resume (.screen n) (screenNumber n)) s
        (examinePending n ((removeClaims n .fault (reply (.screen n) (.done 0x0C) s)).setSeq n
          { s.seq n with showState := from', haltReason := none, haltedFrom := none }))) ∧
    ∀ x c, (s.seq n).restart = some x → s.ctx ⟨n, x⟩ = some c → (s.chan ⟨n, x⟩).frames < c.reel.lastPicture →
      ((s.seq n).firstMissed = true → s.itemAt n ((s.seq n).pointer + 1) = some (.reel c.slot)) →
      (s.lamp ⟨n, x⟩).st ≠ .fault →
      ((s.lamp ⟨n, x⟩).st = .dark → (s.lamp ⟨n, x⟩).settings.margin < (s.lamp ⟨n, x⟩).carbon) →
      ∃ u, ends (.resume (.screen n) (screenNumber n)) s u ∧
        (u.seq n).startRec = some ⟨x, .resume, .strikeWait, false⟩ ∧ (u.seq n).role x = .starting ∧
        (u.seq n).showState = .halted ∧ (u.seq n).changeover = none ∧
        (u.seq n).pointer = (if (s.seq n).firstMissed then (s.seq n).pointer + 1 else (s.seq n).pointer) ∧
        (∀ k, (u.circ ⟨n, k⟩).fault = none) ∧
        ((s.chan ⟨n, x⟩).motion = .stoppedBreak ∨ (s.chan ⟨n, x⟩).motion = .stoppedStall →
          (u.chan ⟨n, x⟩).motion = .still ∧ (u.chan ⟨n, x⟩).ring = []) ∧
        u.still.lines = (s.still.replied (.screen n) (.accepted 0x0C)).lines

/-- CHANGE NOW makes the switch of a READY record by hand, and restarts a held motor of an ARMED one (R60, R61, R64). -/
def Obligations.ChangeNowSwitchesOrRestarts : Prop :=
  ∀ (n : Screen) (r : Changeover) (s : State), lineFree s (.screen n) → s.fire.on = false →
    (s.seq n).showState = .showing → (s.seq n).changeover = some r →
    (r.st = .ready → ∀ c, s.ctx ⟨n, r.incoming⟩ = some c → (s.lamp ⟨n, r.incoming⟩).lit = true →
      ∃ u, ends (.changeNow (.screen n) (screenNumber n)) s u ∧
        u.seq n =
          { s.seq n with
            pointer := (s.seq n).pointer + 1,
            roles := ((s.seq n).roles.set r.incoming .active).set r.incoming.other (.runOff .switched),
            demand := ((s.seq n).demand.set r.incoming.other .clear).set r.incoming .set,
            sound := (match r.incoming with
              | .a => .a
              | .b => .b),
            changeover := some
              { r with
                st := .switched, changeCue := some ⟨.order, (s.chan ⟨n, r.incoming.other⟩).frames⟩,
                offset := some (((s.chan ⟨n, r.incoming⟩).frames : Int) - (c.reel.head : Int)) } } ∧
        (u.lamp ⟨n, r.incoming⟩).st = .running ∧
        ((s.lamp ⟨n, r.incoming.other⟩).lit = true → (s.lamp ⟨n, r.incoming.other⟩).settings.quenchDelay ≠ 0 →
          (s.lamp ⟨n, r.incoming.other⟩).quenchDue = none →
          (u.lamp ⟨n, r.incoming.other⟩).quenchDue =
            some (after s.boothTime (10 * (s.lamp ⟨n, r.incoming.other⟩).settings.quenchDelay))) ∧
        u.base = s.base) ∧
    (r.st = .armed → r.restartHeld = true → (s.seq n).startRec = none →
      ∃ u, ends (.changeNow (.screen n) (screenNumber n)) s u ∧
        u.seq n =
          { s.seq n with
            motor := (s.seq n).motor.set r.incoming true,
            changeover := some
              { r with
                st := .rolling, restartHeld := false,
                unavailable := r.unavailable ||
                  ((s.lamp ⟨n, r.incoming⟩).st == .dark && (s.lamp ⟨n, r.incoming⟩).stubMark) } } ∧
        u.base = s.base ∧ u.still.lines = (s.still.replied (.screen n) (.accepted 0x0D)).lines)

/-- An interval that has run out starts the reel item of a projector that holds it with a fit lamp; else it waits, with a notice
that says why (R49). -/
def Obligations.IntervalExpiryStartsTheReel : Prop :=
  ∀ (n : Screen) (k : Nat) (s : State), s.running = true → (s.seq n).showState = .interval → (s.seq n).interval = some 0 →
    (s.seq n).reelPending = false → (s.seq n).startRec = none → s.itemAt n ((s.seq n).pointer + 1) = some (.reel k) →
    (reelSide s n k = none →
      ends (.intervalExpiry n) s
        (notifyScreen n (.reelNotThreaded n) (s.setSeq n { s.seq n with reelPending := true }))) ∧
    ∀ x, reelSide s n k = some x →
      (lampUnfit (s.lamp ⟨n, x⟩) = true →
        ends (.intervalExpiry n) s
          (notifyScreen n (.lampUnavailable n) (s.setSeq n { s.seq n with reelPending := true }))) ∧
      (lampUnfit (s.lamp ⟨n, x⟩) = false → ∃ u, ends (.intervalExpiry n) s u ∧
        (u.seq n).startRec = some ⟨x, .interval, .strikeWait, false⟩ ∧ (u.seq n).role x = .starting ∧
        (u.seq n).pointer = (s.seq n).pointer + 1 ∧ (u.seq n).interval = none ∧ (u.seq n).reelPending = false)

/-- A cue is taken by an accepted pulse in its window (SENSE), or by the outgoing frame event that reaches it (COUNT and CHECKED at
X, SENSE at X + W), in a record from ARMED to READY; the motor cue starts the incoming film, the changeover cue switches in READY
and is missed before. In CHECKED mode pulses are only seen, and a cue whose pulse was not seen by X + W is a CHECK-MISMATCH, on the
SWITCHED record too, but for one recorded as ORDER (R56 to R58, R60, R62). -/
def Obligations.CuesAct : Prop :=
  ∀ (n : Screen) (x : Side) (c : Context) (r : Changeover) (s : State), s.running = true → s.ctx ⟨n, x⟩ = some c →
    (s.seq n).changeover = some r → r.incoming = x.other →
    let p : Proj := ⟨n, x⟩
    let f := (s.chan p).frames
    let g := min 65535 (f + 1)
    let wd := c.reel.window
    let near (cue : Nat) : Prop := cue ≤ f + wd ∧ f ≤ cue + wd
    let here (cue : Nat) : Prop := (if c.reel.mode = .sense then cue + wd else cue) ≤ g
    let takes := r.st = .armed ∨ r.st = .lampWait ∨ r.st = .warm ∨ r.st = .rolling ∨ r.st = .ready
    let v := s.setChan p { s.chan p with lastCue := some f }
    let withRec (r' : Changeover) : State := v.setSeq n { s.seq n with changeover := some r' }
    ((∀ y, (s.chan p).lastCue = some y → y + 12 < f) →
      (c.reel.mode = .count → ends (.cuePulse p) s v) ∧
      (c.reel.mode = .sense → takes →
        (r.motorCue = none → near r.xmc → ∃ u, ends (.cuePulse p) s u ∧ motorCueTaken n r ⟨.sensor, f⟩ s u) ∧
        (¬(r.motorCue = none ∧ near r.xmc) → r.changeCue = none → near r.xco →
          (∃ u, ends (.cuePulse p) s u ∧ changeCueTaken n r ⟨.sensor, f⟩ s u) ∧
          (r.st ≠ .ready → ends (.cuePulse p) s (notifyScreen n (.changeoverMissed n)
            (withRec { r with changeCue := some ⟨.sensor, f⟩, st := .missed })))) ∧
        (¬(r.motorCue = none ∧ near r.xmc) → ¬(r.changeCue = none ∧ near r.xco) → near r.xmc ∨ near r.xco →
          ends (.cuePulse p) s v) ∧
        (¬near r.xmc → ¬near r.xco → ends (.cuePulse p) s (withRec { r with stray := min 255 (r.stray + 1) }))) ∧
      (c.reel.mode = .checked → takes →
        (r.motorCue = none → near r.xmc → ends (.cuePulse p) s (withRec { r with motorPulse := true })) ∧
        (¬near r.xmc → near r.xco → r.changeCue = none → ends (.cuePulse p) s (withRec { r with changePulse := true })) ∧
        (¬near r.xmc → ¬near r.xco → ends (.cuePulse p) s (withRec { r with stray := min 255 (r.stray + 1) }))) ∧
      (c.reel.mode = .checked → r.st = .switched →
        (∀ y, r.changeCue = some ⟨.count, y⟩ → near r.xco →
          ends (.cuePulse p) s (withRec { r with changePulse := true })) ∧
        (∀ y, r.changeCue = some ⟨.order, y⟩ → ends (.cuePulse p) s v))) ∧
    (∀ d, d = (match c.reel.format with
        | .f35 => 4
        | .f70 => 5) → d ≤ (s.chan p).phase + 1 →
      ((s.seq n).showState = .showing → (s.seq n).role x = .active → g < c.reel.lastPicture → takes →
        (r.motorCue = none → here r.xmc → ¬here r.xco →
          (c.reel.mode = .checked → g ≠ r.xmc + wd ∨ r.motorPulse = true) →
          ∃ u, ends (.perforationPulse p) s u ∧ motorCueTaken n r ⟨.count, g⟩ s u) ∧
        (r.motorCue ≠ none → r.changeCue = none → here r.xco →
          (c.reel.mode = .checked → g ≠ r.xco + wd ∨ r.changePulse = true) →
          ∃ u, ends (.perforationPulse p) s u ∧ changeCueTaken n r ⟨.count, g⟩ s u) ∧
        (c.reel.mode = .checked → ∀ y, r.motorCue = some ⟨.count, y⟩ → r.motorPulse = false → g = r.xmc + wd →
          ∃ u r', ends (.perforationPulse p) s u ∧ (u.seq n).changeover = some r' ∧
            r'.motorCue = some ⟨.checkMismatch, y⟩)) ∧
      (∀ k, (s.seq n).role x = .runOff k → r.st = .switched → c.reel.mode = .checked → g = r.xco + wd →
        r.changePulse = false → ∀ y how, r.changeCue = some ⟨how, y⟩ → ∃ u, ends (.perforationPulse p) s u ∧
          (how = .count → (u.seq n).changeover = some { r with changeCue := some ⟨.checkMismatch, y⟩ }) ∧
          (how = .order → (u.seq n).changeover = some r)))

/-- Every step keeps the dowser demand set for at most one projector of a screen, and then at most one dowser of a screen is
open; an open dowser has its lamp RUNNING, its shutters open and no fire (R42, R144). -/
def Obligations.OneDowserAtMost : Prop :=
  (∀ s t : State, demandsOk s → step s = .next t → demandsOk t) ∧
  (∀ (s : State) (n : Screen), demandsOk s → dowserOpen s ⟨n, .a⟩ = false ∨ dowserOpen s ⟨n, .b⟩ = false) ∧
  ∀ (s : State) (p : Proj), dowserOpen s p = true →
    (s.lamp p).st = .running ∧ s.fire.up (portOf p) = true ∧ s.fire.on = false ∧ s.fire.marks.get p.screen = false ∧
      ∃ v, speedOf (s.chan p).ring = some v ∧ s.motionSettings.gateThreshold ≤ v

/-! ## Lamps (chapters 4 and 5) -/

/-- SET LAMP takes valid settings at once; at or below the new margin the pending feed goes, the stub mark is examined, and the
lit current of a lamp in use with no override takes the new running current when the budget has room (R74, R75, R97). -/
def Obligations.SetLampTakesTheSettings : Prop :=
  ∀ (p : Proj) (x : LampSettings) (s : State), lineFree s (.screen p.screen) → settingsOk x = true →
    raiseRefused p x s = false →
    let l := s.lamp p
    let takes := l.inUse && (overrideOf s p).isNone && l.litCurrent.isSome
    let l' : Lamp :=
      { l with
        settings := x, pendingFeed := (if l.carbon ≤ x.margin then 0 else l.pendingFeed),
        litCurrent := if takes then some x.run else l.litCurrent }
    let v := (reply (.screen p.screen) (.done 0x0E) s).setLamp p l'
    let w := if l.settings.margin < l.carbon ∧ l.carbon ≤ x.margin then notifyScreen p.screen (.carbonStub p l.carbon) v else v
    ends (.setLamp (.screen p.screen) (projCode p) x) s
      (if takes = true ∧ x.run < l.litCurrent.getD 0 then examined w else w)

/-- STRIKE queues a DARK lamp with carbon for the budget at now + 600; one already QUEUED keeps the earlier deadline; its target
is the flag's, RUNNING once asked for (R78, R79, R112). -/
def Obligations.StrikeQueuesTheLamp : Prop :=
  ∀ (p : Proj) (run : Nat) (s : State), lineFree s (.screen p.screen) → s.fire.on = false → run ≤ 1 →
    let target : Target := if run = 1 then .running else .standby
    let v := reply (.screen p.screen) (.accepted 0x0F) s
    ((s.lamp p).st = .dark → (s.lamp p).settings.margin < (s.lamp p).carbon → entryOf s p = none →
      ends (.strike (.screen p.screen) (projCode p) run) s
        { v.setLamp p { s.lamp p with st := .queued, target := some target } with
          budget := { s.budget with
            queue := insertEntry ⟨p, after s.boothTime 600, s.budget.nextSeq, false, false⟩ s.budget.queue,
            nextSeq := s.budget.nextSeq + 1, examine := true } }) ∧
    ((s.lamp p).st = .queued → ∀ e, entryOf s p = some e →
      let w := v.setLamp p { s.lamp p with target := if run = 1 then some .running else (s.lamp p).target }
      (earlier (after s.boothTime 600) e.deadline = false → ends (.strike (.screen p.screen) (projCode p) run) s w) ∧
      (earlier (after s.boothTime 600) e.deadline = true →
        ends (.strike (.screen p.screen) (projCode p) run) s
          { w with budget := { s.budget with
              queue := insertEntry { e with deadline := after s.boothTime 600 } (dropEntry p s.budget.queue),
              examine := true } }))

/-- QUENCH puts out a lamp that the show does not use, withdraws the request of a QUEUED one, clears a FAULT, and leaves a DARK lamp
as it is (R88, R91, R113). -/
def Obligations.QuenchPutsTheLampOut : Prop :=
  ∀ (p : Proj) (s : State), lineFree s (.screen p.screen) →
    let v := reply (.screen p.screen) (.done 0x10) s
    ((s.lamp p).st = .queued → ∃ u, ends (.quench (.screen p.screen) (projCode p)) s u ∧
      u.lamp p = { s.lamp p with st := .dark, target := none } ∧ u.budget.queue = dropEntry p s.budget.queue) ∧
    ((s.lamp p).inUse = true → entryOf s p = none → usedByShow s p = false →
      ends (.quench (.screen p.screen) (projCode p)) s (examined (v.setLamp p
        { s.lamp p with
          st := .quenching, litCurrent := none, held := false, pendingFeed := 0, lowCount := 0, attempts := 0, phase := none,
          target := none, quenchDue := none, quenchingEnd := some (after s.boothTime 50), fixedSurge := 0,
          standing := none }))) ∧
    ((s.lamp p).st = .fault →
      ends (.quench (.screen p.screen) (projCode p)) s (notifyScreen p.screen (.lampDark p) (v.setLamp p
        { s.lamp p with st := .dark, faultCause := none, lastArcOut := none, attempts := 0 }))) ∧
    ((s.lamp p).st = .dark ∨ (s.lamp p).st = .quenching → entryOf s p = none → ends (.quench (.screen p.screen) (projCode p)) s v)

/-- TRIM sets the carbon of a DARK lamp and makes its forecast with the economy choice where a reel is threaded; the forecast at
60 s of a lit lamp is a single one, and either turns to CARBON SHORT only when newly short. A forecast's currents, segments, need,
available and spare are those of R100 to R103, and the economy choice keeps the pass that R106 says, with its warm time (R93, R97,
R100 to R106). Of the model: CARBON STUB goes before the forecast's notice (choice, log 51), R101's first case gives 0 standby
seconds to an unlit lamp with target RUNNING in both passes of an economy choice (choice, log 50), a single forecast shows the last
economy choice's warm choice (inference, log 15), and the row declares the 60 s (choice, log 3). -/
def Obligations.TrimAndForecast : Prop :=
  (∀ (p : Proj) (n : Nat) (s : State), lineFree s (.screen p.screen) → n ≤ 6000 → (s.lamp p).st = .dark →
    let v := (reply (.screen p.screen) (.done 0x11) s).setLamp p { s.lamp p with carbon := n }
    let w := if (s.lamp p).settings.margin < (s.lamp p).carbon ∧ n ≤ (s.lamp p).settings.margin then
        notifyScreen p.screen (.carbonStub p n) v else v
    (s.ctx p = none → ends (.trim (.screen p.screen) (projCode p) n) s w) ∧
    ∀ c, s.ctx p = some c → ends (.trim (.screen p.screen) (projCode p) n) s (warmChosen p (economyChoice p w))) ∧
  (∀ (p : Proj) (s : State), s.running = true → (s.lamp p).lit = true →
    let f := match s.ctx p with
      | none => Forecast.noReel
      | some c => (figuresOf s p c (s.lamp p).chosenWarm (s.lamp p).chosenBy).verdict
    let v := s.setLamp p { s.lamp p with forecastTicks := 0, forecast := f }
    (f.isShort = false ∨ (s.lamp p).forecast.isShort = true → ends (.litIntervalForecast p) s v) ∧
    ∀ x, f = .short x → (s.lamp p).forecast.isShort = false →
      ends (.litIntervalForecast p) s (notifyScreen p.screen (.carbonShort p x.need x.available x.spare) v)) ∧
  (∀ (p : Proj) (c : Context) (warm : Nat) (choice : WarmChoice) (s : State),
    let l := s.lamp p
    let f := figuresOf s p c warm choice
    let rate := burnRate l.settings.burn f.runCurrent
    let most := 4294967295
    let total := min most (min most (burnRate l.settings.burn f.standbyCurrent * f.standbySeconds) + min most (rate * f.runSeconds))
    f.madeAt = s.boothTime ∧ f.choice = choice ∧
    (l.lit = false → f.runCurrent = ((s.ctx p).bind (fun y => y.reel.override)).getD l.settings.run) ∧
    (∀ i, l.lit = true → l.litCurrent = some i → f.runCurrent = i) ∧
    f.standbyCurrent = min l.settings.standby f.runCurrent ∧
    (l.st = .running ∨ l.target = some .running ∨ l.quenchDue ≠ none → f.standbySeconds = 0) ∧
    (l.st ≠ .running → l.target ≠ some .running → l.quenchDue = none →
      (l.st ≠ .standby → f.standbySeconds = warm) ∧
      (l.st = .standby → ∀ o, s.ctx p.other = some o → (s.seq p.screen).role p.side.other = .active →
        (s.chan p.other).frames < o.reel.xco → o.reel.xco - (s.chan p.other).frames ≤ 24 * f.standbySeconds ∧
          24 * f.standbySeconds < o.reel.xco - (s.chan p.other).frames + 24) ∧
      (l.st = .standby → (s.seq p.screen).role p.side.other ≠ .active ∨ s.ctx p.other = none ∨
        (∃ o, s.ctx p.other = some o ∧ o.reel.xco ≤ (s.chan p.other).frames) → f.standbySeconds = 0)) ∧
    (l.quenchDue = none →
      let stop := if followedByReel c.slot (s.programs.get p.screen) then c.reel.xco else c.reel.lastPicture
      let frames := stop - (if l.st = .running then (s.chan p).frames else c.reel.head)
      l.settings.quenchDelay ≤ f.runSeconds ∧ frames ≤ 24 * (f.runSeconds - l.settings.quenchDelay) ∧
        24 * (f.runSeconds - l.settings.quenchDelay) < frames + 24) ∧
    (∀ d, l.quenchDue = some d → (passed s.boothTime d = true → f.runSeconds = 0) ∧
      (passed s.boothTime d = false → (d - s.boothTime).toNat ≤ 10 * f.runSeconds ∧
        10 * f.runSeconds < (d - s.boothTime).toNat + 10)) ∧
    total ≤ 100 * f.need ∧ 100 * f.need < total + 100 ∧
    f.available = (l.carbon : Int) - l.settings.margin ∧
    ((f.need : Int) ≤ f.available →
      f.verdict = .enough f ∧ f.spare = min 32767 ((f.available - f.need) * 100 / (rate : Int))) ∧
    (f.available < f.need →
      f.verdict = .short f ∧ (0 < rate → f.spare = max (-32767) (-(((f.need - f.available) * 100 + rate - 1) / (rate : Int)))))) ∧
  ∀ (p : Proj) (c : Context) (s : State), s.ctx p = some c →
    let l := s.lamp p
    let first := figuresOf s p c l.settings.warm .full
    let second := figuresOf s p c l.settings.minWarm .economy
    ((first.need : Int) ≤ first.available → economyChoice p s =
      s.setLamp p { l with forecast := .enough first, chosenWarm := l.settings.warm, chosenBy := .full }) ∧
    (first.available < first.need → (second.need : Int) ≤ second.available → economyChoice p s =
      notifyScreen p.screen (.economyStrike p l.settings.warm l.settings.minWarm)
        (s.setLamp p { l with forecast := .enough second, chosenWarm := l.settings.minWarm, chosenBy := .economy })) ∧
    (first.available < first.need → second.available < second.need →
      let v := s.setLamp p { l with forecast := .short first, chosenWarm := l.settings.warm, chosenBy := .full }
      economyChoice p s = if l.forecast.isShort then v else
        notifyScreen p.screen (.carbonShort p first.need first.available first.spare) v)

/-- A strike attempt: samples in TOUCH find an arc, feed a step, or run out; the end of DRAW lights the lamp or fails the
attempt; the end of COOL-OFF begins the next attempt, or the FAULT of spent carbon (R80 to R82). -/
def Obligations.StrikeAttempts : Prop :=
  ∀ (p : Proj) (v : Nat) (s : State), s.running = true → (s.lamp p).st = .striking → v ≤ 255 →
    let l := s.lamp p
    (l.phase = some .touch →
      let l' : Lamp := { l with lastCurrent := v, touchSamples := l.touchSamples + 1 }
      (30 ≤ v → ends (.touchSample p v) s (s.setLamp p { l' with phase := some .draw, strikeTicks := 0 })) ∧
      (v < 30 → l.touchSamples + 1 < 60 →
        (l.carbon ≤ l.settings.margin → ends (.touchSample p v) s (s.setLamp p l')) ∧
        (l.carbon = l.settings.margin + 1 →
          ends (.touchSample p v) s (notifyScreen p.screen (.carbonStub p l.settings.margin)
            (s.setLamp p { l' with carbon := l.settings.margin }))) ∧
        (l.settings.margin + 1 < l.carbon →
          ends (.touchSample p v) s (s.setLamp p { l' with carbon := l.carbon - 1 }))) ∧
      (v < 30 → 60 ≤ l.touchSamples + 1 → 3 ≤ l.attempts → ∃ u, ends (.touchSample p v) s u ∧ (u.lamp p).st = .fault ∧
        (u.lamp p).faultCause = some .noArc ∧ u.budget.examine = true) ∧
      (v < 30 → 60 ≤ l.touchSamples + 1 → l.attempts < 3 →
        ends (.touchSample p v) s (notifyScreen p.screen (.strikeRetry p l.attempts .noArc)
          (s.setLamp p { l' with phase := some .coolOff, strikeTicks := 0 })))) ∧
    (l.phase = some .draw →
      (20 ≤ v → s.budget.overdrawn = false → ∃ u, ends (.drawEnd p v) s u ∧
        (u.lamp p).st = (if l.target = some .running then .running else .standby) ∧ (u.lamp p).attempts = 0 ∧
        (u.lamp p).target = none ∧ (u.lamp p).phase = none ∧ (u.lamp p).litCurrent = l.litCurrent ∧
        (u.lamp p).fixedSurge = 0 ∧ (u.lamp p).lastCurrent = v ∧ (u.budget.examine = true ∨ l.fixedSurge = 0)) ∧
      (v < 20 → l.attempts < 3 →
        ends (.drawEnd p v) s (notifyScreen p.screen (.strikeRetry p l.attempts .noDraw)
          (s.setLamp p { l with lastCurrent := v, phase := some .coolOff, strikeTicks := 0 })))) ∧
    (l.phase = some .coolOff →
      (l.settings.margin < l.carbon →
        ends (.coolOffEnd p) s (s.setLamp p
          { l with attempts := l.attempts + 1, phase := some .touch, touchSamples := 0, strikeTicks := 0 })) ∧
      (l.carbon ≤ l.settings.margin → ∃ u, ends (.coolOffEnd p) s u ∧ (u.lamp p).st = .fault ∧
        (u.lamp p).faultCause = some .noCarbon ∧ (u.lamp p).charge = 0 ∧ u.budget.examine = true))

/-- A regulation of a lit lamp adds e / g rounded up, at most 8, to a pending feed of at most 24, and clears it when e is not
positive; a feed step takes one unit of carbon and of pending feed, and none at or below the margin (R83, R84, R97). -/
def Obligations.RegulationAndFeed : Prop :=
  ∀ (p : Proj) (v : Nat) (s : State), s.running = true → (s.lamp p).lit = true → v ≤ 255 →
    let l := s.lamp p
    let x := l.settings
    ends (.regulation p v) s (s.setLamp p
      { l with
        lastVoltage := v, standbyRef := x.standby,
        pendingFeed :=
          if v ≤ x.setpoint + x.band ∨ l.carbon ≤ x.margin then 0
          else min 24 (l.pendingFeed + min 8 ((v - x.setpoint - x.band + x.gain - 1) / x.gain)) }) ∧
    (l.pendingFeed = 0 ∨ l.carbon ≤ x.margin → ends (.feedStep p) s (s.setLamp p { l with feedTicks := 0 })) ∧
    (0 < l.pendingFeed → x.margin < l.carbon →
      let v' := s.setLamp p
        { l with
          carbon := l.carbon - 1, feedTicks := 0,
          pendingFeed := if l.carbon - 1 ≤ x.margin then 0 else l.pendingFeed - 1 }
      ends (.feedStep p) s
        (if l.carbon - 1 ≤ x.margin then notifyScreen p.screen (.carbonStub p (l.carbon - 1)) v' else v'))

/-- A current sample of a lit lamp: below 20 it counts a low one, else it clears the count; the third in a row is an arc-out,
which queues the lamp again at once with deadline now, for the state it burned in (R86). -/
def Obligations.CurrentSamplesAndArcOut : Prop :=
  ∀ (p : Proj) (v : Nat) (s : State), s.running = true → (s.lamp p).lit = true → v ≤ 255 →
    let l := s.lamp p
    (20 ≤ v → ends (.currentSample p v) s (s.setLamp p { l with lastCurrent := v, lowCount := 0 })) ∧
    (v < 20 → l.lowCount + 1 < 3 →
      ends (.currentSample p v) s (s.setLamp p { l with lastCurrent := v, lowCount := l.lowCount + 1 })) ∧
    (v < 20 → 3 ≤ l.lowCount + 1 → l.quenchDue = none → l.settings.margin < l.carbon → l.lastArcOut = none →
      s.fire.on = false → entryOf s p = none → ∃ u, ends (.currentSample p v) s u ∧
        u.lamp p =
          { l with
            st := .queued, litCurrent := none, held := false, pendingFeed := 0, lowCount := 0, fixedSurge := 0,
            standing := none, lastArcOut := some s.boothTime, lastCurrent := v,
            target := some (if l.st = .running then .running else .standby) } ∧
        u.budget.queue = insertEntry ⟨p, s.boothTime, s.budget.nextSeq, false, false⟩ s.budget.queue ∧
        u.budget.examine = true)

/-- A quench due that has come puts the lamp out; the end of quenching makes it DARK with its notice, or QUEUED where the budget
holds a request; before their time neither row acts (R89, R90, R167; log 3). -/
def Obligations.QuenchWaits : Prop :=
  ∀ (p : Proj) (d : BoothTime) (s : State), s.running = true →
    let l := s.lamp p
    (l.quenchDue = some d → (s.boothTime - d).toNat < 8388608 → l.inUse = true →
      ends (.quenchDue p) s (examined (s.setLamp p (l.quenched s.boothTime)))) ∧
    (l.quenchDue = some d → 8388608 ≤ (s.boothTime - d).toNat → ends (.quenchDue p) s s) ∧
    (l.st = .quenching → l.quenchingEnd = some d →
      (8388608 ≤ (s.boothTime - d).toNat → ends (.quenchingEnd p) s s) ∧
      ((s.boothTime - d).toNat < 8388608 →
        (entryOf s p = none →
          ends (.quenchingEnd p) s (notifyScreen p.screen (.lampDark p)
            (s.setLamp p { l with st := .dark, quenchingEnd := none }))) ∧
        ∀ e, entryOf s p = some e →
          ends (.quenchingEnd p) s (examined
            { s.setLamp p { l with st := .queued, quenchingEnd := none } with
              budget := { s.budget with
                queue := s.budget.queue.map (fun x => if x.lamp = p then { x with held := false } else x) } })))

/-- The burn rate follows the four points: the ends outside them, the straight line rounded to nearest, halves away from zero,
between them; it stays within 10 to 250 (R98). -/
def Obligations.BurnRateFollowsTheTable : Prop :=
  ∀ (t : BurnTable) (i : Nat), burnOk t = true →
    10 ≤ burnRate t i ∧ burnRate t i ≤ 250 ∧ (i ≤ t.p1.current → burnRate t i = t.p1.rate) ∧
    (t.p4.current ≤ i → burnRate t i = t.p4.rate) ∧
    ∀ p q, (p, q) ∈ [(t.p1, t.p2), (t.p2, t.p3), (t.p3, t.p4)] → p.current ≤ i → i < q.current → ∃ k : Nat,
      let w := q.current - p.current
      let up := if p.rate ≤ q.rate then q.rate - p.rate else p.rate - q.rate
      2 * k * w ≤ 2 * (up * (i - p.current)) + w ∧ 2 * (up * (i - p.current)) + w < 2 * (k + 1) * w ∧
        burnRate t i = if p.rate ≤ q.rate then p.rate + k else p.rate - k

/-! ## The arc current budget (chapter 6) -/

/-- SET CAPACITY, SET SURGE and SET RECLAIM set their values; a raised Cap, a lowered surge and a lead time that brings the head's
lead point past make the budget examine; a Cap lowered below the sum of the charges makes it OVERDRAWN (R108, R109, R114, R120). -/
def Obligations.BudgetOrdersSetTheBudget : Prop :=
  ∀ s : State, lineFree s .house →
    (∀ cap : Nat, cap ≤ 400 →
      let v : State := { reply .house (.done 0x12) s with budget := { s.budget with cap := cap } }
      (s.budget.cap < cap → s.fire.on = false → ends (.setCapacity .house cap) s (examined v)) ∧
      (cap = s.budget.cap ∨ (cap < s.budget.cap ∧ sigma s ≤ cap) → ends (.setCapacity .house cap) s v) ∧
      (cap < s.budget.cap → cap < sigma s → ∃ u, ends (.setCapacity .house cap) s u ∧ u.budget.overdrawn = true ∧
        u.budget.cap = cap ∧ u.budget.examine = true)) ∧
    (∀ surge : Nat, surge ≤ 60 →
      let v : State := { reply .house (.done 0x13) s with budget := { s.budget with surge := surge } }
      ends (.setSurge .house surge) s (if surge < s.budget.surge then examined v else v)) ∧
    ∀ lead gap : Nat, 5 ≤ lead → lead ≤ 120 → 10 ≤ gap → gap ≤ 300 →
      let v : State := { reply .house (.done 0x14) s with
        budget := { s.budget with lead := lead, gap := gap, leadTaken := false } }
      (s.budget.queue = [] → ends (.setReclaim .house lead gap) s v) ∧
      ∀ e rest, s.budget.queue = e :: rest →
        ends (.setReclaim .house lead gap) s (if leadPassed v e then examined v else v)

/-- The head's lead point makes the budget examine once booth time has reached it, and once only, by the model's own mark (log 39);
STRIKE LATE is sent once for an entry whose deadline is passed, and marked; booth times compare by their difference modulo
16,777,216 (R117, R119, R167; log 3, log 16). -/
def Obligations.LeadPointsAndLateStrikes : Prop :=
  (∀ now d : BoothTime,
    passed now d = decide ((now.toNat + 16777216 - d.toNat) % 16777216 < 8388608) ∧
    earlier now d = decide (now ≠ d ∧ (d.toNat + 16777216 - now.toNat) % 16777216 < 8388608)) ∧
  (∀ s : State, s.running = true → (s.budget.queue = [] → ends .leadPoint s s) ∧
    ∀ e rest, s.budget.queue = e :: rest →
      ends .leadPoint s
        (if passed s.boothTime (e.deadline - BitVec.ofNat 24 (10 * s.budget.lead)) = true ∧ s.budget.leadTaken = false then
          examined s else s)) ∧
  ∀ (p : Proj) (s : State), s.running = true → (entryOf s p = none → ends (.strikeLate p) s s) ∧
    ∀ e, entryOf s p = some e →
      ends (.strikeLate p) s
        (if passed s.boothTime e.deadline = true ∧ e.lateSent = false then
          notifyScreen p.screen (.strikeLate p e.deadline)
            { s with budget := { s.budget with
                queue := s.budget.queue.map (fun x => if x.lamp = p then { x with lateSent := true } else x) } }
        else s)

/-- Every step keeps at most one entry for each lamp, each of a lamp QUEUED or QUENCHING (R111). -/
def Obligations.EntriesBelongToWaitingLamps : Prop :=
  ∀ s t : State, queueOk s → step s = .next t → queueOk t

/-- Every step keeps the sum of the charges within Cap, but under an overdraft (R110, R120). -/
def Obligations.ChargesStayWithinCap : Prop :=
  ∀ s t : State, withinCap s → step s = .next t → withinCap t

/-- A head that fits is granted: it leaves the queue, and its lamp strikes at its effective running current with the present
surge, unless its carbon is spent (R80, R115, R116). -/
def Obligations.AHeadThatFitsIsGranted : Prop :=
  ∀ (s : State) (e : Entry) (rest : List Entry), s.budget.queue = e :: rest → s.fire.on = false →
    s.budget.overdrawn = false → e.held = false → (s.lamp e.lamp).settings.margin < (s.lamp e.lamp).carbon →
    sigma s + effectiveCurrent s e.lamp + s.budget.surge ≤ s.budget.cap → queueOk s →
    ∀ k, ∃ v, examineQueue (k + 1) s = examineQueue k v ∧ v.budget = { s.budget with queue := rest } ∧
      v.lamp e.lamp =
        { s.lamp e.lamp with
          st := .striking, litCurrent := some (effectiveCurrent s e.lamp), held := false, fixedSurge := s.budget.surge,
          standing := some e.deadline, attempts := 1, phase := some .touch, touchSamples := 0, strikeTicks := 0 } ∧
      sigma v = sigma s + effectiveCurrent s e.lamp + s.budget.surge

/-! ## House lighting (chapter 7) -/

/-- LIGHTS places and LIGHTS RELEASE removes the MANUAL claims of one auditorium or of all, from a scene or from levels clamped to
100; an aisle target of an auditorium that is not CLOSED is no lower than the floor (R126, R134, R135). -/
def Obligations.LightsPlaceManualClaims : Prop :=
  ∀ (s : State) (a : Nat), lineFree s .house → a ≤ 4 →
    (∀ (form : LightsForm) (house aisle fade : Nat),
      (∃ k, form = .scene k ∧ k ≤ 7 ∧ house = (s.scene k).house ∧ aisle = (s.scene k).aisle ∧ fade = (s.scene k).fade) ∨
        (∃ h x, form = .levels h x fade ∧ fade ≤ 600 ∧ house = min 100 h ∧ aisle = min 100 x) →
      ∃ cs, ends (.lights .house a form) s { reply .house (.done 0x15) s with circuits := cs } ∧
        ∀ n, (cs.get n).house = (if a = 0 ∨ a = screenNumber n then
            { s.circ ⟨n, .house⟩ with manual := some ⟨house, .time fade, true⟩ } else s.circ ⟨n, .house⟩) ∧
          (cs.get n).aisle = (if a = 0 ∨ a = screenNumber n then
            { s.circ ⟨n, .aisle⟩ with
              manual := some ⟨if (s.seq n).showState = .closed then aisle else max aisle s.floor, .time fade, true⟩ }
            else s.circ ⟨n, .aisle⟩)) ∧
    ∃ cs, ends (.lightsRelease .house a) s { reply .house (.done 0x16) s with circuits := cs } ∧
      ∀ c : Circ, (cs.get c.screen).get c.kind =
        if a = 0 ∨ a = screenNumber c.screen then { s.circ c with manual := none } else s.circ c

/-- SET FLOOR and SET REST clamp and take their values; a rest level that governs its circuit starts a fade of 3 s toward it. An
aisle output of an auditorium that is not CLOSED is at least ten times the floor (R128, R132, R133, R136). -/
def Obligations.FloorAndRestLevels : Prop :=
  (∀ (s : State) (v : Nat), lineFree s .house →
    ends (.setFloor .house v) s { reply .house (.done 0x17) s with floor := min 50 v }) ∧
  (∀ (s : State) (c : Circ) (v : Nat), lineFree s .house →
    let u := reply .house (.done 0x18) s
    ((s.circ c).winnerNow ≠ .rest →
      ends (.setRest .house (circCode c) v) s (u.setCirc c { s.circ c with rest := min 100 v })) ∧
    ((s.circ c).winnerNow = .rest →
      ends (.setRest .house (circCode c) v) s (u.setCirc c
        { s.circ c with
          rest := min 100 v, engine := outputLevel s c,
          fade := some ⟨outputLevel s c, 10 * min 100 v, 30, 0, none⟩ }))) ∧
  ∀ (s : State) (n : Screen),
    ((s.seq n).showState ≠ .closed → 10 * s.floor ≤ outputLevel s ⟨n, .aisle⟩) ∧
    ((s.seq n).showState = .closed → outputLevel s ⟨n, .aisle⟩ = (s.circ ⟨n, .aisle⟩).engine)

/-- A circuit whose winning claim is another than before starts one fade at the end of the event, from its output level; any
other circuit's engine and fade stay. A fade moves monotonically toward its target and reaches it exactly at its last step (R128,
R129). -/
def Obligations.FadesFollowTheWinner : Prop :=
  (∀ (s : State) (c : Circ),
    ((s.circ c).winnerChanged = false →
      ((judgeLights s).circ c).engine = (s.circ c).engine ∧ ((judgeLights s).circ c).fade = (s.circ c).fade) ∧
    ((s.circ c).winnerChanged = true → ∀ target tenths, (s.circ c).wanted (s.circ c).winnerNow = (target, .time tenths) →
      (tenths = 0 → ((judgeLights s).circ c).engine = 10 * target ∧ ((judgeLights s).circ c).fade = none) ∧
      (tenths ≠ 0 → ((judgeLights s).circ c).engine = outputLevel s c ∧
        ((judgeLights s).circ c).fade = some ⟨outputLevel s c, 10 * target, tenths, 0, none⟩)) ∧
    ((judgeLights s).circ c).winner = (s.circ c).winnerNow) ∧
  (∀ l0 l1 n k : Nat, k < n →
    (l0 ≤ l1 → fadeLevel l0 l1 k n ≤ fadeLevel l0 l1 (k + 1) n ∧ l0 ≤ fadeLevel l0 l1 k n ∧ fadeLevel l0 l1 k n ≤ l1) ∧
    (l1 ≤ l0 → fadeLevel l0 l1 (k + 1) n ≤ fadeLevel l0 l1 k n ∧ fadeLevel l0 l1 k n ≤ l0 ∧ l1 ≤ fadeLevel l0 l1 k n) ∧
    fadeLevel l0 l1 0 n = l0 ∧ fadeLevel l0 l1 n n = l1) ∧
  ∀ (c : Circuit) (f : Fade) (film : Option FilmFade),
    (f.k + 1 < f.n → c.fadeStep f film =
      { c with engine := fadeLevel f.l0 f.l1 (f.k + 1) f.n, fade := some { f with k := f.k + 1, film := film } }) ∧
    (f.n ≤ f.k + 1 → c.fadeStep f film = { c with engine := f.l1, fade := none })

/-- An advance of booth time: booth time wraps after 16,777,215, TIME fades step, marked FILM fades complete, intervals that time
fall by one, and every wait for booth time is tested: one that has ended and has not been acted on is taken as its own row takes
it, and where none has, nothing more happens (R49, R89, R90, R117, R119, R129, R131, R166, R167). Of the model: each is an event of
its own (choice, log 2), the commanded advance takes the waits and starts the tick count again (choice, log 3), a lead point
that an examination has met is marked and taken no more (inference, log 39), late strikes are tested at an advance (inference, log
16). -/
def Obligations.BoothTimeAdvances : Prop :=
  (∀ s : State, s.running = true → ∃ cs : PerCirc Circuit, ∃ qs : Quad Sequencer,
    exec .boothTimeAdvance s = .next (boothWaits (settle
      { s with boothTime := s.boothTime + 1, tickCount := 0, stampSub := 0, circuits := cs, seqs := qs })) ∧
    (∀ n, qs.get n = if (s.seq n).showState = .interval then
      { s.seq n with interval := (s.seq n).interval.map (fun k => k - 1) } else s.seq n) ∧
    ∀ c : Circ,
      ((s.circ c).fade = none → (cs.get c.screen).get c.kind = s.circ c) ∧
      ∀ f, (s.circ c).fade = some f →
        (f.film = none → (cs.get c.screen).get c.kind = (s.circ c).fadeStep f none) ∧
        (∀ m, f.film = some m → m.marked = true →
          (cs.get c.screen).get c.kind = { s.circ c with engine := f.l1, fade := none }) ∧
        (∀ m, f.film = some m → m.marked = false → (cs.get c.screen).get c.kind = s.circ c)) ∧
  (∀ (w : State) (n : Screen) (p : Proj),
    (isDue w (.intervalExpiry n) = true ↔ (w.seq n).showState = .interval ∧ (w.seq n).interval = some 0 ∧
      (w.seq n).reelPending = false ∧ (w.seq n).startRec = none) ∧
    (isDue w (.quenchDue p) = true ↔ ∃ d, (w.lamp p).quenchDue = some d ∧ passed w.boothTime d = true) ∧
    (isDue w (.quenchingEnd p) = true ↔ (w.lamp p).st = .quenching ∧
      ∃ d, (w.lamp p).quenchingEnd = some d ∧ passed w.boothTime d = true) ∧
    (isDue w .leadPoint = true ↔ ∃ e rest, w.budget.queue = e :: rest ∧
      passed w.boothTime (e.deadline - BitVec.ofNat 24 (10 * w.budget.lead)) = true ∧ w.budget.leadTaken = false) ∧
    (isDue w (.strikeLate p) = true ↔ ∃ e, entryOf w p = some e ∧ passed w.boothTime e.deadline = true ∧ e.lateSent = false)) ∧
  (∀ w : State, (∀ c ∈ waitRows, isDue w c = false) → boothWaits w = w) ∧
  ∀ (c : Instr) (w t : State), w.running = true → c ∈ waitRows → isDue w c = true →
    (∀ d ∈ waitRows, d ≠ c → isDue w d = false ∧ isDue t d = false) → exec c w = .next t → boothWaits w = t

/-! ## Fire protection (chapter 8) -/

/-- A source that rises on a clear fire line with the fire state OFF enters booth fire, whether a field input, a line's FIRE
ASSERT or a gate flame held for the persistence: the fire state is latched, the holds fall, an entry opens, every lamp is out,
every demand and motor is off and every circuit has its FIRE claim (R139 to R141, R146). -/
def Obligations.ARisingSourceEntersBoothFire : Prop :=
  ∀ (s : State) (c : Instr) (src : Source), s.running = true → s.fire.on = false → s.fire.sources.any = false →
    ((∃ i, src = .input i ∧ c = .fireSourceInput i true) ∨
      (∃ l, src = .line l ∧ c = .fireAssert l ∧ lineFree s l) ∨
      (∃ p k, src = .gate ∧ c = .persistence p ∧ s.fire.timer p = some k)) →
    ∃ u, ends c s u ∧ u.fire.on = true ∧ u.fire.sources = s.fire.sources.set src true ∧
      u.fire.holds = Quad.fill (Trio.fill false) ∧
      u.fire.record = (⟨s.boothTime, s.fire.sources.set src true, none, .openEntry⟩ :: s.fire.record).take 4 ∧
      (∀ p, (u.lamp p).charge = 0 ∧ (u.lamp p).st ≠ .queued ∧ motorIsOn u p = false ∧
        (u.seq p.screen).demand.get p.side = .clear) ∧
      (∀ x, (u.circ x).winnerNow = .fire) ∧
      ∀ n, (u.seq n).changeover = none ∧
        ((s.seq n).showState = .closed → (u.seq n).showState = .closed) ∧
        ((s.seq n).showState ≠ .closed → (u.seq n).showState = .halted ∧ (u.seq n).haltReason = some .fire)

/-- A source that falls is cleared with no other effect, whatever the fire state; FIRE RELEASE is the fall of its line's source.
While ON, a source that rises joins the open entry and is notified to every line. CLEAR FIRE, with every source clear, turns the
fire state OFF, ends the open entry CLEARED, takes the holder BOOTH off every circuit and tells every line; the holds stay (R139,
R140, R142, R143, R150). -/
def Obligations.SourcesFallAndFireIsCleared : Prop :=
  (∀ (s : State) (i : FireInput), s.running = true →
    ends (.fireSourceInput i false) s
      { s with fire := { s.fire with sources := s.fire.sources.set (.input i) false } }) ∧
  (∀ (s : State) (l : Line), lineFree s l →
    ends (.fireRelease l) s
      { reply l (.done 0x1B) s with fire := { s.fire with sources := s.fire.sources.set (.line l) false } }) ∧
  (∀ (s : State) (i : FireInput) (e : FireEntry) (rest : List FireEntry), s.running = true → s.fire.on = true →
    s.fire.sources.get (.input i) = false → s.fire.record = e :: rest → e.ended = .openEntry →
    let e' := { e with sources := e.sources.set (.input i) true }
    ends (.fireSourceInput i true) s
      (notifyAll (.fire e.entryTime e'.sources)
        { s with fire := { s.fire with sources := s.fire.sources.set (.input i) true, record := e' :: rest } })) ∧
  ∀ (s : State) (e : FireEntry) (rest : List FireEntry), lineFree s .house → s.fire.on = true →
    s.fire.sources.any = false → s.fire.record = e :: rest → e.ended = .openEntry →
    ends (.clearFire .house) s
      (notifyAll (.fireCleared e.entryTime s.boothTime)
        { reply .house (.done 0x1C) s with
          fire := { s.fire with on := false, record := { e with clearTime := some s.boothTime, ended := .cleared } :: rest },
          circuits := s.circuits.map (Duo.map (fun x => { x with fireBooth := false })) })

/-- A gate flame marks the screen, drops its three holds, starts the persistence timer, puts the projector's lamp out, gives both
circuits the holder LOCAL and halts a screen that is not CLOSED. Its fall stops the timer, and clears GATE with the last (R145,
R146). -/
def Obligations.GateFlamesAreLocalFires : Prop :=
  ∀ (s : State) (p : Proj), s.running = true →
    (s.fire.flame p = false → ∃ u, ends (.gateFlameRise p) s u ∧
      u.fire = { s.fire with
        flames := s.fire.flames.set p.screen ((s.fire.flames.get p.screen).set p.side true),
        persist := s.fire.persist.set p.screen ((s.fire.persist.get p.screen).set p.side (some 0)),
        holds := s.fire.holds.set p.screen (Trio.fill false), marks := s.fire.marks.set p.screen true } ∧
      (u.lamp p).inUse = false ∧ (u.lamp p).st ≠ .queued ∧
      (∀ k, (u.circ ⟨p.screen, k⟩).fireLocal = true ∧ (u.circ ⟨p.screen, k⟩).winnerNow = .fire) ∧
      ((s.seq p.screen).showState ≠ .closed →
        (u.seq p.screen).showState = .halted ∧ (u.seq p.screen).haltReason = some .localFire ∧
        (u.seq p.screen).changeover = none ∧
        ∀ x, motorIsOn u ⟨p.screen, x⟩ = false ∧ (u.seq p.screen).demand.get x = .clear)) ∧
    (s.fire.flame p = true →
      let f := { s.fire with
        flames := s.fire.flames.set p.screen ((s.fire.flames.get p.screen).set p.side false),
        persist := s.fire.persist.set p.screen ((s.fire.persist.get p.screen).set p.side none) }
      ((∃ q, q ≠ p ∧ s.fire.flame q = true) → ends (.gateFlameFall p) s { s with fire := f }) ∧
      ((∀ q, q ≠ p → s.fire.flame q = false) →
        ends (.gateFlameFall p) s { s with fire := { f with sources := { s.fire.sources with gate := false } } }))

/-- REHANG energises the three holds and clears the local fire of a screen with no flame; an up switch that reports is taken, and
one that falls with its hold energised is PORT DOWN on both lines; a port whose projector is not ACTIVE halts nothing (R148,
R149). -/
def Obligations.RehangAndUpSwitches : Prop :=
  (∀ (s : State) (l : Line) (n : Screen), lineFree s l → l = .house ∨ l = .screen n → s.fire.on = false →
    s.fire.flame ⟨n, .a⟩ = false → s.fire.flame ⟨n, .b⟩ = false →
    ends (.rehang l (screenNumber n)) s
      (((({ reply l (.done 0x1D) s with
          fire := { s.fire with holds := s.fire.holds.set n (Trio.fill true), marks := s.fire.marks.set n false } }).setCirc
        ⟨n, .house⟩ { s.circ ⟨n, .house⟩ with fireLocal := false }).setCirc
        ⟨n, .aisle⟩ { s.circ ⟨n, .aisle⟩ with fireLocal := false }))) ∧
  ∀ (s : State) (q : Port) (v : Bool), s.running = true → s.fire.up q ≠ v →
    let u : State := { s with fire := s.fire.setUp q v }
    (v = true ∨ s.fire.hold q = false → ends (.upSwitchChange q v) s u) ∧
    (v = false → s.fire.hold q = true →
      (∀ p, portOf p = q → (s.seq p.screen).role p.side ≠ .active) →
      ends (.upSwitchChange q v) s (notify .house (.portDown q) (notifyScreen q.screen (.portDown q) u))) ∧
    (v = false → s.fire.hold q = true → ∀ p, portOf p = q → (s.seq p.screen).role p.side = .active →
      dowserOpen s p = true → (s.seq p.screen).showState = .showing →
      ∃ u, ends (.upSwitchChange q v) s u ∧ (u.seq p.screen).showState = .halted ∧
        (u.seq p.screen).haltReason = some .portDown ∧ motorIsOn u p = false ∧ (u.lamp p).inUse = false)

/-- The first scan after a reset takes the samples, the up switches and the four field sources; a source found asserted enters
booth fire, and no later scan is the first (R94, R151, R170). -/
def Obligations.TheFirstScanDelivers : Prop :=
  ∀ (s : State) (i : ScanInputs), s.running = true →
    (s.scanDue = false → ends (.firstScan i) s s) ∧
    (s.scanDue = true → s.fire.on = false → (∀ p, (i.flames.get p.screen).get p.side = true → s.fire.flame p = true) →
      ∃ u, ends (.firstScan i) s u ∧ u.scanDue = false ∧ u.fire.ups = i.ups ∧
        u.fire.sources = { s.fire.sources with heat1 := i.heat1, heat2 := i.heat2, panel := i.panel, link := i.link } ∧
        u.fire.on = u.fire.sources.any ∧
        ∀ p, (u.lamp p).lastCurrent = min 255 ((i.currents.get p.screen).get p.side) ∧
          (u.lamp p).lastVoltage = min 255 ((i.voltages.get p.screen).get p.side))

/-- Every step keeps what a booth fire has made: while the fire state is ON, every charge is zero, every motor is off and every
circuit's winning claim is FIRE (R142). -/
def Obligations.BoothFireHolds : Prop :=
  ∀ s t : State, fireSafe s → step s = .next t → fireSafe t

/-! ## Supplies and resets (chapter 10) -/

/-- The supply rows: SGOOD falling from RUN is STANDBY, with every retained item kept where VSB is present and lost with the marker
where it is absent; rising from STANDBY it is a main restore with the marker, which keeps them, and a power-on without, which
gives their defaults; VSB lost takes the marker; RESET rising in RUN is a panel reset, which keeps them and is held until it falls.
An open fire entry that a reset meets is closed RESET (R150, R169, R170; VSB's level as an operand is the model's choice, log 8). -/
def Obligations.SuppliesAndResets : Prop :=
  ∀ s : State,
    (s.supply = .run → ∀ vsb, runs (.sgoodFall vsb) s (fun t => t.supply = .standby ∧ t.vsb = vsb ∧ t.running = false ∧
      (vsb = true → sameStore s t ∧ t.fire.record = s.fire.record ∧ t.storeValid = s.storeValid) ∧
      (vsb = false → t.storeValid = false))) ∧
    (s.supply = .standby → ∀ vsb, runs (.sgoodRise vsb) s (fun t => t.supply = .run ∧ t.vsb = vsb ∧ t.storeValid = true ∧
      (vsb = true → s.storeValid = true → sameStore s t ∧ t.fire.record = recordClosed s.fire.record) ∧
      (vsb = false ∨ s.storeValid = false → sameStore State.reset t ∧ t.fire.record = []))) ∧
    (s.supply = .run → exec .vsbLoss s = .next { s with vsb := false, storeValid := false }) ∧
    (s.supply = .standby → runs .vsbLoss s (fun t => t.supply = .standby ∧ t.vsb = false ∧ t.storeValid = false)) ∧
    (s.supply = .run → s.resetPin = false → runs .panelReset s (fun t => t.resetPin = true ∧ t.running = false ∧
      t.boothTime = 0 ∧ sameStore s t ∧ t.fire.record = recordClosed s.fire.record ∧ t.storeValid = s.storeValid ∧
      t.vsb = s.vsb)) ∧
    (s.supply = .standby ∨ s.resetPin = true → exec .panelReset s = .next { s with resetPin := true }) ∧
    exec .resetFall s = .next { s with resetPin := false }

/-- After every reset but a line reset, channels, contexts, Sequencers, lamps, budget, circuits and fire stand at the book's
reset values over what is retained (R19, R39, R71, R94, R123, R137, R151, R166). -/
def Obligations.EveryResetGivesTheResetValues : Prop :=
  ∀ s t : State, everyReset s t →
    (∀ p, t.ctx p = none ∧ (t.chan p).phase = 0 ∧ (t.chan p).frames = 0 ∧ (t.chan p).age = 65535 ∧
      (t.chan p).reference = false ∧ (t.chan p).ring = [] ∧ (t.chan p).motion = .still ∧ (t.chan p).runup = none ∧
      (t.chan p).lastCue = none ∧ (t.chan p).bounce = 0 ∧ gatePermission t p = false) ∧
    (∀ n, t.seq n = Sequencer.reset) ∧
    (∀ p, (t.lamp p).charge = 0 ∧ t.lamp p =
      { st := .dark, settings := (t.lamp p).settings, carbon := (t.lamp p).carbon, litCurrent := none, held := false,
        standbyRef := 0, target := none, phase := none, attempts := 0, touchSamples := 0, pendingFeed := 0, lowCount := 0,
        lastArcOut := none, quenchDue := none, quenchingEnd := none, faultCause := none,
        lastCurrent := (t.lamp p).lastCurrent, lastVoltage := (t.lamp p).lastVoltage, forecast := .none,
        chosenWarm := (t.lamp p).settings.warm, chosenBy := .full, strikeTicks := 0, feedTicks := 0, forecastTicks := 0,
        fixedSurge := 0, standing := none }) ∧
    t.budget.queue = [] ∧ t.budget.nextSeq = 0 ∧ t.budget.overdrawn = false ∧ t.budget.leadTaken = false ∧ sigma t = 0 ∧
    (∀ c, t.circ c = { rest := (t.circ c).rest, fireBooth := false, fireLocal := false, fault := none, manual := none,
                       program := none, winner := .rest, fade := none, engine := 10 * (t.circ c).rest }) ∧
    t.fire.on = false ∧ t.fire.marks = Quad.fill false ∧ t.fire.persist = Quad.fill (Pair.fill none) ∧
    t.fire.holds = Quad.fill (Trio.fill false) ∧ t.fire.sources.gate = false ∧ (∀ l, t.fire.sources.lines.get l = false) ∧
    (∀ p, gateShutter t p = false) ∧ t.boothTime = 0 ∧ t.tickCount = 0

/-- After every reset but a line reset, every line is in HUNT with empty queues, its overrun flag clear and its transmitter IDLE;
a line reset gives the same but for the message being sent and the LINE RESTARTED notice; nothing of a line is retained
(R163). -/
def Obligations.LinesAtEveryReset : Prop :=
  (∀ s t : State, everyReset s t → ∀ l, t.line l =
    { asm := .hunt, buffer := [], replies := [], notices := [], overrun := false, tx := none }) ∧
  (∀ (s : State) (l : Line) (m : OutMsg), s.running = true → (s.line l).tx = some m →
    exec (.lineBreak l) s = .next (s.setLine l
      { asm := .hunt, buffer := [], replies := [], notices := [⟨s.boothTime, .lineRestarted⟩], overrun := false,
        tx := some m })) ∧
  ∀ (s : State) (l : Line), s.running = true → (s.line l).tx = none →
    exec (.lineBreak l) s = .next (s.setLine l
      { asm := .hunt, buffer := [], replies := [], notices := [], overrun := false,
        tx := some (.notice ⟨s.boothTime, .lineRestarted⟩) })

/-- The state right after a power-on meets every invariant stated above. -/
def Obligations.ResetMeetsTheInvariants : Prop :=
  linesOk State.reset ∧ storeOk State.reset ∧ motionWellKept State.reset ∧ demandsOk State.reset ∧ queueOk State.reset ∧
    withinCap State.reset ∧ fireSafe State.reset

end
end

