-- ==== Sys2Proof/Laws/State.lean ====
section
/-! SUPPORT. Reading after writing: the entries of the tables, and one lemma for each field that an update leaves alone. -/

namespace Sys2Proof

/-! ## Tables -/

theorem Quad.get_set {α : Type} (t : Quad α) (n m : Screen) (v : α) : (t.set n v).get m = if m = n then v else t.get m := by
  cases n <;> cases m <;> rfl

theorem Pair.get_set {α : Type} (t : Pair α) (x y : Side) (v : α) : (t.set x v).get y = if y = x then v else t.get y := by
  cases x <;> cases y <;> rfl

theorem Duo.get_set {α : Type} (t : Duo α) (x y : CircKind) (v : α) : (t.set x v).get y = if y = x then v else t.get y := by
  cases x <;> cases y <;> rfl

theorem Trio.get_set {α : Type} (t : Trio α) (x y : PortKind) (v : α) : (t.set x v).get y = if y = x then v else t.get y := by
  cases x <;> cases y <;> rfl

theorem PerLine.get_set {α : Type} (t : PerLine α) (x y : Line) (v : α) :
    (t.set x v).get y = if y = x then v else t.get y := by
  cases x with
  | house => cases y <;> simp [PerLine.set, PerLine.get]
  | screen n =>
    cases y with
    | house => simp [PerLine.set, PerLine.get]
    | screen m => cases n <;> cases m <;> simp [PerLine.set, PerLine.get, Quad.set, Quad.get]

@[simp] theorem Quad.get_fill {α : Type} (v : α) (n : Screen) : (Quad.fill v).get n = v := by cases n <;> rfl

@[simp] theorem Pair.get_fill {α : Type} (v : α) (x : Side) : (Pair.fill v).get x = v := by cases x <;> rfl

@[simp] theorem Duo.get_fill {α : Type} (v : α) (x : CircKind) : (Duo.fill v).get x = v := by cases x <;> rfl

@[simp] theorem Trio.get_fill {α : Type} (v : α) (x : PortKind) : (Trio.fill v).get x = v := by cases x <;> rfl

@[simp] theorem PerLine.get_fill {α : Type} (v : α) (x : Line) : (PerLine.fill v).get x = v := by
  cases x with
  | house => rfl
  | screen n => cases n <;> rfl

@[simp] theorem Quad.get_map {α β : Type} (f : α → β) (t : Quad α) (n : Screen) : (t.map f).get n = f (t.get n) := by
  cases n <;> rfl

@[simp] theorem Pair.get_map {α β : Type} (f : α → β) (t : Pair α) (x : Side) : (t.map f).get x = f (t.get x) := by
  cases x <;> rfl

@[simp] theorem Duo.get_map {α β : Type} (f : α → β) (t : Duo α) (x : CircKind) : (t.map f).get x = f (t.get x) := by
  cases x <;> rfl

theorem Quad.ext_get {α : Type} {t u : Quad α} (h : ∀ n, t.get n = u.get n) : t = u := by
  cases t; cases u
  have h1 := h .n1; have h2 := h .n2; have h3 := h .n3; have h4 := h .n4
  simp only [Quad.get] at h1 h2 h3 h4
  subst h1 h2 h3 h4; rfl

theorem Pair.ext_get {α : Type} {t u : Pair α} (h : ∀ x, t.get x = u.get x) : t = u := by
  cases t; cases u
  have h1 := h .a; have h2 := h .b
  simp only [Pair.get] at h1 h2
  subst h1 h2; rfl

theorem Duo.ext_get {α : Type} {t u : Duo α} (h : ∀ x, t.get x = u.get x) : t = u := by
  cases t; cases u
  have h1 := h .house; have h2 := h .aisle
  simp only [Duo.get] at h1 h2
  subst h1 h2; rfl

theorem Proj.ext_iff' (p q : Proj) : p = q ↔ p.screen = q.screen ∧ p.side = q.side := by
  cases p; cases q; simp

theorem Circ.ext_iff' (p q : Circ) : p = q ↔ p.screen = q.screen ∧ p.kind = q.kind := by
  cases p; cases q; simp

theorem Port.ext_iff' (p q : Port) : p = q ↔ p.screen = q.screen ∧ p.kind = q.kind := by
  cases p; cases q; simp

namespace Machine

/-! ## One entry after a write -/

@[simp] theorem lamp_setLamp (s : State) (p q : Proj) (v : Lamp) :
    (s.setLamp p v).lamp q = if q = p then v else s.lamp q := by
  obtain ⟨n, x⟩ := p; obtain ⟨m, y⟩ := q
  cases n <;> cases x <;> cases m <;> cases y <;> rfl

@[simp] theorem chan_setChan (s : State) (p q : Proj) (v : Channel) :
    (s.setChan p v).chan q = if q = p then v else s.chan q := by
  obtain ⟨n, x⟩ := p; obtain ⟨m, y⟩ := q
  cases n <;> cases x <;> cases m <;> cases y <;> rfl

@[simp] theorem ctx_setCtx (s : State) (p q : Proj) (v : Option Context) :
    (s.setCtx p v).ctx q = if q = p then v else s.ctx q := by
  obtain ⟨n, x⟩ := p; obtain ⟨m, y⟩ := q
  cases n <;> cases x <;> cases m <;> cases y <;> rfl

@[simp] theorem circ_setCirc (s : State) (p q : Circ) (v : Circuit) :
    (s.setCirc p v).circ q = if q = p then v else s.circ q := by
  obtain ⟨n, x⟩ := p; obtain ⟨m, y⟩ := q
  cases n <;> cases x <;> cases m <;> cases y <;> rfl

@[simp] theorem seq_setSeq (s : State) (n m : Screen) (v : Sequencer) :
    (s.setSeq n v).seq m = if m = n then v else s.seq m := Quad.get_set _ _ _ _

@[simp] theorem line_setLine (s : State) (l k : Line) (v : LineState) :
    (s.setLine l v).line k = if k = l then v else s.line k := PerLine.get_set _ _ _ _

theorem modLamp_eq (s : State) (p : Proj) (f : Lamp → Lamp) : s.modLamp p f = s.setLamp p (f (s.lamp p)) := rfl

theorem modChan_eq (s : State) (p : Proj) (f : Channel → Channel) : s.modChan p f = s.setChan p (f (s.chan p)) := rfl

theorem modCirc_eq (s : State) (p : Circ) (f : Circuit → Circuit) : s.modCirc p f = s.setCirc p (f (s.circ p)) := rfl

theorem modSeq_eq (s : State) (p : Screen) (f : Sequencer → Sequencer) : s.modSeq p f = s.setSeq p (f (s.seq p)) := rfl

theorem modLine_eq (s : State) (p : Line) (f : LineState → LineState) : s.modLine p f = s.setLine p (f (s.line p)) := rfl

/-! ## What an update leaves alone -/

@[simp] theorem setLamp_supply (s : State) (p : Proj) (v : Lamp) : (s.setLamp p v).supply = s.supply := rfl

@[simp] theorem setLamp_resetPin (s : State) (p : Proj) (v : Lamp) : (s.setLamp p v).resetPin = s.resetPin := rfl

@[simp] theorem setLamp_vsb (s : State) (p : Proj) (v : Lamp) : (s.setLamp p v).vsb = s.vsb := rfl

@[simp] theorem setLamp_storeValid (s : State) (p : Proj) (v : Lamp) : (s.setLamp p v).storeValid = s.storeValid := rfl

@[simp] theorem setLamp_scanDue (s : State) (p : Proj) (v : Lamp) : (s.setLamp p v).scanDue = s.scanDue := rfl

@[simp] theorem setLamp_boothTime (s : State) (p : Proj) (v : Lamp) : (s.setLamp p v).boothTime = s.boothTime := rfl

@[simp] theorem setLamp_tickCount (s : State) (p : Proj) (v : Lamp) : (s.setLamp p v).tickCount = s.tickCount := rfl

@[simp] theorem setLamp_stampSub (s : State) (p : Proj) (v : Lamp) : (s.setLamp p v).stampSub = s.stampSub := rfl

@[simp] theorem setLamp_stampTimer (s : State) (p : Proj) (v : Lamp) : (s.setLamp p v).stampTimer = s.stampTimer := rfl

@[simp] theorem setLamp_reels (s : State) (p : Proj) (v : Lamp) : (s.setLamp p v).reels = s.reels := rfl

@[simp] theorem setLamp_programs (s : State) (p : Proj) (v : Lamp) : (s.setLamp p v).programs = s.programs := rfl

@[simp] theorem setLamp_scenes (s : State) (p : Proj) (v : Lamp) : (s.setLamp p v).scenes = s.scenes := rfl

@[simp] theorem setLamp_contexts (s : State) (p : Proj) (v : Lamp) : (s.setLamp p v).contexts = s.contexts := rfl

@[simp] theorem setLamp_channels (s : State) (p : Proj) (v : Lamp) : (s.setLamp p v).channels = s.channels := rfl

@[simp] theorem setLamp_motionSettings (s : State) (p : Proj) (v : Lamp) : (s.setLamp p v).motionSettings = s.motionSettings := rfl

@[simp] theorem setLamp_seqs (s : State) (p : Proj) (v : Lamp) : (s.setLamp p v).seqs = s.seqs := rfl

@[simp] theorem setLamp_budget (s : State) (p : Proj) (v : Lamp) : (s.setLamp p v).budget = s.budget := rfl

@[simp] theorem setLamp_circuits (s : State) (p : Proj) (v : Lamp) : (s.setLamp p v).circuits = s.circuits := rfl

@[simp] theorem setLamp_floor (s : State) (p : Proj) (v : Lamp) : (s.setLamp p v).floor = s.floor := rfl

@[simp] theorem setLamp_fire (s : State) (p : Proj) (v : Lamp) : (s.setLamp p v).fire = s.fire := rfl

@[simp] theorem setLamp_lines (s : State) (p : Proj) (v : Lamp) : (s.setLamp p v).lines = s.lines := rfl

@[simp] theorem setLamp_pending (s : State) (p : Proj) (v : Lamp) : (s.setLamp p v).pending = s.pending := rfl

@[simp] theorem setLamp_ctx (s : State) (p : Proj) (v : Lamp) (q : Proj) : (s.setLamp p v).ctx q = s.ctx q := rfl

@[simp] theorem setLamp_chan (s : State) (p : Proj) (v : Lamp) (q : Proj) : (s.setLamp p v).chan q = s.chan q := rfl

@[simp] theorem setLamp_seq (s : State) (p : Proj) (v : Lamp) (m : Screen) : (s.setLamp p v).seq m = s.seq m := rfl

@[simp] theorem setLamp_circ (s : State) (p : Proj) (v : Lamp) (d : Circ) : (s.setLamp p v).circ d = s.circ d := rfl

@[simp] theorem setLamp_line (s : State) (p : Proj) (v : Lamp) (k : Line) : (s.setLamp p v).line k = s.line k := rfl

@[simp] theorem setChan_supply (s : State) (p : Proj) (v : Channel) : (s.setChan p v).supply = s.supply := rfl

@[simp] theorem setChan_resetPin (s : State) (p : Proj) (v : Channel) : (s.setChan p v).resetPin = s.resetPin := rfl

@[simp] theorem setChan_vsb (s : State) (p : Proj) (v : Channel) : (s.setChan p v).vsb = s.vsb := rfl

@[simp] theorem setChan_storeValid (s : State) (p : Proj) (v : Channel) : (s.setChan p v).storeValid = s.storeValid := rfl

@[simp] theorem setChan_scanDue (s : State) (p : Proj) (v : Channel) : (s.setChan p v).scanDue = s.scanDue := rfl

@[simp] theorem setChan_boothTime (s : State) (p : Proj) (v : Channel) : (s.setChan p v).boothTime = s.boothTime := rfl

@[simp] theorem setChan_tickCount (s : State) (p : Proj) (v : Channel) : (s.setChan p v).tickCount = s.tickCount := rfl

@[simp] theorem setChan_stampSub (s : State) (p : Proj) (v : Channel) : (s.setChan p v).stampSub = s.stampSub := rfl

@[simp] theorem setChan_stampTimer (s : State) (p : Proj) (v : Channel) : (s.setChan p v).stampTimer = s.stampTimer := rfl

@[simp] theorem setChan_reels (s : State) (p : Proj) (v : Channel) : (s.setChan p v).reels = s.reels := rfl

@[simp] theorem setChan_programs (s : State) (p : Proj) (v : Channel) : (s.setChan p v).programs = s.programs := rfl

@[simp] theorem setChan_scenes (s : State) (p : Proj) (v : Channel) : (s.setChan p v).scenes = s.scenes := rfl

@[simp] theorem setChan_contexts (s : State) (p : Proj) (v : Channel) : (s.setChan p v).contexts = s.contexts := rfl

@[simp] theorem setChan_motionSettings (s : State) (p : Proj) (v : Channel) : (s.setChan p v).motionSettings = s.motionSettings := rfl

@[simp] theorem setChan_seqs (s : State) (p : Proj) (v : Channel) : (s.setChan p v).seqs = s.seqs := rfl

@[simp] theorem setChan_lamps (s : State) (p : Proj) (v : Channel) : (s.setChan p v).lamps = s.lamps := rfl

@[simp] theorem setChan_budget (s : State) (p : Proj) (v : Channel) : (s.setChan p v).budget = s.budget := rfl

@[simp] theorem setChan_circuits (s : State) (p : Proj) (v : Channel) : (s.setChan p v).circuits = s.circuits := rfl

@[simp] theorem setChan_floor (s : State) (p : Proj) (v : Channel) : (s.setChan p v).floor = s.floor := rfl

@[simp] theorem setChan_fire (s : State) (p : Proj) (v : Channel) : (s.setChan p v).fire = s.fire := rfl

@[simp] theorem setChan_lines (s : State) (p : Proj) (v : Channel) : (s.setChan p v).lines = s.lines := rfl

@[simp] theorem setChan_pending (s : State) (p : Proj) (v : Channel) : (s.setChan p v).pending = s.pending := rfl

@[simp] theorem setChan_ctx (s : State) (p : Proj) (v : Channel) (q : Proj) : (s.setChan p v).ctx q = s.ctx q := rfl

@[simp] theorem setChan_seq (s : State) (p : Proj) (v : Channel) (m : Screen) : (s.setChan p v).seq m = s.seq m := rfl

@[simp] theorem setChan_lamp (s : State) (p : Proj) (v : Channel) (q : Proj) : (s.setChan p v).lamp q = s.lamp q := rfl

@[simp] theorem setChan_circ (s : State) (p : Proj) (v : Channel) (d : Circ) : (s.setChan p v).circ d = s.circ d := rfl

@[simp] theorem setChan_line (s : State) (p : Proj) (v : Channel) (k : Line) : (s.setChan p v).line k = s.line k := rfl

@[simp] theorem setCtx_supply (s : State) (p : Proj) (v : Option Context) : (s.setCtx p v).supply = s.supply := rfl

@[simp] theorem setCtx_resetPin (s : State) (p : Proj) (v : Option Context) : (s.setCtx p v).resetPin = s.resetPin := rfl

@[simp] theorem setCtx_vsb (s : State) (p : Proj) (v : Option Context) : (s.setCtx p v).vsb = s.vsb := rfl

@[simp] theorem setCtx_storeValid (s : State) (p : Proj) (v : Option Context) : (s.setCtx p v).storeValid = s.storeValid := rfl

@[simp] theorem setCtx_scanDue (s : State) (p : Proj) (v : Option Context) : (s.setCtx p v).scanDue = s.scanDue := rfl

@[simp] theorem setCtx_boothTime (s : State) (p : Proj) (v : Option Context) : (s.setCtx p v).boothTime = s.boothTime := rfl

@[simp] theorem setCtx_tickCount (s : State) (p : Proj) (v : Option Context) : (s.setCtx p v).tickCount = s.tickCount := rfl

@[simp] theorem setCtx_stampSub (s : State) (p : Proj) (v : Option Context) : (s.setCtx p v).stampSub = s.stampSub := rfl

@[simp] theorem setCtx_stampTimer (s : State) (p : Proj) (v : Option Context) : (s.setCtx p v).stampTimer = s.stampTimer := rfl

@[simp] theorem setCtx_reels (s : State) (p : Proj) (v : Option Context) : (s.setCtx p v).reels = s.reels := rfl

@[simp] theorem setCtx_programs (s : State) (p : Proj) (v : Option Context) : (s.setCtx p v).programs = s.programs := rfl

@[simp] theorem setCtx_scenes (s : State) (p : Proj) (v : Option Context) : (s.setCtx p v).scenes = s.scenes := rfl

@[simp] theorem setCtx_channels (s : State) (p : Proj) (v : Option Context) : (s.setCtx p v).channels = s.channels := rfl

@[simp] theorem setCtx_motionSettings (s : State) (p : Proj) (v : Option Context) : (s.setCtx p v).motionSettings = s.motionSettings := rfl

@[simp] theorem setCtx_seqs (s : State) (p : Proj) (v : Option Context) : (s.setCtx p v).seqs = s.seqs := rfl

@[simp] theorem setCtx_lamps (s : State) (p : Proj) (v : Option Context) : (s.setCtx p v).lamps = s.lamps := rfl

@[simp] theorem setCtx_budget (s : State) (p : Proj) (v : Option Context) : (s.setCtx p v).budget = s.budget := rfl

@[simp] theorem setCtx_circuits (s : State) (p : Proj) (v : Option Context) : (s.setCtx p v).circuits = s.circuits := rfl

@[simp] theorem setCtx_floor (s : State) (p : Proj) (v : Option Context) : (s.setCtx p v).floor = s.floor := rfl

@[simp] theorem setCtx_fire (s : State) (p : Proj) (v : Option Context) : (s.setCtx p v).fire = s.fire := rfl

@[simp] theorem setCtx_lines (s : State) (p : Proj) (v : Option Context) : (s.setCtx p v).lines = s.lines := rfl

@[simp] theorem setCtx_pending (s : State) (p : Proj) (v : Option Context) : (s.setCtx p v).pending = s.pending := rfl

@[simp] theorem setCtx_chan (s : State) (p : Proj) (v : Option Context) (q : Proj) : (s.setCtx p v).chan q = s.chan q := rfl

@[simp] theorem setCtx_seq (s : State) (p : Proj) (v : Option Context) (m : Screen) : (s.setCtx p v).seq m = s.seq m := rfl

@[simp] theorem setCtx_lamp (s : State) (p : Proj) (v : Option Context) (q : Proj) : (s.setCtx p v).lamp q = s.lamp q := rfl

@[simp] theorem setCtx_circ (s : State) (p : Proj) (v : Option Context) (d : Circ) : (s.setCtx p v).circ d = s.circ d := rfl

@[simp] theorem setCtx_line (s : State) (p : Proj) (v : Option Context) (k : Line) : (s.setCtx p v).line k = s.line k := rfl

@[simp] theorem setSeq_supply (s : State) (n : Screen) (v : Sequencer) : (s.setSeq n v).supply = s.supply := rfl

@[simp] theorem setSeq_resetPin (s : State) (n : Screen) (v : Sequencer) : (s.setSeq n v).resetPin = s.resetPin := rfl

@[simp] theorem setSeq_vsb (s : State) (n : Screen) (v : Sequencer) : (s.setSeq n v).vsb = s.vsb := rfl

@[simp] theorem setSeq_storeValid (s : State) (n : Screen) (v : Sequencer) : (s.setSeq n v).storeValid = s.storeValid := rfl

@[simp] theorem setSeq_scanDue (s : State) (n : Screen) (v : Sequencer) : (s.setSeq n v).scanDue = s.scanDue := rfl

@[simp] theorem setSeq_boothTime (s : State) (n : Screen) (v : Sequencer) : (s.setSeq n v).boothTime = s.boothTime := rfl

@[simp] theorem setSeq_tickCount (s : State) (n : Screen) (v : Sequencer) : (s.setSeq n v).tickCount = s.tickCount := rfl

@[simp] theorem setSeq_stampSub (s : State) (n : Screen) (v : Sequencer) : (s.setSeq n v).stampSub = s.stampSub := rfl

@[simp] theorem setSeq_stampTimer (s : State) (n : Screen) (v : Sequencer) : (s.setSeq n v).stampTimer = s.stampTimer := rfl

@[simp] theorem setSeq_reels (s : State) (n : Screen) (v : Sequencer) : (s.setSeq n v).reels = s.reels := rfl

@[simp] theorem setSeq_programs (s : State) (n : Screen) (v : Sequencer) : (s.setSeq n v).programs = s.programs := rfl

@[simp] theorem setSeq_scenes (s : State) (n : Screen) (v : Sequencer) : (s.setSeq n v).scenes = s.scenes := rfl

@[simp] theorem setSeq_contexts (s : State) (n : Screen) (v : Sequencer) : (s.setSeq n v).contexts = s.contexts := rfl

@[simp] theorem setSeq_channels (s : State) (n : Screen) (v : Sequencer) : (s.setSeq n v).channels = s.channels := rfl

@[simp] theorem setSeq_motionSettings (s : State) (n : Screen) (v : Sequencer) : (s.setSeq n v).motionSettings = s.motionSettings := rfl

@[simp] theorem setSeq_lamps (s : State) (n : Screen) (v : Sequencer) : (s.setSeq n v).lamps = s.lamps := rfl

@[simp] theorem setSeq_budget (s : State) (n : Screen) (v : Sequencer) : (s.setSeq n v).budget = s.budget := rfl

@[simp] theorem setSeq_circuits (s : State) (n : Screen) (v : Sequencer) : (s.setSeq n v).circuits = s.circuits := rfl

@[simp] theorem setSeq_floor (s : State) (n : Screen) (v : Sequencer) : (s.setSeq n v).floor = s.floor := rfl

@[simp] theorem setSeq_fire (s : State) (n : Screen) (v : Sequencer) : (s.setSeq n v).fire = s.fire := rfl

@[simp] theorem setSeq_lines (s : State) (n : Screen) (v : Sequencer) : (s.setSeq n v).lines = s.lines := rfl

@[simp] theorem setSeq_pending (s : State) (n : Screen) (v : Sequencer) : (s.setSeq n v).pending = s.pending := rfl

@[simp] theorem setSeq_ctx (s : State) (n : Screen) (v : Sequencer) (q : Proj) : (s.setSeq n v).ctx q = s.ctx q := rfl

@[simp] theorem setSeq_chan (s : State) (n : Screen) (v : Sequencer) (q : Proj) : (s.setSeq n v).chan q = s.chan q := rfl

@[simp] theorem setSeq_lamp (s : State) (n : Screen) (v : Sequencer) (q : Proj) : (s.setSeq n v).lamp q = s.lamp q := rfl

@[simp] theorem setSeq_circ (s : State) (n : Screen) (v : Sequencer) (d : Circ) : (s.setSeq n v).circ d = s.circ d := rfl

@[simp] theorem setSeq_line (s : State) (n : Screen) (v : Sequencer) (k : Line) : (s.setSeq n v).line k = s.line k := rfl

@[simp] theorem setCirc_supply (s : State) (c : Circ) (v : Circuit) : (s.setCirc c v).supply = s.supply := rfl

@[simp] theorem setCirc_resetPin (s : State) (c : Circ) (v : Circuit) : (s.setCirc c v).resetPin = s.resetPin := rfl

@[simp] theorem setCirc_vsb (s : State) (c : Circ) (v : Circuit) : (s.setCirc c v).vsb = s.vsb := rfl

@[simp] theorem setCirc_storeValid (s : State) (c : Circ) (v : Circuit) : (s.setCirc c v).storeValid = s.storeValid := rfl

@[simp] theorem setCirc_scanDue (s : State) (c : Circ) (v : Circuit) : (s.setCirc c v).scanDue = s.scanDue := rfl

@[simp] theorem setCirc_boothTime (s : State) (c : Circ) (v : Circuit) : (s.setCirc c v).boothTime = s.boothTime := rfl

@[simp] theorem setCirc_tickCount (s : State) (c : Circ) (v : Circuit) : (s.setCirc c v).tickCount = s.tickCount := rfl

@[simp] theorem setCirc_stampSub (s : State) (c : Circ) (v : Circuit) : (s.setCirc c v).stampSub = s.stampSub := rfl

@[simp] theorem setCirc_stampTimer (s : State) (c : Circ) (v : Circuit) : (s.setCirc c v).stampTimer = s.stampTimer := rfl

@[simp] theorem setCirc_reels (s : State) (c : Circ) (v : Circuit) : (s.setCirc c v).reels = s.reels := rfl

@[simp] theorem setCirc_programs (s : State) (c : Circ) (v : Circuit) : (s.setCirc c v).programs = s.programs := rfl

@[simp] theorem setCirc_scenes (s : State) (c : Circ) (v : Circuit) : (s.setCirc c v).scenes = s.scenes := rfl

@[simp] theorem setCirc_contexts (s : State) (c : Circ) (v : Circuit) : (s.setCirc c v).contexts = s.contexts := rfl

@[simp] theorem setCirc_channels (s : State) (c : Circ) (v : Circuit) : (s.setCirc c v).channels = s.channels := rfl

@[simp] theorem setCirc_motionSettings (s : State) (c : Circ) (v : Circuit) : (s.setCirc c v).motionSettings = s.motionSettings := rfl

@[simp] theorem setCirc_seqs (s : State) (c : Circ) (v : Circuit) : (s.setCirc c v).seqs = s.seqs := rfl

@[simp] theorem setCirc_lamps (s : State) (c : Circ) (v : Circuit) : (s.setCirc c v).lamps = s.lamps := rfl

@[simp] theorem setCirc_budget (s : State) (c : Circ) (v : Circuit) : (s.setCirc c v).budget = s.budget := rfl

@[simp] theorem setCirc_floor (s : State) (c : Circ) (v : Circuit) : (s.setCirc c v).floor = s.floor := rfl

@[simp] theorem setCirc_fire (s : State) (c : Circ) (v : Circuit) : (s.setCirc c v).fire = s.fire := rfl

@[simp] theorem setCirc_lines (s : State) (c : Circ) (v : Circuit) : (s.setCirc c v).lines = s.lines := rfl

@[simp] theorem setCirc_pending (s : State) (c : Circ) (v : Circuit) : (s.setCirc c v).pending = s.pending := rfl

@[simp] theorem setCirc_ctx (s : State) (c : Circ) (v : Circuit) (q : Proj) : (s.setCirc c v).ctx q = s.ctx q := rfl

@[simp] theorem setCirc_chan (s : State) (c : Circ) (v : Circuit) (q : Proj) : (s.setCirc c v).chan q = s.chan q := rfl

@[simp] theorem setCirc_seq (s : State) (c : Circ) (v : Circuit) (m : Screen) : (s.setCirc c v).seq m = s.seq m := rfl

@[simp] theorem setCirc_lamp (s : State) (c : Circ) (v : Circuit) (q : Proj) : (s.setCirc c v).lamp q = s.lamp q := rfl

@[simp] theorem setCirc_line (s : State) (c : Circ) (v : Circuit) (k : Line) : (s.setCirc c v).line k = s.line k := rfl

@[simp] theorem setLine_supply (s : State) (l : Line) (v : LineState) : (s.setLine l v).supply = s.supply := rfl

@[simp] theorem setLine_resetPin (s : State) (l : Line) (v : LineState) : (s.setLine l v).resetPin = s.resetPin := rfl

@[simp] theorem setLine_vsb (s : State) (l : Line) (v : LineState) : (s.setLine l v).vsb = s.vsb := rfl

@[simp] theorem setLine_storeValid (s : State) (l : Line) (v : LineState) : (s.setLine l v).storeValid = s.storeValid := rfl

@[simp] theorem setLine_scanDue (s : State) (l : Line) (v : LineState) : (s.setLine l v).scanDue = s.scanDue := rfl

@[simp] theorem setLine_boothTime (s : State) (l : Line) (v : LineState) : (s.setLine l v).boothTime = s.boothTime := rfl

@[simp] theorem setLine_tickCount (s : State) (l : Line) (v : LineState) : (s.setLine l v).tickCount = s.tickCount := rfl

@[simp] theorem setLine_stampSub (s : State) (l : Line) (v : LineState) : (s.setLine l v).stampSub = s.stampSub := rfl

@[simp] theorem setLine_stampTimer (s : State) (l : Line) (v : LineState) : (s.setLine l v).stampTimer = s.stampTimer := rfl

@[simp] theorem setLine_reels (s : State) (l : Line) (v : LineState) : (s.setLine l v).reels = s.reels := rfl

@[simp] theorem setLine_programs (s : State) (l : Line) (v : LineState) : (s.setLine l v).programs = s.programs := rfl

@[simp] theorem setLine_scenes (s : State) (l : Line) (v : LineState) : (s.setLine l v).scenes = s.scenes := rfl

@[simp] theorem setLine_contexts (s : State) (l : Line) (v : LineState) : (s.setLine l v).contexts = s.contexts := rfl

@[simp] theorem setLine_channels (s : State) (l : Line) (v : LineState) : (s.setLine l v).channels = s.channels := rfl

@[simp] theorem setLine_motionSettings (s : State) (l : Line) (v : LineState) : (s.setLine l v).motionSettings = s.motionSettings := rfl

@[simp] theorem setLine_seqs (s : State) (l : Line) (v : LineState) : (s.setLine l v).seqs = s.seqs := rfl

@[simp] theorem setLine_lamps (s : State) (l : Line) (v : LineState) : (s.setLine l v).lamps = s.lamps := rfl

@[simp] theorem setLine_budget (s : State) (l : Line) (v : LineState) : (s.setLine l v).budget = s.budget := rfl

@[simp] theorem setLine_circuits (s : State) (l : Line) (v : LineState) : (s.setLine l v).circuits = s.circuits := rfl

@[simp] theorem setLine_floor (s : State) (l : Line) (v : LineState) : (s.setLine l v).floor = s.floor := rfl

@[simp] theorem setLine_fire (s : State) (l : Line) (v : LineState) : (s.setLine l v).fire = s.fire := rfl

@[simp] theorem setLine_pending (s : State) (l : Line) (v : LineState) : (s.setLine l v).pending = s.pending := rfl

@[simp] theorem setLine_ctx (s : State) (l : Line) (v : LineState) (q : Proj) : (s.setLine l v).ctx q = s.ctx q := rfl

@[simp] theorem setLine_chan (s : State) (l : Line) (v : LineState) (q : Proj) : (s.setLine l v).chan q = s.chan q := rfl

@[simp] theorem setLine_seq (s : State) (l : Line) (v : LineState) (m : Screen) : (s.setLine l v).seq m = s.seq m := rfl

@[simp] theorem setLine_lamp (s : State) (l : Line) (v : LineState) (q : Proj) : (s.setLine l v).lamp q = s.lamp q := rfl

@[simp] theorem setLine_circ (s : State) (l : Line) (v : LineState) (d : Circ) : (s.setLine l v).circ d = s.circ d := rfl

@[simp] theorem modBudget_supply (s : State) (f : Budget → Budget) : (s.modBudget f).supply = s.supply := rfl

@[simp] theorem modBudget_resetPin (s : State) (f : Budget → Budget) : (s.modBudget f).resetPin = s.resetPin := rfl

@[simp] theorem modBudget_vsb (s : State) (f : Budget → Budget) : (s.modBudget f).vsb = s.vsb := rfl

@[simp] theorem modBudget_storeValid (s : State) (f : Budget → Budget) : (s.modBudget f).storeValid = s.storeValid := rfl

@[simp] theorem modBudget_scanDue (s : State) (f : Budget → Budget) : (s.modBudget f).scanDue = s.scanDue := rfl

@[simp] theorem modBudget_boothTime (s : State) (f : Budget → Budget) : (s.modBudget f).boothTime = s.boothTime := rfl

@[simp] theorem modBudget_tickCount (s : State) (f : Budget → Budget) : (s.modBudget f).tickCount = s.tickCount := rfl

@[simp] theorem modBudget_stampSub (s : State) (f : Budget → Budget) : (s.modBudget f).stampSub = s.stampSub := rfl

@[simp] theorem modBudget_stampTimer (s : State) (f : Budget → Budget) : (s.modBudget f).stampTimer = s.stampTimer := rfl

@[simp] theorem modBudget_reels (s : State) (f : Budget → Budget) : (s.modBudget f).reels = s.reels := rfl

@[simp] theorem modBudget_programs (s : State) (f : Budget → Budget) : (s.modBudget f).programs = s.programs := rfl

@[simp] theorem modBudget_scenes (s : State) (f : Budget → Budget) : (s.modBudget f).scenes = s.scenes := rfl

@[simp] theorem modBudget_contexts (s : State) (f : Budget → Budget) : (s.modBudget f).contexts = s.contexts := rfl

@[simp] theorem modBudget_channels (s : State) (f : Budget → Budget) : (s.modBudget f).channels = s.channels := rfl

@[simp] theorem modBudget_motionSettings (s : State) (f : Budget → Budget) : (s.modBudget f).motionSettings = s.motionSettings := rfl

@[simp] theorem modBudget_seqs (s : State) (f : Budget → Budget) : (s.modBudget f).seqs = s.seqs := rfl

@[simp] theorem modBudget_lamps (s : State) (f : Budget → Budget) : (s.modBudget f).lamps = s.lamps := rfl

@[simp] theorem modBudget_circuits (s : State) (f : Budget → Budget) : (s.modBudget f).circuits = s.circuits := rfl

@[simp] theorem modBudget_floor (s : State) (f : Budget → Budget) : (s.modBudget f).floor = s.floor := rfl

@[simp] theorem modBudget_fire (s : State) (f : Budget → Budget) : (s.modBudget f).fire = s.fire := rfl

@[simp] theorem modBudget_lines (s : State) (f : Budget → Budget) : (s.modBudget f).lines = s.lines := rfl

@[simp] theorem modBudget_pending (s : State) (f : Budget → Budget) : (s.modBudget f).pending = s.pending := rfl

@[simp] theorem modBudget_ctx (s : State) (f : Budget → Budget) (q : Proj) : (s.modBudget f).ctx q = s.ctx q := rfl

@[simp] theorem modBudget_chan (s : State) (f : Budget → Budget) (q : Proj) : (s.modBudget f).chan q = s.chan q := rfl

@[simp] theorem modBudget_seq (s : State) (f : Budget → Budget) (m : Screen) : (s.modBudget f).seq m = s.seq m := rfl

@[simp] theorem modBudget_lamp (s : State) (f : Budget → Budget) (q : Proj) : (s.modBudget f).lamp q = s.lamp q := rfl

@[simp] theorem modBudget_circ (s : State) (f : Budget → Budget) (d : Circ) : (s.modBudget f).circ d = s.circ d := rfl

@[simp] theorem modBudget_line (s : State) (f : Budget → Budget) (k : Line) : (s.modBudget f).line k = s.line k := rfl

@[simp] theorem modFire_supply (s : State) (f : FireUnit → FireUnit) : (s.modFire f).supply = s.supply := rfl

@[simp] theorem modFire_resetPin (s : State) (f : FireUnit → FireUnit) : (s.modFire f).resetPin = s.resetPin := rfl

@[simp] theorem modFire_vsb (s : State) (f : FireUnit → FireUnit) : (s.modFire f).vsb = s.vsb := rfl

@[simp] theorem modFire_storeValid (s : State) (f : FireUnit → FireUnit) : (s.modFire f).storeValid = s.storeValid := rfl

@[simp] theorem modFire_scanDue (s : State) (f : FireUnit → FireUnit) : (s.modFire f).scanDue = s.scanDue := rfl

@[simp] theorem modFire_boothTime (s : State) (f : FireUnit → FireUnit) : (s.modFire f).boothTime = s.boothTime := rfl

@[simp] theorem modFire_tickCount (s : State) (f : FireUnit → FireUnit) : (s.modFire f).tickCount = s.tickCount := rfl

@[simp] theorem modFire_stampSub (s : State) (f : FireUnit → FireUnit) : (s.modFire f).stampSub = s.stampSub := rfl

@[simp] theorem modFire_stampTimer (s : State) (f : FireUnit → FireUnit) : (s.modFire f).stampTimer = s.stampTimer := rfl

@[simp] theorem modFire_reels (s : State) (f : FireUnit → FireUnit) : (s.modFire f).reels = s.reels := rfl

@[simp] theorem modFire_programs (s : State) (f : FireUnit → FireUnit) : (s.modFire f).programs = s.programs := rfl

@[simp] theorem modFire_scenes (s : State) (f : FireUnit → FireUnit) : (s.modFire f).scenes = s.scenes := rfl

@[simp] theorem modFire_contexts (s : State) (f : FireUnit → FireUnit) : (s.modFire f).contexts = s.contexts := rfl

@[simp] theorem modFire_channels (s : State) (f : FireUnit → FireUnit) : (s.modFire f).channels = s.channels := rfl

@[simp] theorem modFire_motionSettings (s : State) (f : FireUnit → FireUnit) : (s.modFire f).motionSettings = s.motionSettings := rfl

@[simp] theorem modFire_seqs (s : State) (f : FireUnit → FireUnit) : (s.modFire f).seqs = s.seqs := rfl

@[simp] theorem modFire_lamps (s : State) (f : FireUnit → FireUnit) : (s.modFire f).lamps = s.lamps := rfl

@[simp] theorem modFire_budget (s : State) (f : FireUnit → FireUnit) : (s.modFire f).budget = s.budget := rfl

@[simp] theorem modFire_circuits (s : State) (f : FireUnit → FireUnit) : (s.modFire f).circuits = s.circuits := rfl

@[simp] theorem modFire_floor (s : State) (f : FireUnit → FireUnit) : (s.modFire f).floor = s.floor := rfl

@[simp] theorem modFire_lines (s : State) (f : FireUnit → FireUnit) : (s.modFire f).lines = s.lines := rfl

@[simp] theorem modFire_pending (s : State) (f : FireUnit → FireUnit) : (s.modFire f).pending = s.pending := rfl

@[simp] theorem modFire_ctx (s : State) (f : FireUnit → FireUnit) (q : Proj) : (s.modFire f).ctx q = s.ctx q := rfl

@[simp] theorem modFire_chan (s : State) (f : FireUnit → FireUnit) (q : Proj) : (s.modFire f).chan q = s.chan q := rfl

@[simp] theorem modFire_seq (s : State) (f : FireUnit → FireUnit) (m : Screen) : (s.modFire f).seq m = s.seq m := rfl

@[simp] theorem modFire_lamp (s : State) (f : FireUnit → FireUnit) (q : Proj) : (s.modFire f).lamp q = s.lamp q := rfl

@[simp] theorem modFire_circ (s : State) (f : FireUnit → FireUnit) (d : Circ) : (s.modFire f).circ d = s.circ d := rfl

@[simp] theorem modFire_line (s : State) (f : FireUnit → FireUnit) (k : Line) : (s.modFire f).line k = s.line k := rfl

@[simp] theorem setReel_supply (s : State) (slot : Nat) (r : Option ReelRecord) : (s.setReel slot r).supply = s.supply := rfl

@[simp] theorem setReel_resetPin (s : State) (slot : Nat) (r : Option ReelRecord) : (s.setReel slot r).resetPin = s.resetPin := rfl

@[simp] theorem setReel_vsb (s : State) (slot : Nat) (r : Option ReelRecord) : (s.setReel slot r).vsb = s.vsb := rfl

@[simp] theorem setReel_storeValid (s : State) (slot : Nat) (r : Option ReelRecord) : (s.setReel slot r).storeValid = s.storeValid := rfl

@[simp] theorem setReel_scanDue (s : State) (slot : Nat) (r : Option ReelRecord) : (s.setReel slot r).scanDue = s.scanDue := rfl

@[simp] theorem setReel_boothTime (s : State) (slot : Nat) (r : Option ReelRecord) : (s.setReel slot r).boothTime = s.boothTime := rfl

@[simp] theorem setReel_tickCount (s : State) (slot : Nat) (r : Option ReelRecord) : (s.setReel slot r).tickCount = s.tickCount := rfl

@[simp] theorem setReel_stampSub (s : State) (slot : Nat) (r : Option ReelRecord) : (s.setReel slot r).stampSub = s.stampSub := rfl

@[simp] theorem setReel_stampTimer (s : State) (slot : Nat) (r : Option ReelRecord) : (s.setReel slot r).stampTimer = s.stampTimer := rfl

@[simp] theorem setReel_programs (s : State) (slot : Nat) (r : Option ReelRecord) : (s.setReel slot r).programs = s.programs := rfl

@[simp] theorem setReel_scenes (s : State) (slot : Nat) (r : Option ReelRecord) : (s.setReel slot r).scenes = s.scenes := rfl

@[simp] theorem setReel_contexts (s : State) (slot : Nat) (r : Option ReelRecord) : (s.setReel slot r).contexts = s.contexts := rfl

@[simp] theorem setReel_channels (s : State) (slot : Nat) (r : Option ReelRecord) : (s.setReel slot r).channels = s.channels := rfl

@[simp] theorem setReel_motionSettings (s : State) (slot : Nat) (r : Option ReelRecord) : (s.setReel slot r).motionSettings = s.motionSettings := rfl

@[simp] theorem setReel_seqs (s : State) (slot : Nat) (r : Option ReelRecord) : (s.setReel slot r).seqs = s.seqs := rfl

@[simp] theorem setReel_lamps (s : State) (slot : Nat) (r : Option ReelRecord) : (s.setReel slot r).lamps = s.lamps := rfl

@[simp] theorem setReel_budget (s : State) (slot : Nat) (r : Option ReelRecord) : (s.setReel slot r).budget = s.budget := rfl

@[simp] theorem setReel_circuits (s : State) (slot : Nat) (r : Option ReelRecord) : (s.setReel slot r).circuits = s.circuits := rfl

@[simp] theorem setReel_floor (s : State) (slot : Nat) (r : Option ReelRecord) : (s.setReel slot r).floor = s.floor := rfl

@[simp] theorem setReel_fire (s : State) (slot : Nat) (r : Option ReelRecord) : (s.setReel slot r).fire = s.fire := rfl

@[simp] theorem setReel_lines (s : State) (slot : Nat) (r : Option ReelRecord) : (s.setReel slot r).lines = s.lines := rfl

@[simp] theorem setReel_pending (s : State) (slot : Nat) (r : Option ReelRecord) : (s.setReel slot r).pending = s.pending := rfl

@[simp] theorem setReel_ctx (s : State) (slot : Nat) (r : Option ReelRecord) (q : Proj) : (s.setReel slot r).ctx q = s.ctx q := rfl

@[simp] theorem setReel_chan (s : State) (slot : Nat) (r : Option ReelRecord) (q : Proj) : (s.setReel slot r).chan q = s.chan q := rfl

@[simp] theorem setReel_seq (s : State) (slot : Nat) (r : Option ReelRecord) (m : Screen) : (s.setReel slot r).seq m = s.seq m := rfl

@[simp] theorem setReel_lamp (s : State) (slot : Nat) (r : Option ReelRecord) (q : Proj) : (s.setReel slot r).lamp q = s.lamp q := rfl

@[simp] theorem setReel_circ (s : State) (slot : Nat) (r : Option ReelRecord) (d : Circ) : (s.setReel slot r).circ d = s.circ d := rfl

@[simp] theorem setReel_line (s : State) (slot : Nat) (r : Option ReelRecord) (k : Line) : (s.setReel slot r).line k = s.line k := rfl

@[simp] theorem lamp_modLamp (s : State) (p q : Proj) (f : Lamp → Lamp) :
    (s.modLamp p f).lamp q = if q = p then f (s.lamp p) else s.lamp q := lamp_setLamp _ _ _ _

@[simp] theorem modLamp_supply (s : State) (p : Proj) (f : Lamp → Lamp) : (s.modLamp p f).supply = s.supply := rfl

@[simp] theorem modLamp_resetPin (s : State) (p : Proj) (f : Lamp → Lamp) : (s.modLamp p f).resetPin = s.resetPin := rfl

@[simp] theorem modLamp_vsb (s : State) (p : Proj) (f : Lamp → Lamp) : (s.modLamp p f).vsb = s.vsb := rfl

@[simp] theorem modLamp_storeValid (s : State) (p : Proj) (f : Lamp → Lamp) : (s.modLamp p f).storeValid = s.storeValid := rfl

@[simp] theorem modLamp_scanDue (s : State) (p : Proj) (f : Lamp → Lamp) : (s.modLamp p f).scanDue = s.scanDue := rfl

@[simp] theorem modLamp_boothTime (s : State) (p : Proj) (f : Lamp → Lamp) : (s.modLamp p f).boothTime = s.boothTime := rfl

@[simp] theorem modLamp_tickCount (s : State) (p : Proj) (f : Lamp → Lamp) : (s.modLamp p f).tickCount = s.tickCount := rfl

@[simp] theorem modLamp_stampSub (s : State) (p : Proj) (f : Lamp → Lamp) : (s.modLamp p f).stampSub = s.stampSub := rfl

@[simp] theorem modLamp_stampTimer (s : State) (p : Proj) (f : Lamp → Lamp) : (s.modLamp p f).stampTimer = s.stampTimer := rfl

@[simp] theorem modLamp_reels (s : State) (p : Proj) (f : Lamp → Lamp) : (s.modLamp p f).reels = s.reels := rfl

@[simp] theorem modLamp_programs (s : State) (p : Proj) (f : Lamp → Lamp) : (s.modLamp p f).programs = s.programs := rfl

@[simp] theorem modLamp_scenes (s : State) (p : Proj) (f : Lamp → Lamp) : (s.modLamp p f).scenes = s.scenes := rfl

@[simp] theorem modLamp_contexts (s : State) (p : Proj) (f : Lamp → Lamp) : (s.modLamp p f).contexts = s.contexts := rfl

@[simp] theorem modLamp_channels (s : State) (p : Proj) (f : Lamp → Lamp) : (s.modLamp p f).channels = s.channels := rfl

@[simp] theorem modLamp_motionSettings (s : State) (p : Proj) (f : Lamp → Lamp) : (s.modLamp p f).motionSettings = s.motionSettings := rfl

@[simp] theorem modLamp_seqs (s : State) (p : Proj) (f : Lamp → Lamp) : (s.modLamp p f).seqs = s.seqs := rfl

@[simp] theorem modLamp_budget (s : State) (p : Proj) (f : Lamp → Lamp) : (s.modLamp p f).budget = s.budget := rfl

@[simp] theorem modLamp_circuits (s : State) (p : Proj) (f : Lamp → Lamp) : (s.modLamp p f).circuits = s.circuits := rfl

@[simp] theorem modLamp_floor (s : State) (p : Proj) (f : Lamp → Lamp) : (s.modLamp p f).floor = s.floor := rfl

@[simp] theorem modLamp_fire (s : State) (p : Proj) (f : Lamp → Lamp) : (s.modLamp p f).fire = s.fire := rfl

@[simp] theorem modLamp_lines (s : State) (p : Proj) (f : Lamp → Lamp) : (s.modLamp p f).lines = s.lines := rfl

@[simp] theorem modLamp_pending (s : State) (p : Proj) (f : Lamp → Lamp) : (s.modLamp p f).pending = s.pending := rfl

@[simp] theorem modLamp_ctx (s : State) (p : Proj) (f : Lamp → Lamp) (q : Proj) : (s.modLamp p f).ctx q = s.ctx q := rfl

@[simp] theorem modLamp_chan (s : State) (p : Proj) (f : Lamp → Lamp) (q : Proj) : (s.modLamp p f).chan q = s.chan q := rfl

@[simp] theorem modLamp_seq (s : State) (p : Proj) (f : Lamp → Lamp) (m : Screen) : (s.modLamp p f).seq m = s.seq m := rfl

@[simp] theorem modLamp_circ (s : State) (p : Proj) (f : Lamp → Lamp) (d : Circ) : (s.modLamp p f).circ d = s.circ d := rfl

@[simp] theorem modLamp_line (s : State) (p : Proj) (f : Lamp → Lamp) (k : Line) : (s.modLamp p f).line k = s.line k := rfl

@[simp] theorem chan_modChan (s : State) (p q : Proj) (f : Channel → Channel) :
    (s.modChan p f).chan q = if q = p then f (s.chan p) else s.chan q := chan_setChan _ _ _ _

@[simp] theorem modChan_supply (s : State) (p : Proj) (f : Channel → Channel) : (s.modChan p f).supply = s.supply := rfl

@[simp] theorem modChan_resetPin (s : State) (p : Proj) (f : Channel → Channel) : (s.modChan p f).resetPin = s.resetPin := rfl

@[simp] theorem modChan_vsb (s : State) (p : Proj) (f : Channel → Channel) : (s.modChan p f).vsb = s.vsb := rfl

@[simp] theorem modChan_storeValid (s : State) (p : Proj) (f : Channel → Channel) : (s.modChan p f).storeValid = s.storeValid := rfl

@[simp] theorem modChan_scanDue (s : State) (p : Proj) (f : Channel → Channel) : (s.modChan p f).scanDue = s.scanDue := rfl

@[simp] theorem modChan_boothTime (s : State) (p : Proj) (f : Channel → Channel) : (s.modChan p f).boothTime = s.boothTime := rfl

@[simp] theorem modChan_tickCount (s : State) (p : Proj) (f : Channel → Channel) : (s.modChan p f).tickCount = s.tickCount := rfl

@[simp] theorem modChan_stampSub (s : State) (p : Proj) (f : Channel → Channel) : (s.modChan p f).stampSub = s.stampSub := rfl

@[simp] theorem modChan_stampTimer (s : State) (p : Proj) (f : Channel → Channel) : (s.modChan p f).stampTimer = s.stampTimer := rfl

@[simp] theorem modChan_reels (s : State) (p : Proj) (f : Channel → Channel) : (s.modChan p f).reels = s.reels := rfl

@[simp] theorem modChan_programs (s : State) (p : Proj) (f : Channel → Channel) : (s.modChan p f).programs = s.programs := rfl

@[simp] theorem modChan_scenes (s : State) (p : Proj) (f : Channel → Channel) : (s.modChan p f).scenes = s.scenes := rfl

@[simp] theorem modChan_contexts (s : State) (p : Proj) (f : Channel → Channel) : (s.modChan p f).contexts = s.contexts := rfl

@[simp] theorem modChan_motionSettings (s : State) (p : Proj) (f : Channel → Channel) : (s.modChan p f).motionSettings = s.motionSettings := rfl

@[simp] theorem modChan_seqs (s : State) (p : Proj) (f : Channel → Channel) : (s.modChan p f).seqs = s.seqs := rfl

@[simp] theorem modChan_lamps (s : State) (p : Proj) (f : Channel → Channel) : (s.modChan p f).lamps = s.lamps := rfl

@[simp] theorem modChan_budget (s : State) (p : Proj) (f : Channel → Channel) : (s.modChan p f).budget = s.budget := rfl

@[simp] theorem modChan_circuits (s : State) (p : Proj) (f : Channel → Channel) : (s.modChan p f).circuits = s.circuits := rfl

@[simp] theorem modChan_floor (s : State) (p : Proj) (f : Channel → Channel) : (s.modChan p f).floor = s.floor := rfl

@[simp] theorem modChan_fire (s : State) (p : Proj) (f : Channel → Channel) : (s.modChan p f).fire = s.fire := rfl

@[simp] theorem modChan_lines (s : State) (p : Proj) (f : Channel → Channel) : (s.modChan p f).lines = s.lines := rfl

@[simp] theorem modChan_pending (s : State) (p : Proj) (f : Channel → Channel) : (s.modChan p f).pending = s.pending := rfl

@[simp] theorem modChan_ctx (s : State) (p : Proj) (f : Channel → Channel) (q : Proj) : (s.modChan p f).ctx q = s.ctx q := rfl

@[simp] theorem modChan_seq (s : State) (p : Proj) (f : Channel → Channel) (m : Screen) : (s.modChan p f).seq m = s.seq m := rfl

@[simp] theorem modChan_lamp (s : State) (p : Proj) (f : Channel → Channel) (q : Proj) : (s.modChan p f).lamp q = s.lamp q := rfl

@[simp] theorem modChan_circ (s : State) (p : Proj) (f : Channel → Channel) (d : Circ) : (s.modChan p f).circ d = s.circ d := rfl

@[simp] theorem modChan_line (s : State) (p : Proj) (f : Channel → Channel) (k : Line) : (s.modChan p f).line k = s.line k := rfl

@[simp] theorem seq_modSeq (s : State) (n m : Screen) (f : Sequencer → Sequencer) :
    (s.modSeq n f).seq m = if m = n then f (s.seq n) else s.seq m := seq_setSeq _ _ _ _

@[simp] theorem modSeq_supply (s : State) (n : Screen) (f : Sequencer → Sequencer) : (s.modSeq n f).supply = s.supply := rfl

@[simp] theorem modSeq_resetPin (s : State) (n : Screen) (f : Sequencer → Sequencer) : (s.modSeq n f).resetPin = s.resetPin := rfl

@[simp] theorem modSeq_vsb (s : State) (n : Screen) (f : Sequencer → Sequencer) : (s.modSeq n f).vsb = s.vsb := rfl

@[simp] theorem modSeq_storeValid (s : State) (n : Screen) (f : Sequencer → Sequencer) : (s.modSeq n f).storeValid = s.storeValid := rfl

@[simp] theorem modSeq_scanDue (s : State) (n : Screen) (f : Sequencer → Sequencer) : (s.modSeq n f).scanDue = s.scanDue := rfl

@[simp] theorem modSeq_boothTime (s : State) (n : Screen) (f : Sequencer → Sequencer) : (s.modSeq n f).boothTime = s.boothTime := rfl

@[simp] theorem modSeq_tickCount (s : State) (n : Screen) (f : Sequencer → Sequencer) : (s.modSeq n f).tickCount = s.tickCount := rfl

@[simp] theorem modSeq_stampSub (s : State) (n : Screen) (f : Sequencer → Sequencer) : (s.modSeq n f).stampSub = s.stampSub := rfl

@[simp] theorem modSeq_stampTimer (s : State) (n : Screen) (f : Sequencer → Sequencer) : (s.modSeq n f).stampTimer = s.stampTimer := rfl

@[simp] theorem modSeq_reels (s : State) (n : Screen) (f : Sequencer → Sequencer) : (s.modSeq n f).reels = s.reels := rfl

@[simp] theorem modSeq_programs (s : State) (n : Screen) (f : Sequencer → Sequencer) : (s.modSeq n f).programs = s.programs := rfl

@[simp] theorem modSeq_scenes (s : State) (n : Screen) (f : Sequencer → Sequencer) : (s.modSeq n f).scenes = s.scenes := rfl

@[simp] theorem modSeq_contexts (s : State) (n : Screen) (f : Sequencer → Sequencer) : (s.modSeq n f).contexts = s.contexts := rfl

@[simp] theorem modSeq_channels (s : State) (n : Screen) (f : Sequencer → Sequencer) : (s.modSeq n f).channels = s.channels := rfl

@[simp] theorem modSeq_motionSettings (s : State) (n : Screen) (f : Sequencer → Sequencer) : (s.modSeq n f).motionSettings = s.motionSettings := rfl

@[simp] theorem modSeq_lamps (s : State) (n : Screen) (f : Sequencer → Sequencer) : (s.modSeq n f).lamps = s.lamps := rfl

@[simp] theorem modSeq_budget (s : State) (n : Screen) (f : Sequencer → Sequencer) : (s.modSeq n f).budget = s.budget := rfl

@[simp] theorem modSeq_circuits (s : State) (n : Screen) (f : Sequencer → Sequencer) : (s.modSeq n f).circuits = s.circuits := rfl

@[simp] theorem modSeq_floor (s : State) (n : Screen) (f : Sequencer → Sequencer) : (s.modSeq n f).floor = s.floor := rfl

@[simp] theorem modSeq_fire (s : State) (n : Screen) (f : Sequencer → Sequencer) : (s.modSeq n f).fire = s.fire := rfl

@[simp] theorem modSeq_lines (s : State) (n : Screen) (f : Sequencer → Sequencer) : (s.modSeq n f).lines = s.lines := rfl

@[simp] theorem modSeq_pending (s : State) (n : Screen) (f : Sequencer → Sequencer) : (s.modSeq n f).pending = s.pending := rfl

@[simp] theorem modSeq_ctx (s : State) (n : Screen) (f : Sequencer → Sequencer) (q : Proj) : (s.modSeq n f).ctx q = s.ctx q := rfl

@[simp] theorem modSeq_chan (s : State) (n : Screen) (f : Sequencer → Sequencer) (q : Proj) : (s.modSeq n f).chan q = s.chan q := rfl

@[simp] theorem modSeq_lamp (s : State) (n : Screen) (f : Sequencer → Sequencer) (q : Proj) : (s.modSeq n f).lamp q = s.lamp q := rfl

@[simp] theorem modSeq_circ (s : State) (n : Screen) (f : Sequencer → Sequencer) (d : Circ) : (s.modSeq n f).circ d = s.circ d := rfl

@[simp] theorem modSeq_line (s : State) (n : Screen) (f : Sequencer → Sequencer) (k : Line) : (s.modSeq n f).line k = s.line k := rfl

@[simp] theorem circ_modCirc (s : State) (c d : Circ) (f : Circuit → Circuit) :
    (s.modCirc c f).circ d = if d = c then f (s.circ c) else s.circ d := circ_setCirc _ _ _ _

@[simp] theorem modCirc_supply (s : State) (c : Circ) (f : Circuit → Circuit) : (s.modCirc c f).supply = s.supply := rfl

@[simp] theorem modCirc_resetPin (s : State) (c : Circ) (f : Circuit → Circuit) : (s.modCirc c f).resetPin = s.resetPin := rfl

@[simp] theorem modCirc_vsb (s : State) (c : Circ) (f : Circuit → Circuit) : (s.modCirc c f).vsb = s.vsb := rfl

@[simp] theorem modCirc_storeValid (s : State) (c : Circ) (f : Circuit → Circuit) : (s.modCirc c f).storeValid = s.storeValid := rfl

@[simp] theorem modCirc_scanDue (s : State) (c : Circ) (f : Circuit → Circuit) : (s.modCirc c f).scanDue = s.scanDue := rfl

@[simp] theorem modCirc_boothTime (s : State) (c : Circ) (f : Circuit → Circuit) : (s.modCirc c f).boothTime = s.boothTime := rfl

@[simp] theorem modCirc_tickCount (s : State) (c : Circ) (f : Circuit → Circuit) : (s.modCirc c f).tickCount = s.tickCount := rfl

@[simp] theorem modCirc_stampSub (s : State) (c : Circ) (f : Circuit → Circuit) : (s.modCirc c f).stampSub = s.stampSub := rfl

@[simp] theorem modCirc_stampTimer (s : State) (c : Circ) (f : Circuit → Circuit) : (s.modCirc c f).stampTimer = s.stampTimer := rfl

@[simp] theorem modCirc_reels (s : State) (c : Circ) (f : Circuit → Circuit) : (s.modCirc c f).reels = s.reels := rfl

@[simp] theorem modCirc_programs (s : State) (c : Circ) (f : Circuit → Circuit) : (s.modCirc c f).programs = s.programs := rfl

@[simp] theorem modCirc_scenes (s : State) (c : Circ) (f : Circuit → Circuit) : (s.modCirc c f).scenes = s.scenes := rfl

@[simp] theorem modCirc_contexts (s : State) (c : Circ) (f : Circuit → Circuit) : (s.modCirc c f).contexts = s.contexts := rfl

@[simp] theorem modCirc_channels (s : State) (c : Circ) (f : Circuit → Circuit) : (s.modCirc c f).channels = s.channels := rfl

@[simp] theorem modCirc_motionSettings (s : State) (c : Circ) (f : Circuit → Circuit) : (s.modCirc c f).motionSettings = s.motionSettings := rfl

@[simp] theorem modCirc_seqs (s : State) (c : Circ) (f : Circuit → Circuit) : (s.modCirc c f).seqs = s.seqs := rfl

@[simp] theorem modCirc_lamps (s : State) (c : Circ) (f : Circuit → Circuit) : (s.modCirc c f).lamps = s.lamps := rfl

@[simp] theorem modCirc_budget (s : State) (c : Circ) (f : Circuit → Circuit) : (s.modCirc c f).budget = s.budget := rfl

@[simp] theorem modCirc_floor (s : State) (c : Circ) (f : Circuit → Circuit) : (s.modCirc c f).floor = s.floor := rfl

@[simp] theorem modCirc_fire (s : State) (c : Circ) (f : Circuit → Circuit) : (s.modCirc c f).fire = s.fire := rfl

@[simp] theorem modCirc_lines (s : State) (c : Circ) (f : Circuit → Circuit) : (s.modCirc c f).lines = s.lines := rfl

@[simp] theorem modCirc_pending (s : State) (c : Circ) (f : Circuit → Circuit) : (s.modCirc c f).pending = s.pending := rfl

@[simp] theorem modCirc_ctx (s : State) (c : Circ) (f : Circuit → Circuit) (q : Proj) : (s.modCirc c f).ctx q = s.ctx q := rfl

@[simp] theorem modCirc_chan (s : State) (c : Circ) (f : Circuit → Circuit) (q : Proj) : (s.modCirc c f).chan q = s.chan q := rfl

@[simp] theorem modCirc_seq (s : State) (c : Circ) (f : Circuit → Circuit) (m : Screen) : (s.modCirc c f).seq m = s.seq m := rfl

@[simp] theorem modCirc_lamp (s : State) (c : Circ) (f : Circuit → Circuit) (q : Proj) : (s.modCirc c f).lamp q = s.lamp q := rfl

@[simp] theorem modCirc_line (s : State) (c : Circ) (f : Circuit → Circuit) (k : Line) : (s.modCirc c f).line k = s.line k := rfl

@[simp] theorem line_modLine (s : State) (l k : Line) (f : LineState → LineState) :
    (s.modLine l f).line k = if k = l then f (s.line l) else s.line k := line_setLine _ _ _ _

@[simp] theorem modLine_supply (s : State) (l : Line) (f : LineState → LineState) : (s.modLine l f).supply = s.supply := rfl

@[simp] theorem modLine_resetPin (s : State) (l : Line) (f : LineState → LineState) : (s.modLine l f).resetPin = s.resetPin := rfl

@[simp] theorem modLine_vsb (s : State) (l : Line) (f : LineState → LineState) : (s.modLine l f).vsb = s.vsb := rfl

@[simp] theorem modLine_storeValid (s : State) (l : Line) (f : LineState → LineState) : (s.modLine l f).storeValid = s.storeValid := rfl

@[simp] theorem modLine_scanDue (s : State) (l : Line) (f : LineState → LineState) : (s.modLine l f).scanDue = s.scanDue := rfl

@[simp] theorem modLine_boothTime (s : State) (l : Line) (f : LineState → LineState) : (s.modLine l f).boothTime = s.boothTime := rfl

@[simp] theorem modLine_tickCount (s : State) (l : Line) (f : LineState → LineState) : (s.modLine l f).tickCount = s.tickCount := rfl

@[simp] theorem modLine_stampSub (s : State) (l : Line) (f : LineState → LineState) : (s.modLine l f).stampSub = s.stampSub := rfl

@[simp] theorem modLine_stampTimer (s : State) (l : Line) (f : LineState → LineState) : (s.modLine l f).stampTimer = s.stampTimer := rfl

@[simp] theorem modLine_reels (s : State) (l : Line) (f : LineState → LineState) : (s.modLine l f).reels = s.reels := rfl

@[simp] theorem modLine_programs (s : State) (l : Line) (f : LineState → LineState) : (s.modLine l f).programs = s.programs := rfl

@[simp] theorem modLine_scenes (s : State) (l : Line) (f : LineState → LineState) : (s.modLine l f).scenes = s.scenes := rfl

@[simp] theorem modLine_contexts (s : State) (l : Line) (f : LineState → LineState) : (s.modLine l f).contexts = s.contexts := rfl

@[simp] theorem modLine_channels (s : State) (l : Line) (f : LineState → LineState) : (s.modLine l f).channels = s.channels := rfl

@[simp] theorem modLine_motionSettings (s : State) (l : Line) (f : LineState → LineState) : (s.modLine l f).motionSettings = s.motionSettings := rfl

@[simp] theorem modLine_seqs (s : State) (l : Line) (f : LineState → LineState) : (s.modLine l f).seqs = s.seqs := rfl

@[simp] theorem modLine_lamps (s : State) (l : Line) (f : LineState → LineState) : (s.modLine l f).lamps = s.lamps := rfl

@[simp] theorem modLine_budget (s : State) (l : Line) (f : LineState → LineState) : (s.modLine l f).budget = s.budget := rfl

@[simp] theorem modLine_circuits (s : State) (l : Line) (f : LineState → LineState) : (s.modLine l f).circuits = s.circuits := rfl

@[simp] theorem modLine_floor (s : State) (l : Line) (f : LineState → LineState) : (s.modLine l f).floor = s.floor := rfl

@[simp] theorem modLine_fire (s : State) (l : Line) (f : LineState → LineState) : (s.modLine l f).fire = s.fire := rfl

@[simp] theorem modLine_pending (s : State) (l : Line) (f : LineState → LineState) : (s.modLine l f).pending = s.pending := rfl

@[simp] theorem modLine_ctx (s : State) (l : Line) (f : LineState → LineState) (q : Proj) : (s.modLine l f).ctx q = s.ctx q := rfl

@[simp] theorem modLine_chan (s : State) (l : Line) (f : LineState → LineState) (q : Proj) : (s.modLine l f).chan q = s.chan q := rfl

@[simp] theorem modLine_seq (s : State) (l : Line) (f : LineState → LineState) (m : Screen) : (s.modLine l f).seq m = s.seq m := rfl

@[simp] theorem modLine_lamp (s : State) (l : Line) (f : LineState → LineState) (q : Proj) : (s.modLine l f).lamp q = s.lamp q := rfl

@[simp] theorem modLine_circ (s : State) (l : Line) (f : LineState → LineState) (d : Circ) : (s.modLine l f).circ d = s.circ d := rfl

@[simp] theorem budget_modBudget (s : State) (f : Budget → Budget) : (s.modBudget f).budget = f s.budget := rfl

@[simp] theorem fire_modFire (s : State) (f : FireUnit → FireUnit) : (s.modFire f).fire = f s.fire := rfl

end Machine

end Sys2Proof
end

