-- ==== Sys2Proof/Laws/Still.lean ====
section
/-! SUPPORT. What the end of an event leaves as it stands. `State.still` gathers it; each shared operation that the end of an
event may make has one lemma, and `settle_still` is the lemma a proof about a command cites. -/

namespace Sys2Proof.Machine

/-! ## One entry of `still` -/

theorem still_lamp {s t : State} (h : s.still = t.still) (p : Proj) : (s.lamp p).still = (t.lamp p).still := by
  have := congrArg (fun x => (x.lamps.get p.screen).get p.side) h
  simpa [State.still, State.lamp] using this

theorem still_chan {s t : State} (h : s.still = t.still) (p : Proj) : (s.chan p).still = (t.chan p).still := by
  have := congrArg (fun x => (x.channels.get p.screen).get p.side) h
  simpa [State.still, State.chan] using this

theorem still_ctx {s t : State} (h : s.still = t.still) (p : Proj) :
    (s.ctx p).map Context.still = (t.ctx p).map Context.still := by
  have := congrArg (fun x => (x.contexts.get p.screen).get p.side) h
  simpa [State.still, State.ctx] using this

theorem still_circ {s t : State} (h : s.still = t.still) (c : Circ) : (s.circ c).still = (t.circ c).still := by
  have := congrArg (fun x => (x.circuits.get c.screen).get c.kind) h
  simpa [State.still, State.circ] using this

theorem still_line {s t : State} (h : s.still = t.still) (l : Line) : (s.line l).still = (t.line l).still := by
  have := congrArg (fun x => x.lines.get l) h
  cases l <;> simpa [State.still, State.line, PerLine.get] using this

theorem still_seq {s t : State} (h : s.still = t.still) (n : Screen) : (s.seq n).still = (t.seq n).still := by
  have := congrArg (fun x => x.seqs.get n) h
  simpa [State.still, State.seq] using this

theorem still_budget {s t : State} (h : s.still = t.still) : s.budget.still = t.budget.still := congrArg Still.budget h

theorem still_base {s t : State} (h : s.still = t.still) : s.base = t.base := congrArg Still.base h

theorem still_running {s t : State} (h : s.still = t.still) : s.running = t.running := by
  have h1 : s.supply = t.supply := congrArg (fun x => x.base.supply) h
  have h2 : s.resetPin = t.resetPin := congrArg (fun x => x.base.resetPin) h
  simp [State.running, h1, h2]

/-! ## The updates -/

theorem setLamp_still (s : State) (p : Proj) (v : Lamp) (h : v.still = (s.lamp p).still) : (s.setLamp p v).still = s.still := by
  obtain ⟨n, x⟩ := p
  simp only [State.lamp] at h
  cases n <;> cases x <;> simp_all [State.still, State.setLamp, State.base, Quad.set, Quad.get, Quad.map, Pair.set, Pair.get, Pair.map]

theorem setChan_still (s : State) (p : Proj) (v : Channel) (h : v.still = (s.chan p).still) :
    (s.setChan p v).still = s.still := by
  obtain ⟨n, x⟩ := p
  simp only [State.chan] at h
  cases n <;> cases x <;> simp_all [State.still, State.setChan, State.base, Quad.set, Quad.get, Quad.map, Pair.set, Pair.get, Pair.map]

theorem setCtx_still (s : State) (p : Proj) (v : Option Context) (h : v.map Context.still = (s.ctx p).map Context.still) :
    (s.setCtx p v).still = s.still := by
  obtain ⟨n, x⟩ := p
  simp only [State.ctx] at h
  cases n <;> cases x <;> simp_all [State.still, State.setCtx, State.base, Quad.set, Quad.get, Quad.map, Pair.set, Pair.get, Pair.map]

theorem setCirc_still (s : State) (c : Circ) (v : Circuit) (h : v.still = (s.circ c).still) : (s.setCirc c v).still = s.still := by
  obtain ⟨n, x⟩ := c
  simp only [State.circ] at h
  cases n <;> cases x <;> simp_all [State.still, State.setCirc, State.base, Quad.set, Quad.get, Quad.map, Duo.set, Duo.get, Duo.map]

theorem setSeq_still (s : State) (n : Screen) (v : Sequencer) (h : v.still = (s.seq n).still) : (s.setSeq n v).still = s.still := by
  simp only [State.seq] at h
  cases n <;> simp_all [State.still, State.setSeq, State.base, Quad.set, Quad.get, Quad.map]

theorem setLine_still (s : State) (l : Line) (v : LineState) (h : v.still = (s.line l).still) : (s.setLine l v).still = s.still := by
  simp only [State.line] at h
  cases l with
  | house => simp_all [State.still, State.setLine, State.base, PerLine.set, PerLine.get]
  | screen n => cases n <;> simp_all [State.still, State.setLine, State.base, PerLine.set, PerLine.get, Quad.set, Quad.get, Quad.map]

@[simp] theorem modLamp_still (s : State) (p : Proj) (f : Lamp → Lamp) (h : ∀ x, (f x).still = x.still) :
    (s.modLamp p f).still = s.still := setLamp_still _ _ _ (h _)

@[simp] theorem modChan_still (s : State) (p : Proj) (f : Channel → Channel) (h : ∀ x, (f x).still = x.still) :
    (s.modChan p f).still = s.still := setChan_still _ _ _ (h _)

@[simp] theorem modSeq_still (s : State) (n : Screen) (f : Sequencer → Sequencer) (h : ∀ x, (f x).still = x.still) :
    (s.modSeq n f).still = s.still := setSeq_still _ _ _ (h _)

@[simp] theorem modCirc_still (s : State) (c : Circ) (f : Circuit → Circuit) (h : ∀ x, (f x).still = x.still) :
    (s.modCirc c f).still = s.still := setCirc_still _ _ _ (h _)

@[simp] theorem modLine_still (s : State) (l : Line) (f : LineState → LineState) (h : ∀ x, (f x).still = x.still) :
    (s.modLine l f).still = s.still := setLine_still _ _ _ (h _)

@[simp] theorem modBudget_still (s : State) (f : Budget → Budget) (h : (f s.budget).still = s.budget.still) :
    (s.modBudget f).still = s.still := by
  simp [State.still, State.modBudget, State.base, h]

theorem forEach_still {α : Type} (names : List α) (f : α → State → State) (h : ∀ x t, (f x t).still = t.still) (s : State) :
    (forEach names f s).still = s.still := by
  unfold forEach
  induction names generalizing s with
  | nil => rfl
  | cons x xs ih => simp only [List.foldl_cons]; rw [ih, h]

/-! ## Lines -/

theorem kick_still (l : LineState) : l.kick.still = l.still := by
  unfold LineState.kick
  split
  · rfl
  · rename_i h
    split <;> simp_all [LineState.still, LineState.outgoing]

theorem addNotice_still (l : LineState) (n : Notice) : (l.addNotice n).still = l.still := by
  unfold LineState.addNotice LineState.addFireNotice LineState.addPlainNotice
  split_ifs <;> rfl

@[simp] theorem notify_still (l : Line) (b : NoticeBody) (s : State) : (notify l b s).still = s.still := by
  exact modLine_still _ _ _ (fun x => by rw [kick_still, addNotice_still])

@[simp] theorem notifyScreen_still (n : Screen) (b : NoticeBody) (s : State) : (notifyScreen n b s).still = s.still :=
  notify_still _ _ _

@[simp] theorem notifyScreenAndHouse_still (n : Screen) (b : NoticeBody) (s : State) :
    (notifyScreenAndHouse n b s).still = s.still := by simp [notifyScreenAndHouse]

@[simp] theorem notifyAll_still (b : NoticeBody) (s : State) : (notifyAll b s).still = s.still :=
  forEach_still _ _ (fun l t => notify_still l b t) s

/-! ## Lights -/

theorem Circuit.settled_still (c : Circuit) : c.settled.still = c.still := by
  cases c with
  | mk rest fb fl fault manual program winner fade engine =>
    cases manual <;> cases program <;> rfl

theorem startFade_still (c : Circ) (s : State) : (startFade c s).still = s.still := by
  unfold startFade
  dsimp only
  split <;> simp

theorem judgeCircuit_still (c : Circ) (s : State) : (judgeCircuit c s).still = s.still := by
  unfold judgeCircuit
  rw [modCirc_still _ _ _ Circuit.settled_still]
  split_ifs
  · exact startFade_still c s
  · rfl

@[simp] theorem judgeLights_still (s : State) : (judgeLights s).still = s.still :=
  forEach_still _ _ judgeCircuit_still s

theorem everyCircuit_still (f : Circuit → Circuit) (h : ∀ c, (f c).still = c.still) (s : State) :
    (everyCircuit f s).still = s.still := by
  simp [State.still, everyCircuit, State.base, Quad.map, Duo.map, h]

theorem Circuit.markFilm_still (c : Circuit) (p : Proj) : (c.markFilm p).still = c.still := by
  unfold Circuit.markFilm
  split
  · rfl
  · split
    · rfl
    · split_ifs <;> rfl

@[simp] theorem faultTakes_still (n : Screen) (s : State) : (faultTakes n s).still = s.still := by
  simp [faultTakes, placeBoth, placeClaim, Circuit.put]

/-! ## Motors -/

@[simp] theorem setMotion_still (p : Proj) (m : Motion) (s : State) : (setMotion p m s).still = s.still := by
  unfold setMotion
  dsimp only
  split_ifs
  · rfl
  · simp
  · rw [everyCircuit_still _ (fun c => c.markFilm_still p)]; simp

@[simp] theorem motorOn_still (p : Proj) (s : State) : (motorOn p s).still = s.still := by
  unfold motorOn
  dsimp only
  split_ifs <;> simp [Channel.clearRing]

@[simp] theorem motorOff_still (p : Proj) (s : State) : (motorOff p s).still = s.still := by
  unfold motorOff
  dsimp only
  split_ifs <;> simp

/-! ## The budget's queue and the lamps -/

@[simp] theorem askExamine_still (s : State) : (askExamine s).still = s.still := modBudget_still _ _ rfl

@[simp] theorem newEntry_still (p : Proj) (d : BoothTime) (held : Bool) (s : State) : (newEntry p d held s).still = s.still :=
  modBudget_still _ _ rfl

@[simp] theorem budgetRequest_still (p : Proj) (d : BoothTime) (s : State) : (budgetRequest p d s).still = s.still := by
  unfold budgetRequest
  split_ifs
  · rfl
  · split
    · simp
    · split_ifs <;> simp

@[simp] theorem withdrawEntry_still (p : Proj) (s : State) : (withdrawEntry p s).still = s.still := by
  unfold withdrawEntry
  dsimp only
  split_ifs <;> simp

@[simp] theorem withdrawRequest_still (p : Proj) (s : State) : (withdrawRequest p s).still = s.still := by
  unfold withdrawRequest
  split
  · rfl
  · rw [modLamp_still, withdrawEntry_still]
    intro l
    split <;> rfl

@[simp] theorem quenchLamp_still (p : Proj) (s : State) : (quenchLamp p s).still = s.still := by
  unfold quenchLamp
  split <;> simp [Lamp.quenched]

@[simp] theorem delayedQuench_still (p : Proj) (s : State) : (delayedQuench p s).still = s.still := by
  unfold delayedQuench
  split <;> try split_ifs
  all_goals simp

@[simp] theorem setRunning_still (p : Proj) (s : State) : (setRunning p s).still = s.still := by
  unfold setRunning
  split <;> simp

@[simp] theorem strikeRequest_still (p : Proj) (x : Target) (d : BoothTime) (s : State) :
    (strikeRequest p x d s).still = s.still := by
  unfold strikeRequest
  by_cases h : s.fire.on
  · rw [if_pos h]
  · rw [if_neg h]
    cases hl : (s.lamp p).st <;> dsimp only
    case dark => split_ifs <;> simp
    all_goals simp

/-! ## Sequencers -/

@[simp] theorem modRecord_still (n : Screen) (f : Changeover → Changeover) (s : State) : (modRecord n f s).still = s.still := by
  simp [modRecord]

@[simp] theorem setRole_still (p : Proj) (r : Role) (s : State) : (setRole p r s).still = s.still := by
  simp [setRole, Sequencer.setRole]

@[simp] theorem setDemand_still (p : Proj) (d : Demand) (s : State) : (setDemand p d s).still = s.still := by
  simp [setDemand]

@[simp] theorem demandOnly_still (p : Proj) (s : State) : (demandOnly p s).still = s.still := by simp [demandOnly]

@[simp] theorem setSound_still (n : Screen) (x : Sound) (s : State) : (setSound n x s).still = s.still := by
  simp [setSound]

@[simp] theorem commit_still (p : Proj) (s : State) : (commit p s).still = s.still := by
  unfold commit
  split
  · rename_i c h
    exact setCtx_still _ _ _ (by rw [h]; rfl)
  · rfl

@[simp] theorem recordToNone_still (n : Screen) (s : State) : (recordToNone n s).still = s.still := by
  unfold recordToNone recordToNoneSparing
  split
  · rfl
  · dsimp only
    split_ifs <;> simp [undoIncoming]

@[simp] theorem strikeAction_still (n : Screen) (s : State) : (strikeAction n s).still = s.still := by
  unfold strikeAction
  split
  · rfl
  · dsimp only
    split <;> try split_ifs
    all_goals simp

@[simp] theorem strikeIfReached_still (n : Screen) (s : State) : (strikeIfReached n s).still = s.still := by
  unfold strikeIfReached
  split
  · split_ifs <;> simp
  · rfl

@[simp] theorem takeMotorCue_still (n : Screen) (c : CueTake) (s : State) : (takeMotorCue n c s).still = s.still := by
  unfold takeMotorCue
  dsimp only
  split
  · simp
  · split_ifs <;> simp

@[simp] theorem examineArming_still (n : Screen) (s : State) : (examineArming n s).still = s.still := by
  unfold examineArming
  split
  · rfl
  · dsimp only
    split_ifs <;> simp

@[simp] theorem switchOver_still (n : Screen) (late : Bool) (s : State) : (switchOver n late s).still = s.still := by
  unfold switchOver
  split
  · rfl
  · simp

@[simp] theorem haltScreen_still (n : Screen) (r : HaltReason) (p : Option Proj) (s : State) :
    (haltScreen n r p s).still = s.still := by
  unfold haltScreen
  split_ifs
  · rfl
  · have h (q : Sequencer) : (q.halted r p).still = q.still := by
      unfold Sequencer.halted
      dsimp only
      split_ifs <;> rfl
    simp [h]

@[simp] theorem stopFilm_still (p : Proj) (s : State) : (stopFilm p s).still = s.still := by
  unfold stopFilm
  dsimp only
  split_ifs
  · split <;> simp
  · simp

@[simp] theorem haltLamp_still (r : HaltReason) (p : Proj) (s : State) : (haltLamp r p s).still = s.still := by
  unfold haltLamp
  dsimp only
  split_ifs
  · rfl
  · rw [recordToNone_still]
    split <;> simp

@[simp] theorem onReclaim_still (p : Proj) (s : State) : (onReclaim p s).still = s.still := by
  unfold onReclaim
  split_ifs <;> simp

@[simp] theorem onStrikeFailed_still (p : Proj) (s : State) : (onStrikeFailed p s).still = s.still := by
  unfold onStrikeFailed
  split
  · simp
  · simp
  · split_ifs <;> simp

/-! ## Strikes and the examination of the queue -/

@[simp] theorem faultLamp_still (p : Proj) (c : FaultCause) (s : State) : (faultLamp p c s).still = s.still := by
  simp [faultLamp, Lamp.faulted]

@[simp] theorem failStrike_still (p : Proj) (c : FaultCause) (s : State) : (failStrike p c s).still = s.still := by
  simp [failStrike]

@[simp] theorem beginAttempt_still (p : Proj) (s : State) : (beginAttempt p s).still = s.still := by
  unfold beginAttempt
  split_ifs <;> simp

@[simp] theorem grant_still (e : Entry) (s : State) : (grant e s).still = s.still := by
  simp [grant, Lamp.granted]

@[simp] theorem reclaim_still (p : Proj) (h : Option Proj) (s : State) : (reclaim p h s).still = s.still := by
  have hn (d : BoothTime) (t : State) : (notifyReclaimed p d h t).still = t.still := by
    unfold notifyReclaimed
    dsimp only
    split
    · split_ifs <;> simp
    · simp
  simp [reclaim, hn]

@[simp] theorem examineQueue_still (k : Nat) (s : State) : (examineQueue k s).still = s.still := by
  induction k generalizing s with
  | zero => rw [examineQueue]
  | succ k ih =>
    cases hq : s.budget.queue with
    | nil => simp [examineQueue, hq]
    | cons e rest =>
      rw [examineQueue.eq_def]
      simp only [hq]
      split_ifs
      · rfl
      · simp [ih]
      · split <;> simp [ih]
      · rfl

@[simp] theorem markLead_still (s : State) : (markLead s).still = s.still := modBudget_still _ _ rfl

@[simp] theorem examineBudget_still (s : State) : (examineBudget s).still = s.still := by
  unfold examineBudget restoreBudget
  split_ifs <;> simp

@[simp] theorem lateStrike_still (p : Proj) (s : State) : (lateStrike p s).still = s.still := by
  unfold lateStrike
  split
  · split_ifs <;> simp
  · rfl

@[simp] theorem overdraftReclaim_still (k : Nat) (s : State) : (overdraftReclaim k s).still = s.still := by
  induction k generalizing s with
  | zero => rfl
  | succ k ih =>
    unfold overdraftReclaim
    split_ifs
    · rfl
    · split
      · simp [ih]
      · rfl

@[simp] theorem enterOverdraft_still (s : State) : (enterOverdraft s).still = s.still := by
  simp [enterOverdraft]

@[simp] theorem standbyInOverdraft_still (s : State) : (standbyInOverdraft s).still = s.still := by
  unfold standbyInOverdraft
  split_ifs <;> simp

/-! ## The end of an event -/

@[simp] theorem relight_still (p : Proj) (s : State) : (relight p s).still = s.still := by
  unfold relight
  split_ifs <;> simp

@[simp] theorem strikeWait_still (p : Proj) (s : State) : (strikeWait p s).still = s.still := by
  unfold strikeWait
  dsimp only
  split_ifs <;> simp

@[simp] theorem runWait_still (p : Proj) (k : StartKind) (s : State) : (runWait p k s).still = s.still := by
  unfold runWait completeStart
  dsimp only
  split_ifs <;> simp

@[simp] theorem startStep_still (n : Screen) (s : State) : (startStep n s).still = s.still := by
  unfold startStep
  split
  · split_ifs
    · rfl
    · split <;> simp
  · rfl

@[simp] theorem recordStep_still (n : Screen) (s : State) : (recordStep n s).still = s.still := by
  unfold recordStep
  split
  · rfl
  · dsimp only
    split <;> try split_ifs
    all_goals simp

@[simp] theorem screenSteps_still (s : State) : (screenSteps s).still = s.still :=
  forEach_still _ _ (fun n t => by simp [screenStep]) s

@[simp] theorem settleBudget_still (k : Nat) (s : State) : (settleBudget k s).still = s.still := by
  induction k generalizing s with
  | zero => rfl
  | succ k ih =>
    unfold settleBudget
    dsimp only
    split_ifs <;> simp [ih]

/-- The end of an event leaves `still` alone. -/
@[simp] theorem settle_still (s : State) : (settle s).still = s.still := by
  have h (u : State) : (lateStrikes u).still = u.still := forEach_still _ _ lateStrike_still u
  unfold settle
  dsimp only
  split_ifs <;> simp [h]

end Sys2Proof.Machine
end

