-- ==== Sys2Proof/Laws/Kept.lean ====
section
/-! SUPPORT. What no event of a running controller changes but the passing of time, the supplies and the line's own rows: the
clocks, the supplies, the waiting commands, and of each line its assembler, its buffer and its replies. -/

namespace Sys2Proof.Machine

structure Kept where
  lines : PerLine (Assembler × List Order × List Reply)
  pending : List Instr
  supply : Supply
  resetPin : Bool
  vsb : Bool
  storeValid : Bool
  boothTime : BoothTime
  tickCount : Nat
  stampSub : Nat
  stampTimer : Nat

def Still.kept (x : Still) : Kept :=
  { lines := x.lines, pending := x.base.pending, supply := x.base.supply, resetPin := x.base.resetPin, vsb := x.base.vsb,
    storeValid := x.base.storeValid, boothTime := x.base.boothTime, tickCount := x.base.tickCount,
    stampSub := x.base.stampSub, stampTimer := x.base.stampTimer }

/-! ## The updates -/

@[simp] theorem setLamp_kept (s : State) (p : Proj) (v : Lamp) : (s.setLamp p v).still.kept = s.still.kept := rfl
@[simp] theorem modLamp_kept (s : State) (p : Proj) (f : Lamp → Lamp) : (s.modLamp p f).still.kept = s.still.kept := rfl
@[simp] theorem setChan_kept (s : State) (p : Proj) (v : Channel) : (s.setChan p v).still.kept = s.still.kept := rfl
@[simp] theorem modChan_kept (s : State) (p : Proj) (f : Channel → Channel) : (s.modChan p f).still.kept = s.still.kept := rfl
@[simp] theorem setCtx_kept (s : State) (p : Proj) (v : Option Context) : (s.setCtx p v).still.kept = s.still.kept := rfl
@[simp] theorem modSeq_kept (s : State) (n : Screen) (f : Sequencer → Sequencer) : (s.modSeq n f).still.kept = s.still.kept := rfl
@[simp] theorem modCirc_kept (s : State) (c : Circ) (f : Circuit → Circuit) : (s.modCirc c f).still.kept = s.still.kept := rfl
@[simp] theorem modBudget_kept (s : State) (f : Budget → Budget) : (s.modBudget f).still.kept = s.still.kept := rfl
@[simp] theorem modFire_kept (s : State) (f : FireUnit → FireUnit) : (s.modFire f).still.kept = s.still.kept := rfl
@[simp] theorem setReel_kept (s : State) (k : Nat) (r : Option ReelRecord) : (s.setReel k r).still.kept = s.still.kept := rfl
@[simp] theorem everyCircuit_kept (f : Circuit → Circuit) (s : State) : (everyCircuit f s).still.kept = s.still.kept := rfl

theorem forEach_kept {α : Type} (names : List α) (f : α → State → State)
    (h : ∀ x t, (f x t).still.kept = t.still.kept) (s : State) : (forEach names f s).still.kept = s.still.kept := by
  unfold forEach
  induction names generalizing s with
  | nil => rfl
  | cons x xs ih => simp only [List.foldl_cons]; rw [ih, h]

/-! ## Lights and channels -/

@[simp] theorem placeClaim_kept (c : Circ) (w : Winner) (k : Nat) (d : FadeDesc) (s : State) :
    (placeClaim c w k d s).still.kept = s.still.kept := rfl

@[simp] theorem placeBoth_kept (n : Screen) (w : Winner) (h a : Nat) (d : FadeDesc) (s : State) :
    (placeBoth n w h a d s).still.kept = s.still.kept := rfl

@[simp] theorem programTakes_kept (n : Screen) (k : Nat) (s : State) : (programTakes n k s).still.kept = s.still.kept := rfl

@[simp] theorem programTakesFilm_kept (n : Screen) (k f : Nat) (p : Proj) (s : State) :
    (programTakesFilm n k f p s).still.kept = s.still.kept := rfl

@[simp] theorem removeClaims_kept (n : Screen) (w : Winner) (s : State) : (removeClaims n w s).still.kept = s.still.kept := rfl

@[simp] theorem setLocalHolder_kept (v : Bool) (n : Screen) (s : State) : (setLocalHolder v n s).still.kept = s.still.kept := rfl

@[simp] theorem setBoothHolder_kept (v : Bool) (s : State) : (setBoothHolder v s).still.kept = s.still.kept :=
  forEach_kept _ _ (fun _ _ => by simp) s

@[simp] theorem clearRing_kept (p : Proj) (s : State) : (clearRing p s).still.kept = s.still.kept := rfl

@[simp] theorem channelFrame_kept (p : Proj) (s : State) : (channelFrame p s).still.kept = s.still.kept := by
  unfold channelFrame examineMotion
  dsimp only
  split_ifs
  · split
    · simp
    · split_ifs <;> simp
  · simp

@[simp] theorem channelThread_kept (p : Proj) (s : State) : (channelThread p s).still.kept = s.still.kept := by
  simp [channelThread]

@[simp] theorem channelUnthread_kept (p : Proj) (s : State) : (channelUnthread p s).still.kept = s.still.kept := by
  simp [channelUnthread]

@[simp] theorem channelResume_kept (p : Proj) (s : State) : (channelResume p s).still.kept = s.still.kept := by
  unfold channelResume
  split <;> simp

/-! ## Lamps and forecasts -/

@[simp] theorem reviewCurrent_still (p : Proj) (s : State) : (reviewCurrent p s).still = s.still := by
  unfold reviewCurrent
  dsimp only
  split
  · split_ifs <;> simp
  · rfl

@[simp] theorem withStubCheck_kept (p : Proj) (f : Lamp → Lamp) (s : State) :
    (withStubCheck p f s).still.kept = s.still.kept := by
  unfold withStubCheck
  dsimp only
  split_ifs <;> simp

@[simp] theorem keepForecast_kept (p : Proj) (f : Forecast) (s : State) : (keepForecast p f s).still.kept = s.still.kept := by
  unfold keepForecast
  dsimp only
  split <;> simp

@[simp] theorem singleForecast_kept (p : Proj) (s : State) : (singleForecast p s).still.kept = s.still.kept := by
  unfold singleForecast
  split <;> simp

@[simp] theorem economyChoice_kept (p : Proj) (s : State) : (economyChoice p s).still.kept = s.still.kept := by
  unfold economyChoice
  split
  · simp
  · dsimp only
    split_ifs <;> simp [chooseWarm]

@[simp] theorem warmChosen_still (p : Proj) (s : State) : (warmChosen p s).still = s.still := by
  unfold warmChosen
  split
  · split_ifs <;> simp
  · rfl

/-! ## Sequencers -/

@[simp] theorem recordToNoneSparing_still (n : Screen) (x : Option Side) (s : State) :
    (recordToNoneSparing n x s).still = s.still := by
  unfold recordToNoneSparing
  split
  · rfl
  · dsimp only
    split_ifs <;> simp [undoIncoming]

@[simp] theorem lampUnavailable_still (p : Proj) (s : State) : (lampUnavailable p s).still = s.still := by
  unfold lampUnavailable
  dsimp only
  split_ifs
  · simp
  · split
    · split_ifs <;> simp
    · rfl

@[simp] theorem raiseRequest_still (p : Proj) (x : Target) (d : BoothTime) (s : State) :
    (raiseRequest p x d s).still = s.still := by
  unfold raiseRequest
  split_ifs <;> simp

@[simp] theorem askRunning_still (p : Proj) (s : State) : (askRunning p s).still = s.still := by
  unfold askRunning
  split <;> simp

@[simp] theorem beginRecord_still (p : Proj) (k : StartKind) (s : State) : (beginRecord p k s).still = s.still := by
  simp [beginRecord]

@[simp] theorem beginStart_kept (p : Proj) (k : StartKind) (s : State) : (beginStart p k s).still.kept = s.still.kept := by
  unfold beginStart
  dsimp only
  split_ifs <;> simp

@[simp] theorem examinePending_kept (n : Screen) (s : State) : (examinePending n s).still.kept = s.still.kept := by
  unfold examinePending
  split_ifs
  · split <;> simp
  · rfl

@[simp] theorem examineThreading_kept (n : Screen) (s : State) : (examineThreading n s).still.kept = s.still.kept := by
  simp [examineThreading]

@[simp] theorem dropIncoming_still (p : Proj) (s : State) : (dropIncoming p s).still = s.still := by
  unfold dropIncoming
  split_ifs <;> simp

@[simp] theorem emptyContext_kept (p : Proj) (s : State) : (emptyContext p s).still.kept = s.still.kept := by
  unfold emptyContext
  split <;> simp

@[simp] theorem haltFilm_still (r : HaltReason) (p : Proj) (s : State) : (haltFilm r p s).still = s.still := by
  unfold haltFilm
  split_ifs <;> simp

@[simp] theorem haltFire_still (n : Screen) (s : State) : (haltFire n s).still = s.still := by
  simp [haltFire]

@[simp] theorem haltLocalFire_still (p : Proj) (s : State) : (haltLocalFire p s).still = s.still := by
  unfold haltLocalFire
  split_ifs
  · rfl
  · dsimp only
    split
    · split_ifs <;> simp
    · simp

@[simp] theorem haltMissed_still (p : Proj) (s : State) : (haltMissed p s).still = s.still := by
  simp [haltMissed]

@[simp] theorem closing_still (p : Proj) (s : State) : (closing p s).still = s.still := by
  simp [closing]

@[simp] theorem reelEnds_kept (p : Proj) (s : State) : (reelEnds p s).still.kept = s.still.kept := by
  unfold reelEnds
  dsimp only
  split <;> simp

@[simp] theorem endIfReached_kept (p : Proj) (s : State) : (endIfReached p s).still.kept = s.still.kept := by
  unfold endIfReached
  split
  · split_ifs <;> simp
  · rfl

@[simp] theorem takeChangeCue_still (n : Screen) (c : CueTake) (s : State) : (takeChangeCue n c s).still = s.still := by
  unfold takeChangeCue
  dsimp only
  split
  · simp
  · split <;> simp

@[simp] theorem motorCueByCount_still (n : Screen) (p : Proj) (s : State) : (motorCueByCount n p s).still = s.still := by
  unfold motorCueByCount
  split
  · split_ifs <;> simp
  · rfl

@[simp] theorem changeCueByCount_still (n : Screen) (p : Proj) (s : State) : (changeCueByCount n p s).still = s.still := by
  unfold changeCueByCount
  split
  · split_ifs <;> simp
  · rfl

@[simp] theorem motorCheck_still (n : Screen) (p : Proj) (s : State) : (motorCheck n p s).still = s.still := by
  unfold motorCheck
  split
  · dsimp only
    split_ifs <;> simp
  · rfl

@[simp] theorem changeCheck_still (n : Screen) (p : Proj) (s : State) : (changeCheck n p s).still = s.still := by
  unfold changeCheck
  split
  · dsimp only
    split_ifs <;> simp
  · rfl

@[simp] theorem recordFrame_still (n : Screen) (p : Proj) (s : State) : (recordFrame n p s).still = s.still := by
  unfold recordFrame
  split
  · split_ifs <;> simp
  · rfl

@[simp] theorem recordPulse_still (p : Proj) (k : Nat) (s : State) : (recordPulse p k s).still = s.still := by
  unfold recordPulse pulseSense pulseChecked
  split
  · split_ifs
    · dsimp only
      split <;> try split_ifs
      all_goals simp
    · rfl
  · rfl

@[simp] theorem lightMarks_kept (p : Proj) (s : State) : (lightMarks p s).still.kept = s.still.kept := by
  unfold lightMarks
  split
  · refine forEach_kept _ _ (fun m t => ?_) s
    unfold actOnMark
    split <;> simp
  · rfl

@[simp] theorem examinePair_still (p : Proj) (s : State) : (examinePair p s).still = s.still := by
  unfold examinePair
  split
  · split_ifs <;> simp
  · rfl

@[simp] theorem sequencerFrame_kept (p : Proj) (s : State) : (sequencerFrame p s).still.kept = s.still.kept := by
  unfold sequencerFrame
  dsimp only
  split <;> try split_ifs
  all_goals simp

@[simp] theorem incomingFault_still (p : Proj) (f : IncomingFault) (s : State) : (incomingFault p f s).still = s.still := by
  unfold incomingFault
  split
  · split_ifs
    · rfl
    · split <;> simp
  · rfl

@[simp] theorem endSwitched_still (n : Screen) (s : State) : (endSwitched n s).still = s.still := by
  unfold endSwitched
  split
  · split_ifs <;> simp
  · rfl

@[simp] theorem onRunout_kept (p : Proj) (s : State) : (onRunout p s).still.kept = s.still.kept := by
  unfold onRunout
  split <;> simp

@[simp] theorem onBreak_still (p : Proj) (s : State) : (onBreak p s).still = s.still := by
  unfold onBreak
  split <;> simp

@[simp] theorem onStall_still (p : Proj) (s : State) : (onStall p s).still = s.still := by
  unfold onStall
  split <;> simp

@[simp] theorem onLit_still (p : Proj) (s : State) : (onLit p s).still = s.still := by
  unfold onLit
  split_ifs
  · refine modRecord_still _ _ _
  · rfl

@[simp] theorem onArcOut_still (p : Proj) (w : Bool) (s : State) : (onArcOut p w s).still = s.still := by
  unfold onArcOut
  dsimp only
  split_ifs <;> simp

/-! ## Strikes -/

@[simp] theorem failAttempt_still (p : Proj) (c : FaultCause) (s : State) : (failAttempt p c s).still = s.still := by
  unfold failAttempt
  split_ifs <;> simp

@[simp] theorem lightLamp_kept (p : Proj) (s : State) : (lightLamp p s).still.kept = s.still.kept := by
  unfold lightLamp
  dsimp only
  split_ifs <;> simp

@[simp] theorem arcOut_kept (p : Proj) (s : State) : (arcOut p s).still.kept = s.still.kept := by
  unfold arcOut
  dsimp only
  split_ifs <;> simp

/-! ## Fire -/

@[simp] theorem modSources_kept (f : Sources → Sources) (s : State) : (modSources f s).still.kept = s.still.kept := rfl

@[simp] theorem modOpenEntry_kept (f : FireEntry → FireEntry) (s : State) : (modOpenEntry f s).still.kept = s.still.kept := rfl

@[simp] theorem boothFire_kept (s : State) : (boothFire s).still.kept = s.still.kept := by
  unfold boothFire
  have h (t : State) : (forEach Screen.all haltFire t).still = t.still := forEach_still _ _ haltFire_still t
  have g (t : State) : (forEach Proj.all fireLamp t).still = t.still :=
    forEach_still _ _ (fun p u => by simp [fireLamp]) t
  simp [h, g]

@[simp] theorem sourceRise_kept (x : Source) (s : State) : (sourceRise x s).still.kept = s.still.kept := by
  unfold sourceRise recordSource
  dsimp only
  split_ifs
  · rfl
  · split <;> simp
  · simp
  · simp

@[simp] theorem sourceFall_kept (x : Source) (s : State) : (sourceFall x s).still.kept = s.still.kept := rfl

@[simp] theorem sourceFollows_kept (i : FireInput) (v : Bool) (s : State) :
    (sourceFollows i v s).still.kept = s.still.kept := by
  unfold sourceFollows
  split_ifs <;> simp

@[simp] theorem flameRise_kept (p : Proj) (s : State) : (flameRise p s).still.kept = s.still.kept := by
  simp [flameRise]

@[simp] theorem flameFall_kept (p : Proj) (s : State) : (flameFall p s).still.kept = s.still.kept := by
  unfold flameFall
  dsimp only
  split_ifs <;> simp

@[simp] theorem persistenceReached_kept (p : Proj) (s : State) : (persistenceReached p s).still.kept = s.still.kept := by
  simp [persistenceReached]

@[simp] theorem upChange_kept (q : Port) (v : Bool) (s : State) : (upChange q v s).still.kept = s.still.kept := by
  unfold upChange portDrops
  dsimp only
  split_ifs
  · rfl
  · split
    · split_ifs <;> simp
    · simp
  · simp

@[simp] theorem firstScan_kept (i : ScanInputs) (s : State) : (firstScan i s).still.kept = s.still.kept := by
  have h (t : State) : (scanSamples i t).still.kept = t.still.kept := forEach_kept _ _ (fun _ _ => by simp) t
  have g (t : State) : (scanFlames i t).still.kept = t.still.kept :=
    forEach_kept _ _ (fun p u => by split_ifs <;> simp) t
  have k (t : State) : (scanSources i t).still.kept = t.still.kept := by
    unfold scanSources
    dsimp only
    split_ifs
    · exact forEach_kept _ _ (fun _ _ => by simp) t
    · simp
    · simp
  unfold firstScan
  rw [k, g, h]
  rfl

/-! ## Film events -/

@[simp] theorem frameEvent_kept (p : Proj) (s : State) : (frameEvent p s).still.kept = s.still.kept := by
  simp [frameEvent]

@[simp] theorem perforation_kept (p : Proj) (d : Nat) (s : State) : (perforation p d s).still.kept = s.still.kept := by
  unfold perforation
  split_ifs <;> simp

@[simp] theorem cuePulse_kept (p : Proj) (s : State) : (cuePulse p s).still.kept = s.still.kept := by
  unfold cuePulse
  dsimp only
  split_ifs <;> simp

@[simp] theorem breakReached_kept (p : Proj) (s : State) : (breakReached p s).still.kept = s.still.kept := by
  unfold breakReached
  dsimp only
  split_ifs <;> simp

@[simp] theorem coastReached_still (p : Proj) (s : State) : (coastReached p s).still = s.still := by
  unfold coastReached
  split_ifs <;> simp

@[simp] theorem runupReached_still (p : Proj) (s : State) : (runupReached p s).still = s.still := by
  unfold runupReached
  split_ifs <;> simp

@[simp] theorem breakNow_kept (p : Proj) (s : State) : (breakNow p s).still.kept = s.still.kept := by
  unfold breakNow
  split_ifs <;> simp

@[simp] theorem coastNow_kept (p : Proj) (s : State) : (coastNow p s).still.kept = s.still.kept := by
  unfold coastNow
  dsimp only
  split_ifs <;> simp

@[simp] theorem expireInterval_kept (n : Screen) (s : State) : (expireInterval n s).still.kept = s.still.kept := by
  unfold expireInterval
  split
  · simp
  · dsimp only
    split <;> simp

/-! ## Lamp events -/

@[simp] theorem touchSample_kept (p : Proj) (v : Nat) (s : State) : (touchSample p v s).still.kept = s.still.kept := by
  unfold touchSample touchFeed
  dsimp only
  split_ifs <;> simp

@[simp] theorem drawEnd_kept (p : Proj) (v : Nat) (s : State) : (drawEnd p v s).still.kept = s.still.kept := by
  unfold drawEnd
  dsimp only
  split_ifs <;> simp

@[simp] theorem regulate_kept (p : Proj) (v : Nat) (s : State) : (regulate p v s).still.kept = s.still.kept := rfl

@[simp] theorem feedStep_kept (p : Proj) (s : State) : (feedStep p s).still.kept = s.still.kept := by
  unfold feedStep
  split_ifs <;> simp

@[simp] theorem litSample_kept (p : Proj) (v : Nat) (s : State) : (litSample p v s).still.kept = s.still.kept := by
  unfold litSample
  dsimp only
  split_ifs <;> simp

@[simp] theorem quenchingEnds_still (p : Proj) (s : State) : (quenchingEnds p s).still = s.still := by
  unfold quenchingEnds
  dsimp only
  split
  · rw [askExamine_still, modBudget_still _ _ rfl]; simp
  · simp

@[simp] theorem waitEnds_kept (c : Instr) (s : State) : (waitEnds c s).still.kept = s.still.kept := by
  unfold waitEnds
  split <;> simp

@[simp] theorem takeWait_kept (c : Instr) (s : State) : (takeWait c s).still.kept = s.still.kept := by
  unfold takeWait
  split_ifs <;> simp

/-- The waits that an advance ends touch no clock, no supply and no line's own rows. -/
@[simp] theorem boothWaits_kept (s : State) : (boothWaits s).still.kept = s.still.kept :=
  forEach_kept _ _ takeWait_kept s

/-! ## Orders -/

@[simp] theorem applyStoreReel_kept (l : Line) (k o : Nat) (f : ReelFields) (s : State) :
    (applyStoreReel l k o f s).still.kept = s.still.kept := by
  unfold applyStoreReel editReaches markStale refreshContext notifyEdit
  split
  · rfl
  · dsimp only
    split
    · split
      · split_ifs <;> simp
      · simp
    · simp

@[simp] theorem applyStoreProgram_kept (n : Nat) (items : List RawItem) (s : State) :
    (applyStoreProgram n items s).still.kept = s.still.kept := by
  unfold applyStoreProgram
  split
  · dsimp only
    rw [examineArming_still]
    split_ifs <;> rfl
  · rfl

@[simp] theorem threadReel_kept (p : Proj) (k : Nat) (r : ReelRecord) (s : State) :
    (threadReel p k r s).still.kept = s.still.kept := by
  have h (t : State) : (threadForecast p t).still.kept = t.still.kept := by
    unfold threadForecast; split_ifs <;> simp
  simp [threadReel, h]

@[simp] theorem unthreadReel_kept (p : Proj) (s : State) : (unthreadReel p s).still.kept = s.still.kept := by
  unfold unthreadReel
  split <;> simp

@[simp] theorem motors_kept (n : Screen) (s : State) : (darkScreen n s).still = s.still := by simp [darkScreen]

@[simp] theorem cancelStart_kept (n : Screen) (s : State) : (cancelStart n s).still.kept = s.still.kept := by
  unfold cancelStart
  dsimp only
  split <;> simp

@[simp] theorem stopShow_kept (l : Line) (n : Screen) (s : State) : (stopShow l n s).still.kept = s.still.kept := by
  unfold stopShow notifyStopped
  dsimp only
  split_ifs <;> simp

@[simp] theorem closeShow_kept (n : Screen) (s : State) : (closeShow n s).still.kept = s.still.kept := by
  simp [closeShow]

@[simp] theorem resumeState_kept (n : Screen) (s : State) : (resumeState n s).still.kept = s.still.kept := by
  simp [resumeState]

@[simp] theorem resumeReel_kept (n : Screen) (x : Side) (s : State) : (resumeReel n x s).still.kept = s.still.kept := by
  have h (t : State) : (swapRoles n x t).still.kept = t.still.kept := by
    unfold swapRoles; dsimp only; split_ifs <;> simp
  simp [resumeReel, h]

@[simp] theorem restartHeldMotor_still (n : Screen) (r : Changeover) (s : State) :
    (restartHeldMotor n r s).still = s.still := by
  unfold restartHeldMotor
  dsimp only
  split_ifs <;> simp

@[simp] theorem switchByHand_still (n : Screen) (r : Changeover) (s : State) : (switchByHand n r s).still = s.still := by
  simp [switchByHand]

@[simp] theorem takeRunCurrent_still (p : Proj) (k : Nat) (s : State) : (takeRunCurrent p k s).still = s.still := by
  unfold takeRunCurrent
  dsimp only
  split
  · split_ifs <;> simp
  · rfl

@[simp] theorem quenchByOrder_kept (p : Proj) (s : State) : (quenchByOrder p s).still.kept = s.still.kept := by
  unfold quenchByOrder
  dsimp only
  split_ifs <;> simp

@[simp] theorem trimLamp_kept (p : Proj) (k : Nat) (s : State) : (trimLamp p k s).still.kept = s.still.kept := by
  unfold trimLamp
  dsimp only
  split <;> simp

@[simp] theorem applySetCapacity_kept (k : Nat) (s : State) : (applySetCapacity k s).still.kept = s.still.kept := by
  unfold applySetCapacity
  dsimp only
  split_ifs <;> simp

@[simp] theorem applySetSurge_kept (k : Nat) (s : State) : (applySetSurge k s).still.kept = s.still.kept := by
  unfold applySetSurge
  dsimp only
  split_ifs <;> simp

@[simp] theorem applySetReclaim_kept (k g : Nat) (s : State) : (applySetReclaim k g s).still.kept = s.still.kept := by
  unfold applySetReclaim
  dsimp only
  split_ifs <;> simp

@[simp] theorem manualTakes_kept (f : LightsForm) (n : Screen) (s : State) : (manualTakes f n s).still.kept = s.still.kept := by
  unfold manualTakes
  split <;> simp

@[simp] theorem restTakes_kept (c : Circ) (k : Nat) (s : State) : (restTakes c k s).still.kept = s.still.kept := by
  unfold restTakes
  dsimp only
  split
  · rw [startFade_still]; rfl
  · simp

@[simp] theorem applySetMotion_kept (m : MotionSettings) (s : State) : (applySetMotion m s).still.kept = s.still.kept := by
  have h (t : State) : (forEach Proj.all runupMeets t).still.kept = t.still.kept :=
    forEach_kept _ _ (fun p u => by unfold runupMeets; split <;> try split_ifs
                                    all_goals simp) t
  have g (t : State) : (forEach Proj.all gapMeets t).still.kept = t.still.kept :=
    forEach_kept _ _ (fun p u => by unfold gapMeets; split_ifs <;> simp) t
  have k (t : State) : (forEach Proj.all persistenceMeets t).still.kept = t.still.kept :=
    forEach_kept _ _ (fun p u => by unfold persistenceMeets; split <;> try split_ifs
                                    all_goals simp) t
  unfold applySetMotion
  rw [k, g, h]
  rfl

@[simp] theorem applyClearFire_kept (s : State) : (applyClearFire s).still.kept = s.still.kept := by
  unfold applyClearFire notifyCleared
  dsimp only
  split <;> simp

/-- The owning block's effect of an order leaves the clocks, the supplies, the waiting commands and the replies alone. -/
@[simp] theorem applyOrder_kept (l : Line) (o : Order) (s : State) : (applyOrder l o s).still.kept = s.still.kept := by
  cases o <;> dsimp only [applyOrder]
  case storeReel => simp
  case deleteReel => simp [applyDeleteReel]
  case storeProgram => simp
  case storeScene => rfl
  case thread => unfold applyThread; split <;> simp
  case unthread => unfold applyUnthread; split <;> simp
  case openScreen => unfold applyOpen openShow; split <;> simp
  case start => unfold applyStart; split <;> try split
                all_goals simp
  case stop => unfold applyStop; split <;> simp
  case close => unfold applyClose; split <;> simp
  case resume => unfold applyResume; split <;> try split
                 all_goals simp
  case changeNow => unfold applyChangeNow
                    split
                    · split
                      · split_ifs <;> simp
                      · rfl
                    · rfl
  case setLamp => unfold applySetLamp; split <;> simp
  case strike => unfold applyStrike; split <;> simp
  case quench => unfold applyQuench; split <;> simp
  case trim => unfold applyTrim; split <;> simp
  case setCapacity => simp
  case setSurge => simp
  case setReclaim => simp
  case lights => unfold applyLights
                 split
                 · exact forEach_kept _ _ (fun _ _ => by simp) s
                 · rfl
  case lightsRelease => unfold applyLightsRelease
                        split
                        · exact forEach_kept _ _ (fun _ _ => by simp) s
                        · rfl
  case setFloor => rfl
  case setRest => unfold applySetRest; split <;> simp
  case setMotion => simp
  case fireAssert => simp [applyFireAssert]
  case fireRelease => simp [applyFireRelease]
  case clearFire => simp
  case rehang => unfold applyRehang; split <;> simp

end Sys2Proof.Machine
end

