-- ==== Sys2Proof/Laws/Lines.lean ====
section
/-! SUPPORT. The queues of a station line: what a notice and a reply do to them (R158 to R161), and that they stay within their
sizes. -/

namespace Sys2Proof.Machine

/-! ## Fire notices in a queue -/

theorem fireCount_cons (n : Notice) (ns : List Notice) :
    fireCount (n :: ns) = (if n.body.isFire then 1 else 0) + fireCount ns := by
  unfold fireCount
  by_cases h : n.body.isFire
  · simp [h, Nat.add_comm]
  · simp [h]

theorem fireCount_append (ns ms : List Notice) : fireCount (ns ++ ms) = fireCount ns + fireCount ms := by
  simp [fireCount]

theorem length_replaceFire (n : Notice) (ns : List Notice) : (replaceFire n ns).length = ns.length := by
  induction ns with
  | nil => rfl
  | cons x xs ih =>
    simp only [replaceFire]
    split_ifs
    · rfl
    · simp [ih]

theorem fireCount_replaceFire (n : Notice) (h : n.body.isFire = true) (ns : List Notice) :
    fireCount (replaceFire n ns) = fireCount ns := by
  induction ns with
  | nil => rfl
  | cons x xs ih =>
    simp only [replaceFire]
    split_ifs with hx
    · simp [fireCount_cons, h, hx]
    · simp [fireCount_cons, ih]

theorem fireCount_of_not_pending (l : LineState) (h : l.firePending = false) : fireCount l.notices = 0 := by
  simp only [LineState.firePending, List.any_eq_false] at h
  simp only [fireCount, List.length_eq_zero_iff, List.filter_eq_nil_iff]
  exact h

/-! ## The bounds are kept -/

theorem addFireNotice_ok (l : LineState) (n : Notice) (hn : n.body.isFire = true) (h : l.ok) : (l.addFireNotice n).ok := by
  obtain ⟨h1, h2, h3, h4⟩ := h
  unfold LineState.addFireNotice
  split_ifs with hp hl
  · exact ⟨h1, h2, by simpa [length_replaceFire] using h3, by simpa [fireCount_replaceFire n hn] using h4⟩
  · have hz := fireCount_of_not_pending l (by simpa using hp)
    refine ⟨h1, h2, ?_, ?_⟩
    · simp only [List.length_append, List.length_singleton]; omega
    · have h0 : fireCount ([] : List Notice) = 0 := rfl
      simp [fireCount_append, fireCount_cons, hz, hn, h0]
  · have hz := fireCount_of_not_pending l (by simpa using hp)
    refine ⟨h1, h2, ?_, ?_⟩
    · simp only [List.length_cons, List.length_tail]; omega
    · have ht : fireCount l.notices.tail = 0 := by
        cases hq : l.notices with
        | nil => rfl
        | cons x xs =>
          rw [hq, fireCount_cons] at hz
          simp only [List.tail_cons]; omega
      simp [fireCount_cons, hn, ht]

theorem addPlainNotice_ok (l : LineState) (n : Notice) (hn : n.body.isFire = false) (h : l.ok) : (l.addPlainNotice n).ok := by
  obtain ⟨h1, h2, h3, h4⟩ := h
  unfold LineState.addPlainNotice
  split_ifs with hl
  · refine ⟨h1, h2, ?_, ?_⟩
    · simp only [List.length_append, List.length_singleton]; omega
    · have h0 : fireCount ([] : List Notice) = 0 := rfl
      simpa [fireCount_append, fireCount_cons, hn, h0] using h4
  · exact ⟨h1, h2, h3, h4⟩

theorem addNotice_ok (l : LineState) (n : Notice) (h : l.ok) : (l.addNotice n).ok := by
  unfold LineState.addNotice
  split_ifs with hn
  · exact addFireNotice_ok l n hn h
  · exact addPlainNotice_ok l n (by simpa using hn) h

theorem addReply_ok (l : LineState) (r : Reply) (h : l.ok) : (l.addReply r).ok := by
  obtain ⟨h1, h2, h3, h4⟩ := h
  unfold LineState.addReply
  split_ifs with hl
  · exact ⟨h1, by simp only [List.length_append, List.length_singleton]; omega, h3, h4⟩
  · exact ⟨h1, h2, h3, h4⟩

theorem kick_ok (l : LineState) (h : l.ok) : l.kick.ok := by
  obtain ⟨h1, h2, h3, h4⟩ := h
  unfold LineState.kick
  split
  · exact ⟨h1, h2, h3, h4⟩
  · split
    · rename_i r rs hr
      exact ⟨h1, by rw [hr] at h2; simp only [List.length_cons] at h2; show rs.length ≤ 4; omega, h3, h4⟩
    · rename_i n ns hr hn
      refine ⟨h1, h2, ?_, ?_⟩
      · rw [hn] at h3; simp only [List.length_cons] at h3; show ns.length ≤ 12; omega
      · rw [hn, fireCount_cons] at h4; show fireCount ns ≤ 1; omega
    · exact ⟨h1, h2, h3, h4⟩

theorem setLine_linesOk (s : State) (l : Line) (v : LineState) (hv : v.ok) (h : linesOk s) : linesOk (s.setLine l v) := by
  intro k
  rw [line_setLine]
  split_ifs
  · exact hv
  · exact h k

theorem modLine_linesOk (s : State) (l : Line) (f : LineState → LineState) (hf : ∀ x, x.ok → (f x).ok) (h : linesOk s) :
    linesOk (s.modLine l f) := setLine_linesOk s l _ (hf _ (h l)) h

/-- A notice keeps every queue within its size. -/
theorem notify_linesOk (l : Line) (b : NoticeBody) (s : State) (h : linesOk s) : linesOk (notify l b s) :=
  modLine_linesOk s l _ (fun x hx => kick_ok _ (addNotice_ok x _ hx)) h

/-- A reply keeps every queue within its size. -/
theorem reply_linesOk (l : Line) (r : Reply) (s : State) (h : linesOk s) : linesOk (reply l r s) :=
  modLine_linesOk s l _ (fun x hx => kick_ok _ (addReply_ok x r hx)) h

/-- What changes no line keeps the bounds. -/
theorem linesOk_of_lines_eq {s t : State} (e : t.lines = s.lines) (h : linesOk s) : linesOk t := by
  intro l
  have := h l
  simpa [State.line, e] using this

/-! ## What a reply does -/

/-- A reply that finds room joins the line's outgoing replies, and nothing else changes. -/
theorem reply_still (l : Line) (r : Reply) (s : State) (h : (s.line l).replies.length < 4) :
    (reply l r s).still = s.still.replied l r := by
  have hk : ((s.line l).addReply r).kick.still = ((s.line l).asm, (s.line l).buffer, (s.line l).outgoing ++ [r]) := by
    rw [kick_still]
    simp [LineState.addReply, h, LineState.outgoing]
  unfold reply
  rw [modLine_eq]
  simp only [State.line] at hk
  cases l with
  | house =>
    simp_all [State.still, State.setLine, State.base, PerLine.set, PerLine.get, Still.replied, State.line]
  | screen n =>
    cases n <;> simp_all [State.still, State.setLine, State.base, PerLine.set, PerLine.get, Quad.set, Quad.get, Quad.map,
      Still.replied, State.line]

/-- A reply leaves everything but its line alone. -/
theorem reply_setLine (l : Line) (r : Reply) (s : State) :
    ∃ v, reply l r s = s.setLine l v := ⟨_, rfl⟩

end Sys2Proof.Machine
end

