-- ==== Sys2Proof/Laws/Orders.lean ====
section
/-! SUPPORT. One step; the end of a quiet event; an order that a free line takes at once, and the reply it gets. -/

namespace Sys2Proof.Machine

/-! ## One step -/

theorem step_idle (s : State) (h : s.pending = []) : step s = .next (idle s) := by
  unfold step
  rw [h]

/-! ## The end of an event -/

theorem event_running (f : State → State) (s : State) (h : s.running = true) : event f s = settle (f s) := by
  simp [event, h]

theorem event_stopped (f : State → State) (s : State) (h : s.running = false) : event f s = s := by
  simp [event, h]

theorem relight_of_quiet (p : Proj) (s : State) (ha : (s.seq p.screen).demand.a ≠ .relightHold)
    (hb : (s.seq p.screen).demand.b ≠ .relightHold) : relight p s = s := by
  obtain ⟨n, x⟩ := p
  cases x <;> simp_all [relight, Pair.get]

theorem screenStep_of_quiet (n : Screen) (s : State) (h : quiet s) : screenStep n s = s := by
  obtain ⟨h1, h2, h3, h4⟩ := h.2 n
  have r (x : Side) : relight ⟨n, x⟩ s = s := relight_of_quiet ⟨n, x⟩ s h3 h4
  unfold screenStep
  rw [r, r]
  have e : startStep n s = s := by simp [startStep, h1]
  rw [e]
  simp [recordStep, h2]

/-- A quiet event ends with its lights judged and nothing more. -/
theorem settle_of_quiet (s : State) (h : quiet s) : settle s = judgeLights s := by
  have e : screenSteps s = s := by
    simp [screenSteps, forEach, Screen.all, screenStep_of_quiet _ _ h]
  simp [settle, e, h.1]

/-- What `ends` asks follows from the outcome alone. -/
theorem ends_of_exec {c : Instr} {s u : State} (h : exec c s = .next (settle u)) : ends c s u :=
  ⟨settle u, h, rfl, settle_still u, settle_of_quiet u⟩

/-- A command that is one event, while the controller runs. -/
theorem ends_of_event {c : Instr} {s : State} {f : State → State} (h : exec c s = .next (event f s)) (r : s.running = true) :
    ends c s (f s) := ends_of_exec (by rw [h, event_running f s r])

/-! ## Orders -/

/-- Every order row stands for its order's message completing on its line. -/
theorem exec_order {c : Instr} {l : Line} {o : Order} (h : orderOfInstr c = some (l, o)) (s : State) :
    exec c s = .next (arrive l o s) := by
  cases c <;> simp [orderOfInstr] at h <;> obtain ⟨rfl, rfl⟩ := h <;> rfl

theorem lines_of_kept {s t : State} (h : s.still.kept = t.still.kept) : s.still.lines = t.still.lines := congrArg Kept.lines h

theorem buffer_of_kept {s t : State} (h : s.still.kept = t.still.kept) (l : Line) : (s.line l).buffer = (t.line l).buffer := by
  have e := congrArg (fun x => (x.get l).2.1) (lines_of_kept h)
  cases l <;> simpa [State.still, State.line, PerLine.get] using e

theorem running_of_kept {s t : State} (h : s.still.kept = t.still.kept) : s.running = t.running := by
  have h1 : s.supply = t.supply := congrArg Kept.supply h
  have h2 : s.resetPin = t.resetPin := congrArg Kept.resetPin h
  simp [State.running, h1, h2]

theorem kick_buffer (l : LineState) : l.kick.buffer = l.buffer := by
  unfold LineState.kick
  split
  · rfl
  · split <;> rfl

theorem addReply_buffer (l : LineState) (r : Reply) : (l.addReply r).buffer = l.buffer := by
  unfold LineState.addReply
  split_ifs <;> rfl

theorem reply_buffer (l k : Line) (r : Reply) (s : State) : ((reply l r s).line k).buffer = (s.line k).buffer := by
  unfold reply
  rw [modLine_eq, line_setLine]
  split_ifs with h
  · subst h; rw [kick_buffer, addReply_buffer]
  · rfl

theorem takeRead_buffer (l : Line) (i k : Nat) (s : State) : ((takeRead l i k s).line l).buffer = (s.line l).buffer := by
  unfold takeRead clearOwnStatus
  split
  · exact reply_buffer l l _ s
  · split_ifs
    · exact reply_buffer l l _ s
    · rw [modLine_eq, line_setLine, if_pos rfl]
      exact reply_buffer l l _ s
    · exact reply_buffer l l _ s

/-- Taking an order leaves the orders that wait on its line. -/
theorem takeOrder_buffer (l : Line) (o : Order) (s : State) : ((takeOrder l o s).line l).buffer = (s.line l).buffer := by
  have h (t : State) : ((applyOrder l o t).line l).buffer = (t.line l).buffer := buffer_of_kept (applyOrder_kept l o t) l
  unfold takeOrder
  split
  · exact takeRead_buffer l _ _ s
  · dsimp only
    split_ifs
    · rw [h, reply_buffer]
    · rw [reply_buffer]

theorem takeOne_empty (l : Line) (s : State) (h : (s.line l).buffer = []) : takeOne l s = s := by
  unfold takeOne
  rw [h]

theorem modLine_id (l : Line) (s : State) (f : LineState → LineState) (h : f (s.line l) = s.line l) : s.modLine l f = s := by
  rw [modLine_eq, h]
  cases l with
  | house => rfl
  | screen n => cases n <;> rfl

/-- On a free line an order is taken in the event in which its message completes. -/
theorem arrive_free {l : Line} {s : State} (h : lineFree s l) (o : Order) : arrive l o s = settle (takeOrder l o s) := by
  obtain ⟨hr, hb, hq⟩ := h
  unfold arrive
  rw [if_pos hr, hb]
  simp only [List.length_nil, Nat.zero_lt_succ, if_true]
  have e : takeOne l (s.modLine l (fun x => { x with buffer := x.buffer ++ [o] })) = settle (takeOrder l o s) := by
    unfold takeOne
    have e1 : ((s.modLine l (fun x => { x with buffer := x.buffer ++ [o] })).line l) =
        { s.line l with buffer := [o] } := by
      rw [modLine_eq, line_setLine, if_pos rfl, hb]; rfl
    rw [e1]
    dsimp only
    rw [if_pos hq]
    congr 2
    have e2 : (s.modLine l (fun x => { x with buffer := x.buffer ++ [o] })).modLine l (fun x => { x with buffer := [] }) =
        s.modLine l (fun x => { x with buffer := [] }) := by
      cases l with
      | house => rfl
      | screen n => cases n <;> rfl
    rw [e2]
    exact modLine_id l s _ (by rw [← hb])
  unfold takeAll
  rw [e]
  apply takeOne_empty
  have := still_line (settle_still (takeOrder l o s)) l
  have e3 : ((settle (takeOrder l o s)).line l).buffer = ((takeOrder l o s).line l).buffer := congrArg (fun x => x.2.1) this
  rw [e3, takeOrder_buffer, hb]

/-- An order that a free line takes ends as `takeOrder` leaves it. -/
theorem ends_of_order {c : Instr} {l : Line} {o : Order} {s : State} (h : orderOfInstr c = some (l, o)) (hf : lineFree s l) :
    ends c s (takeOrder l o s) := ends_of_exec (by rw [exec_order h, arrive_free hf])

/-- An order other than READ that passes its checks ends as its block leaves the state with the reply made. -/
theorem ends_of_passed {c : Instr} {l : Line} {o : Order} {s u : State} {r : Reply} (h : orderOfInstr c = some (l, o))
    (hf : lineFree s l) (hn : ∀ i k, o ≠ .read i k) (hj : judgeOrder l o s = r) (ha : r.acts = true)
    (hu : applyOrder l o (reply l r s) = u) : ends c s u := by
  have e : takeOrder l o s = u := by
    cases o <;> first
      | exact absurd rfl (hn _ _)
      | simp only [takeOrder, hj, ha, if_true, hu]
  exact e ▸ ends_of_order h hf

/-- An order other than READ that is refused ends with its reply. -/
theorem ends_of_refused {c : Instr} {l : Line} {o : Order} {s : State} {k : Nat} {r : Reason} (h : orderOfInstr c = some (l, o))
    (hf : lineFree s l) (hn : ∀ i k, o ≠ .read i k) (hj : judgeOrder l o s = .refused k r) :
    ends c s (reply l (.refused k r) s) := by
  have e : takeOrder l o s = reply l (.refused k r) s := by
    cases o <;> first
      | exact absurd rfl (hn _ _)
      | simp [takeOrder, hj, Reply.acts]
  exact e ▸ ends_of_order h hf

/-! ## What a reply leaves alone -/

@[simp] theorem lamp_reply (l : Line) (r : Reply) (s : State) (p : Proj) : (reply l r s).lamp p = s.lamp p := rfl
@[simp] theorem chan_reply (l : Line) (r : Reply) (s : State) (p : Proj) : (reply l r s).chan p = s.chan p := rfl
@[simp] theorem ctx_reply (l : Line) (r : Reply) (s : State) (p : Proj) : (reply l r s).ctx p = s.ctx p := rfl
@[simp] theorem seq_reply (l : Line) (r : Reply) (s : State) (n : Screen) : (reply l r s).seq n = s.seq n := rfl
@[simp] theorem circ_reply (l : Line) (r : Reply) (s : State) (c : Circ) : (reply l r s).circ c = s.circ c := rfl
@[simp] theorem budget_reply (l : Line) (r : Reply) (s : State) : (reply l r s).budget = s.budget := rfl
@[simp] theorem fire_reply (l : Line) (r : Reply) (s : State) : (reply l r s).fire = s.fire := rfl
@[simp] theorem base_reply (l : Line) (r : Reply) (s : State) : (reply l r s).base = s.base := rfl

end Sys2Proof.Machine
end

