-- ==== Sys2Proof/Tests/Slice0.lean ====
section
/-! SUPPORT. The author's own tests: ill-formed commands that WellFormed refuses, worked examples of the book, and for every
statement with hypotheses a state and operands that meet them, clause by clause, at the ends of the ranges. -/

namespace Sys2Proof.Tests

open Sys2Proof Sys2Proof.Machine

/-! ## Small states -/

abbrev pA : Proj := ⟨.n1, .a⟩
abbrev pB : Proj := ⟨.n1, .b⟩
abbrev l1 : Line := .screen .n1

def answered (o : Host.Outcome State Fault Refusal) : Bool :=
  match o with
  | .next _ => true
  | _ => false

theorem next_of_answered {o : Host.Outcome State Fault Refusal} (h : answered o = true) : ∃ t, o = .next t := by
  cases o with
  | next t => exact ⟨t, rfl⟩
  | fault f => cases h
  | refused r => cases h

/-- The state that the commands lead to, one after the other. -/
def runAll : List Instr → State → State
  | [], s => s
  | c :: cs, s =>
    match exec c s with
    | .next t => runAll cs t
    | _ => s

/-- A reel of 2,000 frames: H 100, P 1,900, Xco 1,876, Xmc 1,708. -/
def fields : ReelFields := ⟨[], 0, 2000, 100, 100, 24, 168, 0, 12, 0, 0, []⟩
def film : ReelRecord := ⟨[], .n1, .f35, 2000, 100, 100, 24, 168, .count, 12, none, []⟩
def filmBy (n : Screen) (f : Format) : ReelRecord := { film with owner := n, format := f }

/-- Slot 48 holds `film`. -/
def stored : State := State.reset.setReel 48 (some film)

def ctxOf (committed : Bool) : Context := ⟨48, film, committed, false⟩

/-- `film` is on the projector at frame F. -/
def loaded (p : Proj) (frames : Nat) (committed : Bool) : State :=
  (stored.setCtx p (some (ctxOf committed))).setChan p { Channel.reset with frames := frames }

def withLamp (p : Proj) (f : Lamp → Lamp) (s : State) : State := s.setLamp p (f (s.lamp p))
def withSeq (n : Screen) (f : Sequencer → Sequencer) (s : State) : State := s.setSeq n (f (s.seq n))
def withChan (p : Proj) (f : Channel → Channel) (s : State) : State := s.setChan p (f (s.chan p))
def withLine (l : Line) (f : LineState → LineState) (s : State) : State := s.setLine l (f (s.line l))

/-- The lamp burns at 45 A with full carbon. -/
def burning (st : LampState) (p : Proj) (s : State) : State :=
  withLamp p (fun l => { l with st := st, litCurrent := some 45, standbyRef := 30, carbon := 6000 }) s

/-- The lamp holds so much carbon. -/
def trimmed (n : Nat) (p : Proj) (s : State) : State := withLamp p (fun l => { l with carbon := n }) s

/-! ## WellFormed refuses, check by check -/

theorem test_wf_orders_of_screens_and_reels :
    [Instr.read l1 256 0, .read l1 0 65536, .storeReel l1 256 0 fields, .storeReel l1 1 256 fields,
      .storeReel l1 1 0 { fields with length := 65536 }, .deleteReel l1 256, .storeProgram l1 256 [],
      .storeProgram l1 1 [⟨256, 0, 0⟩], .storeProgram l1 1 (List.replicate 61 ⟨0, 1, 0⟩), .storeScene l1 256 0 0 0,
      .storeScene l1 0 256 0 0, .storeScene l1 0 0 256 0, .storeScene l1 0 0 0 65536, .thread l1 256 0, .thread l1 0 256,
      .unthread l1 256, .openScreen l1 256, .start l1 256, .stop l1 256, .close l1 256, .resume l1 256, .changeNow l1 256,
      .rehang l1 256].all (fun c => !c.wf) = true := by decide +kernel

theorem test_wf_orders_of_lamps_and_house :
    [Instr.setLamp l1 256 LampSettings.defaults, .setLamp l1 0 { LampSettings.defaults with run := 256 }, .strike l1 256 0,
      .strike l1 0 256, .quench l1 256, .trim l1 256 0, .trim l1 0 65536, .setCapacity l1 65536, .setSurge l1 256,
      .setReclaim l1 256 0, .setReclaim l1 0 65536, .lights l1 256 (.scene 0), .lights l1 0 (.scene 256), .lightsRelease l1 256,
      .setFloor l1 256, .setRest l1 256 0, .setRest l1 0 256,
      .setMotion l1 { MotionSettings.defaults with gateThreshold := 256 }].all (fun c => !c.wf) = true := by decide +kernel

theorem test_wf_rows_that_are_no_orders :
    [Instr.unknownOrder l1 0x01, .unknownOrder l1 0x1D, .unknownOrder l1 128, .frameReceived l1 (List.replicate 28 0),
      .touchSample pA 256, .drawEnd pA 256, .regulation pA 256, .currentSample pA 256,
      .firstScan ⟨false, false, false, false, Quad.fill (Pair.fill false), Quad.fill (Trio.fill false),
        Quad.fill (Pair.fill 256), Quad.fill (Pair.fill 0)⟩,
      .firstScan ⟨false, false, false, false, Quad.fill (Pair.fill false), Quad.fill (Trio.fill false),
        Quad.fill (Pair.fill 0), Quad.fill (Pair.fill 256)⟩].all (fun c => !c.wf) = true := by decide +kernel

theorem test_wf_reel_fields :
    [{ fields with label := [256] }, { fields with format := 256 }, { fields with length := 65536 },
      { fields with head := 65536 }, { fields with tail := 65536 }, { fields with lead := 256 },
      { fields with motorLead := 65536 }, { fields with mode := 256 }, { fields with window := 256 },
      { fields with overridePresent := 256 }, { fields with overrideValue := 256 }, { fields with marks := [⟨65536, 0, 0, 0⟩] },
      { fields with marks := [⟨0, 256, 0, 0⟩] }, { fields with marks := [⟨0, 0, 256, 0⟩] },
      { fields with marks := [⟨0, 0, 0, 65536⟩] }, { fields with label := List.replicate 167 32 }].all (fun f => !f.wf) =
      true := by decide +kernel

theorem test_wf_operand_records :
    (let x := LampSettings.defaults
     [{ x with run := 256 }, { x with standby := 256 }, { x with setpoint := 256 }, { x with band := 256 },
       { x with gain := 256 }, { x with warm := 256 }, { x with minWarm := 256 }, { x with quenchDelay := 256 },
       { x with margin := 65536 }, { x with burn := { x.burn with p1 := ⟨256, 0⟩ } },
       { x with burn := { x.burn with p2 := ⟨0, 256⟩ } }, { x with burn := { x.burn with p3 := ⟨256, 0⟩ } },
       { x with burn := { x.burn with p4 := ⟨0, 256⟩ } }].all (fun y => !y.wf)) = true ∧
    [RawItem.mk 256 0 0, ⟨0, 256, 0⟩, ⟨0, 0, 256⟩].all (fun i => !i.wf) = true ∧
    [LightsForm.scene 256, .levels 256 0 0, .levels 0 256 0, .levels 0 0 65536].all (fun f => !f.wf) = true ∧
    [MotionSettings.mk 256 0 0 0, ⟨0, 256, 0, 0⟩, ⟨0, 0, 256, 0⟩, ⟨0, 0, 0, 256⟩].all (fun m => !m.wf) = true := by
  decide +kernel

/-! ## Worked examples of the book -/

/-- The table of R26. -/
theorem test_speed_table :
    [[417, 416, 417, 417], [440, 438, 441, 439], [441, 440, 441, 440], [397, 397, 397, 397], [396, 396, 396, 396],
      [2500, 2480, 2510, 2490]].map (fun r => (speedOf r, (speedOf r).map inBand)) =
      [(some 240, some true), (some 228, some true), (some 227, some false), (some 252, some true), (some 253, some false),
        (some 40, some false)] := by decide +kernel

/-- The burst at the motor cue (R36): five closures, two accepted. -/
theorem test_bounce_burst :
    (let s := loaded pB 28359 false
     let at' (f : Nat) (t : State) := runAll [.cuePulse pB] (withChan pB (fun c => { c with frames := f }) t)
     let t := at' 28372 (at' 28371 (at' 28366 (at' 28360 (at' 28359 s))))
     ((t.chan pB).lastCue, (t.chan pB).bounce)) = (some 28372, 3) := by decide +kernel

/-- The fades of 7.8 and 7.9. -/
theorem test_fade_tables :
    ([1, 2, 10, 54, 55].map (fun k => fadeLevel 700 0 k 80) = [692, 683, 613, 228, 219]) ∧
    ([1, 2, 10, 54, 55].map (fun k => fadeLevel 800 200 k 80) = [793, 785, 725, 395, 388]) ∧
    ([1, 2, 10, 20].map (fun k => fadeLevel 219 400 k 20) = [228, 237, 309, 400]) ∧
    ([1, 2, 3, 24, 30, 48].map (fun k => fadeLevel 200 300 k 48) = [202, 204, 206, 250, 262, 300]) := by decide +kernel

def lamp2B : LampSettings := { LampSettings.defaults with run := 62, standby := 38 }
def reelA : ReelRecord := ⟨[], .n2, .f35, 28800, 192, 240, 24, 168, .count, 12, none, []⟩

/-- The set-up of 5.7: 2A ACTIVE at frame 27,456, 2B with the next reel. -/
def forecastState (st : LampState) (carbon : Nat) (frames : Nat) : State :=
  let s := { State.reset with programs := State.reset.programs.set .n2 [.reel 11, .reel 12, .reel 13] }
  let s := (s.setCtx ⟨.n2, .a⟩ (some ⟨11, reelA, true, false⟩)).setCtx ⟨.n2, .b⟩ (some ⟨12, reelA, false, false⟩)
  let s := withChan ⟨.n2, .a⟩ (fun c => { c with frames := 27456 }) s
  let s := withChan ⟨.n2, .b⟩ (fun c => { c with frames := frames }) s
  let s := withSeq .n2 (fun q => { q with roles := ⟨.active, .incoming⟩ }) s
  withLamp ⟨.n2, .b⟩ (fun l => { l with
    st := st, settings := lamp2B, carbon := carbon, litCurrent := if st = .dark then none else some 62 }) s

/-- The forecasts of 5.7: at strike success and a minute later. -/
theorem test_forecast_of_2B :
    (let f := figuresOf (forecastState .standby 3200 0) ⟨.n2, .b⟩ ⟨12, reelA, false, false⟩ 40 .full
     (f.standbySeconds, f.runSeconds, f.need, f.available, f.spare) = (45, 1191, 1336, 3050, 1558)) ∧
    (let f := figuresOf (forecastState .running 3158 552) ⟨.n2, .b⟩ ⟨12, reelA, false, false⟩ 40 .full
     (f.standbySeconds, f.runSeconds, f.need, f.available, f.spare) = (0, 1176, 1294, 3008, 1558)) := by decide +kernel

/-- The economy choice of 5.8, for its three lengths of carbon. -/
theorem test_economy_choice :
    [1540, 1475, 1460].map (fun c =>
      let l := (economyChoice ⟨.n2, .b⟩ (forecastState .dark c 0)).lamp ⟨.n2, .b⟩
      match l.forecast with
      | .enough f => (true, f.choice, f.need, f.spare)
      | .short f => (false, f.choice, f.need, f.spare)
      | _ => (false, .full, 0, 0)) =
      [(true, .full, 1333, 51), (true, .economy, 1319, 5), (false, .full, 1333, -21)] := by decide +kernel

/-- The frames of 9.9: THREAD of 2A from slot 11, and its DONE. -/
theorem test_thread_frames :
    (let s := { State.reset with reels := State.reset.reels.set 10 (some reelA) }
     let t := runAll [.frameReceived (.screen .n2) [0x7E, 0x03, 0x06, 0x02, 0x0B, 0xEA]] s
     ((t.line (.screen .n2)).tx.map OutMsg.frames, (t.ctx ⟨.n2, .a⟩).map Context.slot)) =
      (some [[0x7E, 0x02, 0x40, 0x06, 0xB8]], some 11) := by decide +kernel

/-! ## A witness for every statement with hypotheses: the block as a whole, the lines -/

theorem test_meets_StepTakesTheFrontCommand :
    ({ State.reset with pending := [.leadPoint, .resetFall] } : State).pending = .leadPoint :: [.resetFall] := rfl

theorem test_meets_EveryCommandAnswers :
    isSupplyCommand .leadPoint = false ∧ Instr.leadPoint ≠ .boothTimeAdvance ∧
      ({ State.reset with supply := .standby } : State).running = false ∧
      ({ State.reset with resetPin := true } : State).running = false ∧ State.reset.pending = [] := by decide

theorem test_meets_IdleStepCountsTime :
    (let s := { State.reset with stampSub := 98 }
     s.running = true ∧ s.pending = [] ∧ s.stampSub + 1 < 100) ∧
    (let s := { State.reset with stampSub := 99, tickCount := 8 }
     s.running = true ∧ s.pending = [] ∧ 100 ≤ s.stampSub + 1 ∧ ¬ 9 ≤ s.tickCount) ∧
    (let s := { State.reset with stampSub := 99, tickCount := 9 }
     s.running = true ∧ s.pending = [] ∧ 100 ≤ s.stampSub + 1 ∧ 9 ≤ s.tickCount) := by decide

/-- A line with four replies and so many orders waiting. -/
def fullLine (orders : List Order) : State :=
  withLine l1 (fun x => { x with buffer := orders, replies := List.replicate 4 (.done 0x08), tx := some (.reply (.done 0x08)) })
    State.reset

theorem test_meets_AnOrderGetsOneReply :
    orderOfInstr (.openScreen l1 1) = some (l1, .openScreen 1) ∧ (∀ i k, Order.openScreen 1 ≠ .read i k) ∧
      lineFree State.reset l1 ∧
      (fullLine [.fireAssert, .fireAssert]).running = true ∧
      ((fullLine [.fireAssert, .fireAssert]).line l1).buffer.length = 2 ∧
      ((fullLine [.fireAssert]).line l1).buffer.length < 2 ∧ ((fullLine [.fireAssert]).line l1).replies.length = 4 ∧
      ((fullLine []).line l1).buffer.length < 2 := by
  refine ⟨by decide, ?_, by decide, by decide, by decide, by decide, by decide, by decide⟩
  intro i k h
  cases h

theorem test_meets_ARefusedOrderChangesNothing :
    orderOfInstr (.openScreen .house 1) = some (.house, .openScreen 1) ∧ (∀ i k, Order.openScreen 1 ≠ .read i k) ∧
      lineFree State.reset .house ∧ judgeOrder .house (.openScreen 1) State.reset = .refused 0x08 .notOwner := by
  refine ⟨by decide, ?_, by decide, by decide +kernel⟩
  intro i k h
  cases h

theorem test_meets_PrivilegeIsTheLines :
    privileged .house (.openScreen 4) = false ∧ privileged (.screen .n2) (.stop 1) = false ∧
      Order.start 4 ∈ [Order.openScreen (screenNumber .n4), .start (screenNumber .n4)] ∧
      Order.thread 7 48 ∈ [Order.thread (projCode ⟨.n4, .b⟩) 48] := by decide

def readWaits : State := withLine l1 (fun x => { x with replies := [.readData 4 0 []] }) State.reset

theorem test_meets_ReadAnswersTheRecord :
    lineFree State.reset l1 ∧ readRecord State.reset 9 0 = none ∧ readRecord State.reset 7 49 = none ∧
      (∃ r, readRecord readWaits 7 48 = some r) ∧ lineFree readWaits l1 ∧ (readWaits.line l1).readHeld = true ∧
      (∃ r, readRecord State.reset 0 1 = some r) ∧ (State.reset.line l1).readHeld = false ∧ lineOf 1 = some l1 := by
  refine ⟨by decide, by decide +kernel, by decide +kernel, ?_, by decide, by decide, ?_, by decide, by decide⟩ <;>
    exact Option.isSome_iff_exists.mp (by decide +kernel)

def asmAt (a : Assembler) : State := withLine l1 (fun x => { x with asm := a }) State.reset

theorem test_meets_SoundFramesAreJoined :
    State.reset.running = true ∧ (127 : Nat) < 128 ∧ (List.replicate 23 (0 : Byte)).length ≤ 23 ∧
      (State.reset.line l1).asm = .hunt ∧ ((asmAt (.gap ⟨127, [], 7⟩ 0)).line l1).asm = .gap ⟨127, [], 7⟩ 0 ∧
      (asmAt (.gap ⟨127, [], 7⟩ 0)).running = true ∧ (7 : Nat) < 8 := by decide

/-- A STORE REEL of 184 parameter bytes. -/
def longReel : ReelFields := { fields with label := List.replicate 166 255 }

theorem test_meets_SendingAnOrderIsGivingIt :
    orderOfInstr (.storeReel l1 255 255 longReel) = some (l1, .storeReel 255 255 longReel) ∧
      (Instr.storeReel l1 255 255 longReel).wf = true ∧ (Order.storeReel 255 255 longReel).params.length = 184 ∧
      orderOfInstr (.unknownOrder l1 127) = some (l1, .unknown 127) ∧ (Instr.unknownOrder l1 127).wf = true ∧
      State.reset.running = true ∧ (State.reset.line l1).asm = .hunt := by decide +kernel

theorem test_meets_BadFramesAreGarbled :
    ((asmAt (.frame none [] 0)).line l1).asm = .frame none [] 0 ∧ (asmAt (.frame none [] 0)).running = true ∧
      ((asmAt (.gap ⟨8, [], 1⟩ 0)).line l1).asm = .gap ⟨8, [], 1⟩ 0 ∧ (asmAt (.gap ⟨8, [], 1⟩ 0)).running = true ∧
      (State.reset.line l1).asm = .hunt ∧ (24 : Nat) < (25 : Byte).toNat ∧
      1 ≤ (1 : Byte).toNat ∧ ([8, 0] : List Byte).length = (1 : Byte).toNat + 1 ∧
      ((1 : Byte) :: [8, 0]).foldl (fun x y => x + y) 0 ≠ 0 ∧
      (24 : Byte).toNat ≤ 24 ∧ (List.replicate 25 (0 : Byte)).length = (24 : Byte).toNat + 1 ∧
      ((24 : Byte) :: List.replicate 25 0).foldl (fun x y => x + y) 0 ≠ 0 := by decide +kernel

def sending (x : List Reply) (y : List Notice) (o : List Order) : State :=
  withLine l1 (fun l => { l with tx := some (.reply (.done 1)), replies := x, notices := y, buffer := o }) State.reset

theorem test_meets_MessageSentStartsTheNext :
    (sending [] [] []).running = true ∧
      ((sending [.done 8] [⟨0, .lineRestarted⟩] []).line l1).tx = some (.reply (.done 1)) ∧
      ((sending [.done 8] [⟨0, .lineRestarted⟩] []).line l1).buffer = [] ∧
      ((sending [.done 8] [⟨0, .lineRestarted⟩] []).line l1).replies = .done 8 :: [] ∧
      ((sending [] [⟨0, .lineRestarted⟩] []).line l1).replies = [] ∧
      ((sending [] [⟨0, .lineRestarted⟩] []).line l1).notices = ⟨0, .lineRestarted⟩ :: [] ∧
      ((sending [] [] []).line l1).replies = [] ∧ ((sending [] [] []).line l1).notices = [] ∧
      ((sending (List.replicate 4 (.done 8)) [] [.fireAssert]).line l1).buffer = [.fireAssert] ∧
      ((sending (List.replicate 4 (.done 8)) [] [.fireAssert]).line l1).replies = .done 8 :: List.replicate 3 (.done 8) ∧
      (List.replicate 3 (Reply.done 8)).length < 4 := by decide

def plain : Notice := ⟨0, .lineRestarted⟩
def fireNotice : Notice := ⟨0, .fire 0 Sources.clear⟩
def queueOf (ns : List Notice) : LineState := { LineState.reset with notices := ns }

theorem test_meets_FireNoticesArePlaced :
    fireNotice.body.isFire = true ∧
      (queueOf [plain, fireNotice, plain]).notices = [plain] ++ fireNotice :: [plain] ∧
      (∀ y ∈ [plain], y.body.isFire = false) ∧
      (∀ y ∈ (queueOf (List.replicate 11 plain)).notices, y.body.isFire = false) ∧
      (queueOf (List.replicate 11 plain)).notices.length < 12 ∧
      (∀ y ∈ (queueOf (List.replicate 12 plain)).notices, y.body.isFire = false) ∧
      (queueOf (List.replicate 12 plain)).notices = plain :: List.replicate 11 plain ∧
      (queueOf (List.replicate 12 plain)).notices.length = 12 := by decide

/-- Every queue of line 1 full, a fire notice among the notices, and a command that adds a notice to every line. -/
def brimming : State :=
  { withLine l1 (fun x => { x with
      buffer := [.fireAssert, .fireAssert], replies := List.replicate 4 (.done 8),
      notices := fireNotice :: List.replicate 11 plain, tx := some (.reply (.done 8)) }) State.reset with
    pending := [.fireSourceInput .heat1 true] }

theorem test_meets_LinesStayWithinTheirSizes : linesOk brimming ∧ ∃ t, step brimming = .next t := by
  refine ⟨?_, next_of_answered (by decide +kernel)⟩
  intro l
  rcases l with n | _
  · cases n <;> (unfold LineState.ok; decide)
  · unfold LineState.ok; decide

/-! ## Witnesses: the Store and film motion -/

theorem stored_reelAt : stored.reelAt 48 = some film := by decide

/-- What holds of the one value of a known option holds of each. -/
theorem of_some {α : Type} {o : Option α} {a : α} {P : α → Prop} (h : o = some a) (p : P a) : ∀ x, o = some x → P x := by
  intro x hx
  rw [h] at hx
  cases hx
  exact p

theorem of_none {α : Type} {o : Option α} {P : α → Prop} (h : o = none) : ∀ x, o = some x → P x := by
  intro x hx
  rw [h] at hx
  cases hx

theorem test_meets_ReelOrdersWriteTheSlot :
    lineFree stored l1 ∧ (1 ≤ 48 ∧ 48 ≤ 48) ∧ (∀ old, stored.reelAt 48 = some old → l1 = .house ∨ l1 = .screen old.owner) ∧
      (∀ old, stored.reelAt 48 = some old → Screen.n1 = old.owner) ∧ (stored.reelAt 48 = none → l1 = .screen .n1) ∧
      reelOf fields .n1 = some film ∧ stored.holderOf 48 = none ∧
      (loaded pA 0 true).holderOf 48 = some pA ∧ (loaded pA 0 true).ctx pA = some (ctxOf true) ∧
      (ctxOf true).committed = true ∧ (loaded pA 0 false).holderOf 48 = some pA ∧
      (loaded pA 0 false).ctx pA = some (ctxOf false) ∧ (ctxOf false).committed = false ∧
      lineFree (loaded pA 0 true) l1 ∧ lineFree (loaded pA 0 false) l1 ∧
      (loaded pA 0 true).reelAt 48 = some film ∧ (loaded pA 0 false).reelAt 48 = some film := by
  refine ⟨by decide, by decide, of_some stored_reelAt (Or.inr rfl), of_some stored_reelAt rfl, ?_, by decide, by decide,
    by decide, by decide, rfl, by decide, by decide, rfl, by decide, by decide, by decide, by decide⟩
  intro h
  rw [stored_reelAt] at h

/-- An empty slot 1, taken by the house line for screen 4. -/
theorem test_meets_ReelOrdersWriteTheSlot_empty :
    lineFree State.reset .house ∧ State.reset.reelAt 1 = none ∧ screenOf 4 = some .n4 ∧
      reelOf fields .n4 = some (filmBy .n4 .f35) ∧ State.reset.holderOf 1 = none := by decide

def items : List RawItem := [⟨0, 48, 0⟩, ⟨1, 30, 7⟩, ⟨0, 1, 0⟩]
def itemList : List ProgItem := [.reel 48, .interval 30 7, .reel 1]
def showOf (st : Show) (pointer : Nat) : State :=
  withSeq .n1 (fun q => { q with showState := st, pointer := pointer })
    { State.reset with programs := State.reset.programs.set .n1 itemList }

theorem test_meets_ProgramAndSceneOrdersReplace :
    lineFree State.reset .house ∧ (7 ≤ 7 ∧ 600 ≤ 600) ∧ programOf items = some itemList ∧
      lineFree (showOf .ready 1) l1 ∧ ((showOf .ready 1).seq .n1).showState = .ready ∧
      ((showOf .ready 1).seq .n1).startRec = none ∧ ((showOf .closed 1).seq .n1).showState = .closed ∧
      ((showOf .ended 3).seq .n1).showState = .ended ∧ lineFree (showOf .showing 2) l1 ∧
      ((showOf .showing 2).seq .n1).showState = .showing ∧
      itemList[((showOf .showing 2).seq .n1).pointer - 1]? = (showOf .showing 2).itemAt .n1 2 ∧
      (showOf .showing 2).itemAt .n1 3 = some (.reel 1) ∧ itemList[2]? = some (.reel 1) ∧
      (showOf .showing 3).itemAt .n1 4 = none := by decide

theorem test_meets_TheStoreStaysInShape :
    (let s := { showOf .showing 2 with reels := stored.reels, pending := [.deleteReel l1 48] }
     storeOk s ∧ ∃ t, step s = .next t) := by
  refine ⟨⟨by decide, ?_, by decide, by decide, ?_⟩, next_of_answered (by decide +kernel)⟩
  · intro r h
    have h' : some r = some film ∨ some r ∈ State.reset.reels := by
      rcases List.mem_or_eq_of_mem_set (l := State.reset.reels) (i := 47) h with h | h
      · exact Or.inr h
      · exact Or.inl h
    rcases h' with h | h
    · cases h
      decide
    · exact absurd (List.eq_of_mem_replicate h) (by simp)
  · intro n
    cases n <;> decide

/-- A start of projector 1A that a halt has frozen. -/
def frozenStart : State := withSeq .n1 (fun q => { q with startRec := some ⟨.a, .start, .runWait, true⟩ }) stored

theorem test_meets_ThreadLoadsAndUnthreadEmpties :
    lineFree frozenStart (.screen pA.screen) ∧ motorIsOn frozenStart pA = false ∧
      (∀ r, (frozenStart.seq .n1).startRec = some r → r.side = Side.a → r.frozen = true) ∧ (1 ≤ 48 ∧ 48 ≤ 48) ∧
      frozenStart.reelAt 48 = some film ∧ (∀ q c, q ≠ pA → frozenStart.ctx q = some c → c.slot ≠ 48) ∧
      lineFree (loaded pA 5 false) (.screen pA.screen) ∧ motorIsOn (loaded pA 5 false) pA = false ∧
      ((loaded pA 5 false).seq .n1).startRec = none ∧ (loaded pA 5 false).ctx pA = some (ctxOf false) := by
  refine ⟨by decide, by decide, of_some (a := ⟨.a, .start, .runWait, true⟩) (by decide) (fun _ => rfl), by decide, by decide, ?_,
    by decide, by decide, by decide, by decide⟩
  intro q c _ h
  have e : frozenStart.ctx q = none := by
    rcases q with ⟨n, x⟩
    cases n <;> cases x <;> rfl
  rw [e] at h
  cases h

/-- The frame before a frame event: a phase, with a reference or without. -/
def pulsed (f : Format) (phase : Nat) (reference : Bool) : State :=
  withChan pA (fun c => { c with phase := phase, reference := reference, ring := [417, 416, 417, 417], age := 417,
                                 motion := .runup })
    (State.reset.setCtx pA (some ⟨48, filmBy .n1 f, true, false⟩))

theorem test_meets_PerforationsCountFrames :
    State.reset.running = true ∧ State.reset.ctx pA = none ∧
      (pulsed .f35 2 true).ctx pA = some ⟨48, filmBy .n1 .f35, true, false⟩ ∧
      ((pulsed .f35 2 true).chan pA).phase + 1 < 4 ∧ 4 ≤ ((pulsed .f35 3 true).chan pA).phase + 1 ∧
      ((pulsed .f35 3 true).chan pA).reference = true ∧ ((pulsed .f35 3 false).chan pA).reference = false ∧
      (pulsed .f70 3 true).ctx pA = some ⟨48, filmBy .n1 .f70, true, false⟩ ∧
      ((pulsed .f70 3 true).chan pA).phase + 1 < 5 ∧ 5 ≤ ((pulsed .f70 4 true).chan pA).phase + 1 ∧
      (pulsed .f35 3 true).running = true := by decide

theorem test_meets_SpeedIsFourPeriods :
    ([1, 1, 1] : List Nat).length < 4 ∧ ([] : List Nat).length < 4 ∧
      ([1, 0, 0, 0] : List Nat).length = 4 ∧ 0 < ([1, 0, 0, 0] : List Nat).sum ∧
      ([65535, 65535, 65535, 65535] : List Nat).length = 4 ∧ 0 < ([65535, 65535, 65535, 65535] : List Nat).sum := by decide

def cued (frames : Nat) (last : Option Nat) : State :=
  withChan pA (fun c => { c with frames := frames, lastCue := last }) (loaded pA 0 true)

theorem test_meets_CuePulsesAreStamped :
    State.reset.running = true ∧ State.reset.ctx pA = none ∧ (cued 112 (some 100)).running = true ∧
      (cued 112 (some 100)).ctx pA = some (ctxOf true) ∧ ((cued 112 (some 100)).chan pA).lastCue = some 100 ∧
      ((cued 112 (some 100)).chan pA).frames ≤ 100 + 12 ∧ (cued 113 (some 100)).ctx pA = some (ctxOf true) ∧
      (∀ f, ((cued 113 (some 100)).chan pA).lastCue = some f → f + 12 < ((cued 113 (some 100)).chan pA).frames) ∧
      ((cued 0 none).chan pA).lastCue = none ∧ ((cued 113 (some 100)).seq .n1).changeover = none := by
  refine ⟨by decide, by decide, by decide, by decide, by decide, by decide, by decide, of_some (a := 100) (by decide) (by decide),
    by decide, by decide⟩

/-- Screen 1 SHOWING on 1A at full speed, at frame F, at the end of the break window. -/
def shown (st : Show) (role : Role) (frames : Nat) : State :=
  withSeq .n1 (fun q => { q with showState := st, roles := ⟨role, .idle⟩, motor := ⟨true, false⟩, demand := ⟨.set, .clear⟩ })
    (withChan pA (fun c => { c with motion := .atSpeed, age := 2500, ring := [417, 417, 417, 417], reference := true })
      (burning .running pA (loaded pA frames true)))

/-- A changeover record of screen 1 from 1A to 1B. -/
def recAt (st : RecState) (held : Bool) : Changeover :=
  { st := st, incoming := .b, xmc := 1708, xco := 1876, strikePoint := 748, deadline := some 0, motorCue := none,
    changeCue := none, motorPulse := false, changePulse := false, stray := 0, offset := none, unavailable := false,
    restartHeld := held }

/-- The same, with a changeover record to 1A. -/
def rolledOut (role : Role) (st : RecState) (frames : Nat) : State :=
  withSeq .n1 (fun q => { q with changeover := some { recAt st false with incoming := .a } }) (shown .showing role frames)

/-- The same, with a changeover record from 1A. -/
def incomingB (st : RecState) : State :=
  withSeq .n1 (fun q => { q with changeover := some (recAt st false) }) (shown .showing (.runOff .resumed) 0)

/-- The same, 1A's film gone for so long. -/
def aged (age : Nat) (motor : Bool) (s : State) : State :=
  withSeq .n1 (fun q => { q with motor := ⟨motor, false⟩ }) (withChan pA (fun c => { c with age := age }) s)

theorem test_meets_FilmThatStopsIsNoticed :
    breakUnits MotionSettings.defaults = 2500 ∧
      (let s := aged 2501 true (shown .showing .active 5)
       s.running = true ∧ s.motionSettings = MotionSettings.defaults ∧ 2500 < (s.chan pA).age) ∧
      (let s := withChan pA (fun c => { c with motion := .runup }) (shown .showing .active 0)
       (s.chan pA).age ≤ 2500 ∧ (s.chan pA).motion ≠ .atSpeed ∧ (s.chan pA).motion ≠ .offSpeed) ∧
      motorIsOn (aged 2500 false (shown .showing .active 5)) pA = false ∧
      (∀ role ∈ [Role.idle, .starting, .active, .incoming, .runOff .closing, .runOff .switched, .runOff .missed,
          .runOff .resumed],
        ∀ frames ∈ [1899, 1900],
          let s := rolledOut role .switched frames
          s.running = true ∧ (s.chan pA).age = 2500 ∧ (s.chan pA).motion = .atSpeed ∧ motorIsOn s pA = true ∧
            s.ctx pA = some (ctxOf true) ∧ (s.seq .n1).role .a = role ∧ (s.chan pA).frames = frames ∧
            film.lastPicture = 1900) ∧
      (∀ r, ((rolledOut (.runOff .switched) .switched 0).seq .n1).changeover = some r → r.st = .switched) ∧
      (∀ r, ((incomingB .armed).seq .n1).changeover = some r → r.incoming ≠ .a) ∧
      (rolledOut (.runOff .switched) .switched 0).itemAt .n1 (((rolledOut (.runOff .switched) .switched 0).seq .n1).pointer + 1) ≠
        some (.reel (ctxOf true).slot) ∧
      (∀ st ∈ [Show.closed, .halted, .showing, .ready], ((shown st .active 0).seq .n1).showState = st) ∧
      (∀ st ∈ [RecState.armed, .lampWait, .warm, .rolling, .ready, .switched, .missed],
        ((rolledOut .incoming st 5).seq .n1).changeover = some { recAt st false with incoming := .a }) ∧
      ((rolledOut .incoming .ready 5).lamp pA).lit = true ∧
      (let s := withLamp pA (fun l => { l with st := .queued }) (rolledOut .incoming .ready 5)
       let t := { s with budget := { s.budget with queue := [⟨pA, 0, 0, false, false⟩] } }
       (t.lamp pA).st = .queued ∧ entryOf t pA ≠ none ∧ ((t.seq .n1).role .a) = .incoming) := by
  refine ⟨by decide, by decide, by decide, by decide, by decide +kernel, of_some (a := { recAt .switched false with incoming := .a })
    (by decide) (by decide), of_some (a := recAt .armed false) (by decide) (by decide), by decide, by decide, by decide,
    by decide, by decide⟩

/-- The coast limit: its gap is over, at its end, and short of it; below and above the break window. -/
theorem test_meets_FilmThatStopsIsNoticed_coast :
    coastUnits = 10000 ∧
      (∀ age ∈ [2499, 2500, 10000, 10001], ∀ on ∈ [true, false],
        (aged age on (shown .showing .active 5)).running = true ∧
          ((aged age on (shown .showing .active 5)).chan pA).age = age ∧
          motorIsOn (aged age on (shown .showing .active 5)) pA = on) ∧
      breakUnits (aged 0 true (shown .showing .active 5)).motionSettings = 2500 := by
  decide +kernel

def runningUp (role : Role) : State :=
  withChan pA (fun c => { c with motion := .runup, runup := some 300 }) (shown .ready role 0)

theorem test_meets_RunupLimitIsAStall :
    (runningUp .starting).running = true ∧ ((runningUp .starting).chan pA).runup = some 300 ∧
      ((runningUp .starting).chan pA).motion = .runup ∧ motorIsOn (runningUp .starting) pA = true ∧
      ((runningUp .starting).seq .n1).role .a = .starting ∧ ((runningUp .starting).seq .n1).showState ≠ .closed ∧
      ((runningUp .idle).seq .n1).role .a = .idle ∧ motorIsOn (runningUp .idle) pA = true := by decide

theorem test_meets_ChannelsStayWithinTheirRanges :
    (let s := { pulsed .f35 3 true with pending := [.perforationPulse pA] }
     motionWellKept s ∧ ∃ t, step s = .next t) := by
  refine ⟨⟨?_, by decide⟩, next_of_answered (by decide +kernel)⟩
  intro p
  rcases p with ⟨n, x⟩
  cases n <;> cases x <;> (unfold Channel.ok; decide)

/-- Every gap and timer of the channel is one unit short of the limits that the settings give. -/
def atTheLimits (m : MotionSettings) : State :=
  (withChan pA (fun c => { c with runup := some (10 * m.runupLimit - 1), age := 100 * m.breakWindow - 1 }) State.reset).modFire
    (fun f => f.setTimer pA (some (10 * m.persistence - 1)))

theorem test_meets_SetMotionTakesTheSettings :
    ∀ m ∈ [MotionSettings.mk 120 10 10 5, ⟨228, 60, 100, 100⟩], lineFree (atTheLimits m) .house ∧ 120 ≤ m.gateThreshold ∧
      m.gateThreshold ≤ 228 ∧ 10 ≤ m.runupLimit ∧ m.runupLimit ≤ 60 ∧ 10 ≤ m.breakWindow ∧ m.breakWindow ≤ 100 ∧
      5 ≤ m.persistence ∧ m.persistence ≤ 100 ∧
      ∀ p, (∀ k, ((atTheLimits m).chan p).runup = some k → k < 10 * m.runupLimit) ∧
        (∀ k, (atTheLimits m).fire.timer p = some k → k < 10 * m.persistence) ∧
        (((atTheLimits m).chan p).age < 100 * m.breakWindow ∨
          (((atTheLimits m).chan p).ring = [] ∧ ((atTheLimits m).chan p).reference = false ∧
            ((atTheLimits m).chan p).motion ≠ .atSpeed ∧ ((atTheLimits m).chan p).motion ≠ .offSpeed)) := by
  have h : ∀ m ∈ [MotionSettings.mk 120 10 10 5, ⟨228, 60, 100, 100⟩], lineFree (atTheLimits m) .house ∧
      120 ≤ m.gateThreshold ∧ m.gateThreshold ≤ 228 ∧ 10 ≤ m.runupLimit ∧ m.runupLimit ≤ 60 ∧ 10 ≤ m.breakWindow ∧
      m.breakWindow ≤ 100 ∧ 5 ≤ m.persistence ∧ m.persistence ≤ 100 := by decide
  intro m hm
  obtain ⟨h1, h2, h3, h4, h5, h6, h7, h8, h9⟩ := h m hm
  refine ⟨h1, h2, h3, h4, h5, h6, h7, h8, h9, ?_⟩
  intro p
  rcases p with ⟨n, x⟩
  cases n <;> cases x
  · refine ⟨of_some (a := 10 * m.runupLimit - 1) rfl (by omega), of_some (a := 10 * m.persistence - 1) rfl (by omega), Or.inl ?_⟩
    show 100 * m.breakWindow - 1 < 100 * m.breakWindow
    omega
  all_goals
    refine ⟨of_none rfl, of_none rfl, Or.inr ⟨rfl, rfl, ?_, ?_⟩⟩
    · show Motion.still ≠ .atSpeed
      decide
    · show Motion.still ≠ .offSpeed
      decide

/-! ## Witnesses: show sequencing -/

theorem test_meets_OpenAndClose :
    lineFree (showOf .closed 3) l1 ∧ (showOf .closed 3).fire.on = false ∧ ((showOf .closed 3).seq .n1).showState = .closed ∧
      (showOf .closed 3).programs.get .n1 ≠ [] ∧ lineFree (showOf .ready 1) l1 ∧
      ((showOf .ready 1).seq .n1).showState = .ready ∧ ((showOf .ready 1).lamp pA).inUse = false ∧
      ((showOf .ready 1).lamp pB).inUse = false ∧ ((showOf .halted 1).seq .n1).showState = .halted ∧
      ((showOf .ended 1).seq .n1).showState = .ended := by decide

/-- Screen 1 with `film` on 1A at frame F, and a program that begins with it. -/
def ready (st : Show) (pointer frames : Nat) (f : Lamp → Lamp) : State :=
  withLamp pA f (withSeq .n1 (fun q => { q with showState := st, pointer := pointer, interval := some 5 })
    { loaded pA frames false with programs := State.reset.programs.set .n1 [.reel 48, .interval 1 0, .reel 47] })

/-- The same in INTERVAL, the reel after it on 1A. -/
def inInterval (f : Lamp → Lamp) : State :=
  withLamp pA f (withSeq .n1 (fun q => { q with showState := .interval, pointer := 2, interval := some 0 })
    { loaded pA 1899 false with programs := State.reset.programs.set .n1 [.reel 1, .interval 1 0, .reel 48] })

theorem only_1A_holds {s : State} (h : s.ctx pB = none) {k : Nat} : ∀ c', s.ctx ⟨.n1, Side.a.other⟩ = some c' → c'.slot ≠ k :=
  of_none h

theorem test_meets_StartBeginsTheStart :
    (let s := ready .ready 1 1899 (fun l => { l with carbon := 151 })
     lineFree s l1 ∧ s.fire.on = false ∧ (s.seq .n1).showState = .ready ∧ (s.seq .n1).startRec = none ∧
       s.itemAt .n1 (s.seq .n1).pointer = some (.reel 48) ∧ s.ctx pA = some (ctxOf false) ∧ (ctxOf false).slot = 48 ∧
       (s.chan pA).frames < film.lastPicture ∧ s.ctx pB = none ∧ (s.lamp pA).st = .dark ∧
       (s.lamp pA).settings.margin < (s.lamp pA).carbon ∧ entryOf s pA = none) ∧
    (let s := inInterval (fun l => { l with carbon := 151 })
     lineFree s l1 ∧ s.fire.on = false ∧ (s.seq .n1).showState = .interval ∧ (s.seq .n1).startRec = none ∧
       s.itemAt .n1 ((s.seq .n1).pointer + 1) = some (.reel 48) ∧ s.ctx pA = some (ctxOf false) ∧
       (s.chan pA).frames < film.lastPicture ∧ s.ctx pB = none ∧ (s.lamp pA).st = .dark) ∧
    (∀ st ∈ [LampState.standby, .running, .striking],
      (ready .ready 1 0 (fun l => { l with st := st })).ctx pA = some (ctxOf false) ∧
        ((ready .ready 1 0 (fun l => { l with st := st })).lamp pA).st = st ∧ st ≠ .fault ∧ st ≠ .dark) := by decide

theorem test_meets_StopEndsTheShow :
    lineFree (shown .showing .active 5) l1 ∧ ((shown .showing .active 5).seq .n1).showState ≠ .closed ∧
      ((shown .showing .active 5).lamp pA).inUse = true ∧ lineFree (shown .showing .active 5) .house ∧
      ((withLamp pB (fun l => { l with st := .queued }) (shown .showing .active 5)).lamp pB).st = .queued := by decide

def halted (restart : Option Side) (firstMissed : Bool) (carbon : Nat) : State :=
  withSeq .n1 (fun q => { q with
      showState := .halted, haltReason := some .filmBreak, haltedFrom := some .showing, restart := restart, pointer := 1,
      firstMissed := firstMissed, startRec := some ⟨.a, .resume, .runWait, true⟩ })
    (withChan pA (fun c => { c with motion := .stoppedBreak })
      (trimmed carbon pA { loaded pA 1899 true with programs := State.reset.programs.set .n1 [.reel 1, .reel 48] }))

theorem test_meets_ResumeTakesTheShowUp :
    lineFree (halted none false 0) l1 ∧ (halted none false 0).fire.on = false ∧
      (halted none false 0).fire.marks.get .n1 = false ∧ ((halted none false 0).seq .n1).showState = .halted ∧
      (∀ r, ((halted none false 0).seq .n1).startRec = some r → r.kind = .resume → r.frozen = true) ∧
      ((halted none false 0).seq .n1).restart = none ∧ ((halted none false 0).seq .n1).haltedFrom = some .showing ∧
      ((halted (some .a) true 151).seq .n1).restart = some .a ∧ (halted (some .a) true 151).ctx pA = some (ctxOf true) ∧
      ((halted (some .a) true 151).chan pA).frames < film.lastPicture ∧
      (halted (some .a) true 151).itemAt .n1 (((halted (some .a) true 151).seq .n1).pointer + 1) = some (.reel 48) ∧
      ((halted (some .a) true 151).seq .n1).firstMissed = true ∧ ((halted (some .a) true 151).lamp pA).st = .dark ∧
      ((halted (some .a) true 151).lamp pA).settings.margin < ((halted (some .a) true 151).lamp pA).carbon ∧
      ((halted (some .a) true 151).chan pA).motion = .stoppedBreak ∧ lineFree (halted (some .a) true 151) l1 := by
  refine ⟨by decide, by decide, by decide, by decide, of_some (a := ⟨.a, .resume, .runWait, true⟩) (by decide) (fun _ => rfl),
    by decide, by decide, by decide, by decide, by decide, by decide, by decide, by decide, by decide, by decide, by decide⟩

/-- Screen 1 SHOWING on 1A, with 1B incoming at its head. -/
def incoming (st : RecState) (held : Bool) : State :=
  let s := burning .standby pB (shown .showing .active 1876)
  let s := withChan pB (fun c => { c with frames := 100 }) (s.setCtx pB (some ⟨47, film, true, false⟩))
  withSeq .n1 (fun q => { q with changeover := some (recAt st held), roles := ⟨.active, .incoming⟩ }) s

theorem test_meets_ChangeNowSwitchesOrRestarts :
    lineFree (incoming .ready false) l1 ∧ (incoming .ready false).fire.on = false ∧
      ((incoming .ready false).seq .n1).showState = .showing ∧
      ((incoming .ready false).seq .n1).changeover = some (recAt .ready false) ∧
      (incoming .ready false).ctx pB = some ⟨47, film, true, false⟩ ∧ ((incoming .ready false).lamp pB).lit = true ∧
      ((incoming .ready false).lamp pA).lit = true ∧ ((incoming .ready false).lamp pA).settings.quenchDelay ≠ 0 ∧
      ((incoming .ready false).lamp pA).quenchDue = none ∧ lineFree (incoming .armed true) l1 ∧
      ((incoming .armed true).seq .n1).changeover = some (recAt .armed true) ∧
      ((incoming .armed true).seq .n1).showState = .showing ∧ ((incoming .armed true).seq .n1).startRec = none := by decide

theorem test_meets_IntervalExpiryStartsTheReel :
    (let s := { inInterval (fun l => { l with carbon := 151 }) with contexts := State.reset.contexts }
     s.running = true ∧ (s.seq .n1).showState = .interval ∧ (s.seq .n1).interval = some 0 ∧
       (s.seq .n1).reelPending = false ∧ (s.seq .n1).startRec = none ∧
       s.itemAt .n1 ((s.seq .n1).pointer + 1) = some (.reel 48) ∧ reelSide s .n1 48 = none) ∧
    (let s := inInterval (fun l => { l with carbon := 150 })
     reelSide s .n1 48 = some .a ∧ lampUnfit (s.lamp pA) = true ∧ (s.seq .n1).interval = some 0) ∧
    (let s := inInterval (fun l => { l with carbon := 151 })
     s.running = true ∧ (s.seq .n1).reelPending = false ∧ reelSide s .n1 48 = some .a ∧ lampUnfit (s.lamp pA) = false) := by
  decide

/-- `film` in a cue mode: Xmc 1,708 and Xco 1,876, window 12. -/
def filmIn (m : CueMode) : Context := ⟨48, { film with mode := m }, true, false⟩

/-- Screen 1 SHOWING on 1A at frame F with the record, one perforation before the next frame. -/
def cueing (m : CueMode) (frames : Nat) (r : Changeover) : State :=
  withSeq .n1 (fun q => { q with changeover := some r })
    (withChan pA (fun c => { c with frames := frames, phase := 3 }) ((incoming .ready false).setCtx pA (some (filmIn m))))

def taken (how : CueHow) (at' : Nat) : Option CueTake := some ⟨how, at'⟩

/-- UNTHREAD of the other projector begins a pending reel start whose lamp has become fit (R41, R49); an UNTHREAD of an EMPTY
context changes nothing (R15). -/
theorem test_an_unthread_examines_a_pending_start :
    (let s := withSeq .n1 (fun q => { q with reelPending := true })
      ((inInterval (fun l => { l with carbon := 151 })).setCtx pB (some ⟨47, film, false, false⟩))
     let t := runAll [.unthread l1 1] s
     let u := runAll [.unthread l1 1] (s.setCtx pB none)
     ((t.seq .n1).startRec.map StartRec.side, (t.seq .n1).reelPending, (t.ctx pB).isNone, (u.seq .n1).startRec.isNone)) =
      (some .a, false, true, true) := by decide +kernel

/-- Pulses at the ends of both windows, in each mode and state of the record, with the cues untaken and taken. -/
theorem test_meets_CuesAct :
    (∀ m ∈ [CueMode.count, .sense, .checked], ∀ frames ∈ [1695, 1696, 1708, 1720, 1721, 1864, 1876, 1888],
        let s := cueing m frames (recAt .ready false)
        s.running = true ∧ s.ctx pA = some (filmIn m) ∧ (filmIn m).reel.mode = m ∧ (filmIn m).reel.window = 12 ∧
          (s.seq .n1).changeover = some (recAt .ready false) ∧ (s.chan pA).frames = frames ∧ (s.chan pA).lastCue = none ∧
          (s.chan pA).phase + 1 = 4 ∧ (s.seq .n1).showState = .showing ∧ (s.seq .n1).role .a = .active ∧
          (filmIn m).reel.lastPicture = 1900) ∧
      (withChan pA (fun c => { c with lastCue := some 1683 }) (cueing .count 1696 (recAt .ready false))).ctx pA =
        some (filmIn .count) ∧ 1683 + 12 < 1696 ∧
      (∀ st ∈ [RecState.armed, .lampWait, .warm, .rolling, .ready, .switched], ∀ held ∈ [true, false],
        (recAt st held).incoming = Side.a.other ∧ (recAt st held).motorCue = none ∧ (recAt st held).changeCue = none ∧
          (recAt st held).xmc = 1708 ∧ (recAt st held).xco = 1876 ∧ (recAt st held).motorPulse = false) ∧
      (1708 ≤ 1696 + 12 ∧ 1696 ≤ 1708 + 12) ∧ (1708 ≤ 1720 + 12 ∧ 1720 ≤ 1708 + 12) ∧ ¬1708 ≤ 1695 + 12 ∧
      ¬1721 ≤ 1708 + 12 ∧ (1876 ≤ 1864 + 12 ∧ 1864 ≤ 1876 + 12) ∧ (1876 ≤ 1888 + 12 ∧ 1888 ≤ 1876 + 12) ∧
      (let r := { recAt .ready false with motorCue := taken .sensor 1708, changeCue := taken .sensor 1876 }
       r.motorCue ≠ none ∧ r.changeCue ≠ none ∧ ((cueing .sense 1708 r).seq .n1).changeover = some r) ∧
      (let r := { recAt .switched false with changeCue := taken .count 1876 }
       r.changeCue = some ⟨.count, 1876⟩ ∧ ((cueing .checked 1888 r).seq .n1).changeover = some r) ∧
      (let r := { recAt .switched false with changeCue := taken .order 1700 }
       r.changeCue = some ⟨.order, 1700⟩ ∧ ((cueing .checked 1888 r).seq .n1).changeover = some r) := by decide +kernel

/-- Frame events at the frames where the windows begin, are met and end. -/
theorem test_meets_CuesAct_frames :
    (1708 ≤ min 65535 (1707 + 1) ∧ ¬1876 ≤ min 65535 (1707 + 1)) ∧
      (1708 + 12 ≤ min 65535 (1719 + 1) ∧ ¬1876 + 12 ≤ min 65535 (1719 + 1)) ∧
      (1876 ≤ min 65535 (1875 + 1) ∧ 1876 + 12 ≤ min 65535 (1887 + 1) ∧ min 65535 (1887 + 1) < 1900) ∧
      (min 65535 (1707 + 1) ≠ 1708 + 12 ∧ min 65535 (1719 + 1) = 1708 + 12 ∧ min 65535 (1887 + 1) = 1876 + 12) ∧
      (let r := { recAt .ready false with motorCue := taken .count 1708, motorPulse := true }
       r.motorCue ≠ none ∧ r.changeCue = none ∧ ((cueing .checked 1875 r).seq .n1).changeover = some r) ∧
      (let r := { recAt .ready false with motorCue := taken .count 1708 }
       r.motorCue = some ⟨.count, 1708⟩ ∧ r.motorPulse = false ∧ ((cueing .checked 1719 r).seq .n1).changeover = some r) ∧
      ∀ how ∈ [CueHow.count, .order],
        let r := { recAt .switched false with changeCue := some ⟨how, 1876⟩ }
        let s := withSeq .n1 (fun q => { q with roles := ⟨.runOff .switched, .active⟩ }) (cueing .checked 1887 r)
        s.running = true ∧ (s.seq .n1).role .a = .runOff .switched ∧ (s.seq .n1).changeover = some r ∧
          s.ctx pA = some (filmIn .checked) ∧ r.changePulse = false ∧ (s.chan pA).phase + 1 = 4 := by decide +kernel

/-- A changeover that an order made is not checked (R57, R61): a pulse in its window leaves the record. -/
theorem test_an_ordered_change_is_not_checked :
    (let r := { recAt .switched false with changeCue := taken .order 1870 }
     let t := runAll [.cuePulse pA] (cueing .checked 1876 r)
     (t.seq .n1).changeover = some r ∧ (t.chan pA).lastCue = some 1876) := by decide +kernel

/-- 1A shows: gate and dowser open. -/
def projecting : State :=
  { (shown .showing .active 5).modFire (fun f => { f with ups := Quad.fill (Trio.fill true) }) with
    pending := [.changeNow l1 1] }

theorem test_meets_OneDowserAtMost :
    demandsOk projecting ∧ (projecting.seq .n1).demand.a = .set ∧ dowserOpen projecting pA = true ∧
      ∃ t, step projecting = .next t := by
  refine ⟨?_, by decide, by decide, next_of_answered (by decide +kernel)⟩
  intro n
  cases n <;> (unfold oneDemand; decide)

/-! ## Witnesses: lamps -/

theorem test_meets_SetLampTakesTheSettings :
    lineFree (burning .running pA State.reset) (.screen pA.screen) ∧ settingsOk LampSettings.defaults = true ∧
      raiseRefused pA { LampSettings.defaults with run := 120 } (burning .running pA State.reset) = false ∧
      settingsOk { LampSettings.defaults with run := 120 } = true ∧
      raiseRefused pA { LampSettings.defaults with run := 30 } (burning .running pA State.reset) = false ∧
      settingsOk { LampSettings.defaults with run := 30 } = true ∧
      (¬ (State.reset.lamp pA).settings.margin < (State.reset.lamp pA).carbon) ∧
      ((trimmed 151 pA State.reset).lamp pA).settings.margin < ((trimmed 151 pA State.reset).lamp pA).carbon := by decide

def queuedState (target : Option Target) (deadline now : BoothTime) : State :=
  let s := withLamp pA (fun l => { l with st := .queued, target := target, carbon := 151 }) State.reset
  { s with boothTime := now, budget := { s.budget with queue := [⟨pA, deadline, 0, false, false⟩], nextSeq := 1 } }

theorem test_meets_StrikeQueuesTheLamp :
    lineFree (trimmed 151 pA State.reset) (.screen pA.screen) ∧ (trimmed 151 pA State.reset).fire.on = false ∧ 1 ≤ 1 ∧
      ((trimmed 151 pA State.reset).lamp pA).st = .dark ∧
      ((trimmed 151 pA State.reset).lamp pA).settings.margin < ((trimmed 151 pA State.reset).lamp pA).carbon ∧
      entryOf (trimmed 151 pA State.reset) pA = none ∧
      lineFree (queuedState (some .standby) 600 0) l1 ∧ ((queuedState (some .standby) 600 0).lamp pA).st = .queued ∧
      entryOf (queuedState (some .standby) 600 0) pA = some ⟨pA, 600, 0, false, false⟩ ∧
      earlier (after 0 600) 600 = false ∧
      entryOf (queuedState (some .standby) 601 0) pA = some ⟨pA, 601, 0, false, false⟩ ∧
      earlier (after 0 600) 601 = true := by decide

theorem test_meets_QuenchPutsTheLampOut :
    lineFree (queuedState none 600 0) (.screen pA.screen) ∧ ((queuedState none 600 0).lamp pA).st = .queued ∧
      (∀ st ∈ [LampState.striking, .standby, .running], ((burning st pA State.reset).lamp pA).inUse = true) ∧
      entryOf (burning .running pA State.reset) pA = none ∧ usedByShow (burning .running pA State.reset) pA = false ∧
      lineFree (burning .running pA State.reset) (.screen pA.screen) ∧
      ((burning .fault pA State.reset).lamp pA).st = .fault ∧ (State.reset.lamp pA).st = .dark ∧
      ((burning .quenching pA State.reset).lamp pA).st = .quenching ∧ entryOf State.reset pA = none := by decide

def quenchAt (now : BoothTime) : State :=
  { withLamp pA (fun l => { l with quenchDue := some 100 }) (burning .running pA State.reset) with boothTime := now }

/-- A lit lamp under a reel of 65,535 frames that its carbon cannot last. -/
def shortState (carbon : Nat) : State :=
  trimmed carbon pA (burning .running pA (State.reset.setCtx pA (some ⟨48, { film with length := 65535 }, true, false⟩)))

theorem test_meets_TrimAndForecast :
    lineFree (loaded pA 0 false) (.screen pA.screen) ∧ 6000 ≤ 6000 ∧ ((loaded pA 0 false).lamp pA).st = .dark ∧
      (loaded pA 0 false).ctx pA = some (ctxOf false) ∧ State.reset.ctx pA = none ∧
      (let s := burning .running pA State.reset
       s.running = true ∧ (s.lamp pA).lit = true ∧ (s.lamp pA).litCurrent = some 45 ∧ s.ctx pA = none ∧
         Forecast.noReel.isShort = false) ∧
      (let s := shortState 151
       s.running = true ∧ (s.lamp pA).lit = true ∧ (s.lamp pA).forecast.isShort = false ∧
         (figuresOf s pA ⟨48, { film with length := 65535 }, true, false⟩ 40 .full).verdict.isShort = true) := by
  decide +kernel

/-- The cases of the standby seconds and of the run seconds: a lamp in STANDBY against an ACTIVE projector before and at its
changeover cue, and without one; a quench due that has passed and one that has not. -/
theorem test_meets_TrimAndForecast_figures :
    (∀ frames ∈ [1875, 1876],
      let s := burning .standby pB (shown .showing .active frames)
      (s.lamp pB).st = .standby ∧ (s.lamp pB).target = none ∧ (s.lamp pB).quenchDue = none ∧
        s.ctx pB.other = some (ctxOf true) ∧ (s.seq .n1).role pB.side.other = .active ∧
        (s.chan pB.other).frames = frames ∧ film.xco = 1876) ∧
      (burning .standby pA State.reset).ctx pA.other = none ∧ (State.reset.lamp pA).st ≠ .standby ∧
      (State.reset.lamp pA).lit = false ∧ ((burning .running pA State.reset).lamp pA).st = .running ∧
      ((quenchAt 99).lamp pA).quenchDue = some 100 ∧ (quenchAt 99).boothTime = 99 ∧
      ((quenchAt 100).lamp pA).quenchDue = some 100 ∧ (quenchAt 100).boothTime = 100 ∧ passed 100 100 = true ∧ passed 99 100 = false := by decide +kernel

/-- The three lengths of carbon of the economy choice, and a lamp whose burn rate is not 0. -/
theorem test_meets_TrimAndForecast_choice :
    ([1540, 1475, 1460].map (fun n =>
      let s := forecastState .dark n 0
      let c : Context := ⟨12, reelA, false, false⟩
      let first := figuresOf s ⟨.n2, .b⟩ c (s.lamp ⟨.n2, .b⟩).settings.warm .full
      let second := figuresOf s ⟨.n2, .b⟩ c (s.lamp ⟨.n2, .b⟩).settings.minWarm .economy
      (decide (s.ctx ⟨.n2, .b⟩ = some c), decide ((first.need : Int) ≤ first.available),
        decide ((second.need : Int) ≤ second.available),
        decide (0 < burnRate (s.lamp ⟨.n2, .b⟩).settings.burn first.runCurrent)))) =
      [(true, true, true, true), (true, false, true, true), (true, false, false, true)] := by decide +kernel

/-- A STRIKING lamp in a phase, after so many samples and attempts. -/
def striking (phase : StrikePhase) (samples attempts carbon : Nat) : State :=
  withLamp pA (fun l => { l with
    st := .striking, phase := some phase, touchSamples := samples, attempts := attempts, carbon := carbon,
    litCurrent := some 45, fixedSurge := 20, target := some .running }) State.reset

theorem test_meets_StrikeAttempts :
    (striking .touch 59 3 151).running = true ∧ ((striking .touch 59 3 151).lamp pA).st = .striking ∧ 255 ≤ 255 ∧
      ((striking .touch 59 3 151).lamp pA).phase = some .touch ∧ 30 ≤ 30 ∧ 29 < 30 ∧
      ((striking .touch 58 1 150).lamp pA).touchSamples + 1 < 60 ∧
      ((striking .touch 58 1 150).lamp pA).carbon ≤ ((striking .touch 58 1 150).lamp pA).settings.margin ∧
      ((striking .touch 58 1 151).lamp pA).carbon = ((striking .touch 58 1 151).lamp pA).settings.margin + 1 ∧
      ((striking .touch 58 1 152).lamp pA).settings.margin + 1 < ((striking .touch 58 1 152).lamp pA).carbon ∧
      60 ≤ ((striking .touch 59 3 151).lamp pA).touchSamples + 1 ∧ 3 ≤ ((striking .touch 59 3 151).lamp pA).attempts ∧
      ((striking .touch 59 2 151).lamp pA).attempts < 3 ∧
      ((striking .draw 0 2 151).lamp pA).phase = some .draw ∧ (striking .draw 0 2 151).budget.overdrawn = false ∧
      20 ≤ 20 ∧ 19 < 20 ∧ ((striking .draw 0 2 151).lamp pA).attempts < 3 ∧
      ((striking .coolOff 0 2 151).lamp pA).phase = some .coolOff ∧
      ((striking .coolOff 0 2 151).lamp pA).settings.margin < ((striking .coolOff 0 2 151).lamp pA).carbon ∧
      ((striking .coolOff 0 2 150).lamp pA).carbon ≤ ((striking .coolOff 0 2 150).lamp pA).settings.margin := by decide

def fed (pendingFeed carbon : Nat) : State :=
  withLamp pA (fun l => { l with pendingFeed := pendingFeed, carbon := carbon }) (burning .running pA State.reset)

theorem test_meets_RegulationAndFeed :
    (fed 24 151).running = true ∧ ((fed 24 151).lamp pA).lit = true ∧ 255 ≤ 255 ∧ ((fed 0 151).lamp pA).pendingFeed = 0 ∧
      ((fed 24 150).lamp pA).carbon ≤ ((fed 24 150).lamp pA).settings.margin ∧ 0 < ((fed 24 151).lamp pA).pendingFeed ∧
      ((fed 24 151).lamp pA).settings.margin < ((fed 24 151).lamp pA).carbon ∧
      ¬ (((fed 24 152).lamp pA).carbon - 1 ≤ ((fed 24 152).lamp pA).settings.margin) := by decide

def lowAt (count : Nat) : State := withLamp pA (fun l => { l with lowCount := count }) (burning .running pA State.reset)

theorem test_meets_CurrentSamplesAndArcOut :
    (lowAt 1).running = true ∧ ((lowAt 1).lamp pA).lit = true ∧ 20 ≤ 20 ∧ 19 < 20 ∧ ((lowAt 1).lamp pA).lowCount + 1 < 3 ∧
      3 ≤ ((lowAt 2).lamp pA).lowCount + 1 ∧ ((lowAt 2).lamp pA).quenchDue = none ∧
      ((lowAt 2).lamp pA).settings.margin < ((lowAt 2).lamp pA).carbon ∧ ((lowAt 2).lamp pA).lastArcOut = none ∧
      (lowAt 2).fire.on = false ∧ entryOf (lowAt 2) pA = none ∧ ((lowAt 2).lamp pA).lit = true := by decide

def quenchingAt (now : BoothTime) (queue : List Entry) : State :=
  let s := withLamp pA (fun l => { l with st := .quenching, quenchingEnd := some 100 }) State.reset
  { s with boothTime := now, budget := { s.budget with queue := queue } }

theorem test_meets_QuenchWaits :
    (quenchAt 100).running = true ∧ ((quenchAt 100).lamp pA).quenchDue = some 100 ∧
      ((quenchAt 100).boothTime - 100).toNat < 8388608 ∧ ((quenchAt 100).lamp pA).inUse = true ∧
      8388608 ≤ ((quenchAt 99).boothTime - 100).toNat ∧ ((quenchingAt 99 []).lamp pA).st = .quenching ∧
      ((quenchingAt 99 []).lamp pA).quenchingEnd = some 100 ∧ 8388608 ≤ ((quenchingAt 99 []).boothTime - 100).toNat ∧
      ((quenchingAt 100 []).boothTime - 100).toNat < 8388608 ∧ entryOf (quenchingAt 100 []) pA = none ∧
      entryOf (quenchingAt 100 [⟨pA, 0, 0, true, false⟩]) pA = some ⟨pA, 0, 0, true, false⟩ := by decide

theorem test_meets_BurnRateFollowsTheTable :
    burnOk ⟨⟨30, 10⟩, ⟨31, 250⟩, ⟨119, 10⟩, ⟨120, 250⟩⟩ = true ∧ 30 ≤ 30 ∧ (120 : Nat) ≤ 120 ∧
      (let t : BurnTable := ⟨⟨30, 10⟩, ⟨31, 250⟩, ⟨119, 10⟩, ⟨120, 250⟩⟩
       (t.p2, t.p3) ∈ [(t.p1, t.p2), (t.p2, t.p3), (t.p3, t.p4)] ∧ t.p2.current ≤ 31 ∧ 118 < t.p3.current) := by decide

/-! ## Witnesses: the budget and the lights -/

def budgetOf (cap : Nat) (queue : List Entry) (now : BoothTime) (s : State) : State :=
  { s with boothTime := now, budget := { s.budget with cap := cap, queue := queue } }

def entryA (deadline : BoothTime) : Entry := ⟨pA, deadline, 0, false, false⟩

theorem test_meets_BudgetOrdersSetTheBudget :
    lineFree State.reset .house ∧ 400 ≤ 400 ∧ State.reset.budget.cap < 400 ∧ State.reset.fire.on = false ∧
      sigma State.reset ≤ 0 ∧ 0 < State.reset.budget.cap ∧
      (let s := burning .running pA State.reset
       44 < s.budget.cap ∧ 44 < sigma s ∧ sigma s ≤ 45 ∧ 45 < s.budget.cap ∧ lineFree s .house) ∧
      60 ≤ 60 ∧ (5 ≤ 5 ∧ 5 ≤ 120 ∧ 120 ≤ 120 ∧ 10 ≤ 10 ∧ 10 ≤ 300 ∧ 300 ≤ 300) ∧ State.reset.budget.queue = [] ∧
      (budgetOf 240 [entryA 50] 0 State.reset).budget.queue = entryA 50 :: [] ∧
      leadPassed { (budgetOf 240 [entryA 50] 0 State.reset) with
        budget := { (budgetOf 240 [entryA 50] 0 State.reset).budget with lead := 5 } } (entryA 50) = true ∧
      leadPassed { (budgetOf 240 [entryA 51] 0 State.reset) with
        budget := { (budgetOf 240 [entryA 51] 0 State.reset).budget with lead := 5 } } (entryA 51) = false := by decide

theorem test_meets_LeadPointsAndLateStrikes :
    State.reset.running = true ∧ State.reset.budget.queue = [] ∧
      (budgetOf 240 [entryA 300] 0 State.reset).running = true ∧
      (budgetOf 240 [entryA 300] 0 State.reset).budget.queue = entryA 300 :: [] ∧
      (budgetOf 240 [entryA 300] 0 State.reset).budget.leadTaken = false ∧ passed 0 (300 - BitVec.ofNat 24 (10 * 30)) = true ∧ passed 0 (301 - BitVec.ofNat 24 (10 * 30)) = false ∧
      entryOf State.reset pA = none ∧ entryOf (budgetOf 240 [entryA 5] 5 State.reset) pA = some (entryA 5) ∧
      passed 5 5 = true ∧ (entryA 5).lateSent = false ∧ passed 4 5 = false := by decide

/-- 1A waits at the head and exactly fits; 1B burns. -/
def contended : State :=
  { budgetOf 110 [entryA 600] 0 (withLamp pA (fun l => { l with st := .queued, carbon := 151 })
      (burning .running pB State.reset)) with pending := [.setCapacity .house 110] }

theorem queueOk_contended : queueOk contended := by
  refine ⟨by unfold oneEntryEach; decide, ?_⟩
  unfold entriesWait
  decide

theorem test_meets_EntriesBelongToWaitingLamps : queueOk contended ∧ ∃ t, step contended = .next t :=
  ⟨queueOk_contended, next_of_answered (by decide +kernel)⟩

theorem test_meets_ChargesStayWithinCap :
    withinCap contended ∧ 0 < sigma contended ∧ ∃ t, step contended = .next t :=
  ⟨⟨fun h => (by cases h), fun _ => (by decide)⟩, by decide, next_of_answered (by decide +kernel)⟩

theorem test_meets_AHeadThatFitsIsGranted :
    contended.budget.queue = entryA 600 :: [] ∧ contended.fire.on = false ∧ contended.budget.overdrawn = false ∧
      (entryA 600).held = false ∧ (contended.lamp (entryA 600).lamp).settings.margin < (contended.lamp (entryA 600).lamp).carbon ∧
      sigma contended + effectiveCurrent contended pA + contended.budget.surge ≤ contended.budget.cap ∧
      contended.budget.cap = sigma contended + effectiveCurrent contended pA + contended.budget.surge ∧ queueOk contended :=
  ⟨by decide, by decide, by decide, by decide, by decide, by decide, by decide, queueOk_contended⟩

theorem test_meets_LightsPlaceManualClaims :
    lineFree State.reset .house ∧ (4 ≤ 4 ∧ 0 ≤ 4) ∧
      (∃ k, LightsForm.scene 7 = .scene k ∧ k ≤ 7 ∧ 100 = (State.reset.scene k).house ∧ 100 = (State.reset.scene k).aisle ∧
        0 = (State.reset.scene k).fade) ∧
      ∃ h x, LightsForm.levels 255 5 600 = .levels h x 600 ∧ 600 ≤ 600 ∧ 100 = min 100 h ∧ 5 = min 100 x :=
  ⟨by decide, by decide, ⟨7, by decide⟩, ⟨255, 5, by decide⟩⟩

def manualAt (target : Nat) (winner : Winner) (tenths : Nat) : State :=
  State.reset.setCirc ⟨.n1, .aisle⟩
    { Circuit.reset 100 with manual := some ⟨target, .time tenths, winner == .rest⟩, winner := winner }

theorem test_meets_FloorAndRestLevels :
    lineFree State.reset .house ∧ (State.reset.circ ⟨.n1, .aisle⟩).winnerNow = .rest ∧
      ((manualAt 5 .manual 0).circ ⟨.n1, .aisle⟩).winnerNow ≠ .rest ∧ lineFree (manualAt 5 .manual 0) .house ∧
      ((showOf .ready 1).seq .n1).showState ≠ .closed ∧ (State.reset.seq .n1).showState = .closed := by decide

theorem test_meets_FadesFollowTheWinner :
    (State.reset.circ ⟨.n1, .aisle⟩).winnerChanged = false ∧
      ((manualAt 5 .rest 0).circ ⟨.n1, .aisle⟩).winnerChanged = true ∧
      ((manualAt 5 .rest 0).circ ⟨.n1, .aisle⟩).wanted ((manualAt 5 .rest 0).circ ⟨.n1, .aisle⟩).winnerNow = (5, .time 0) ∧
      ((manualAt 5 .rest 600).circ ⟨.n1, .aisle⟩).wanted ((manualAt 5 .rest 600).circ ⟨.n1, .aisle⟩).winnerNow =
        (5, .time 600) ∧
      ((manualAt 5 .rest 600).circ ⟨.n1, .aisle⟩).winnerChanged = true ∧
      (0 < 1 ∧ 0 ≤ 1000 ∧ 1000 ≤ 1000) ∧ (⟨0, 5, 2, 0, none⟩ : Fade).k + 1 < (⟨0, 5, 2, 0, none⟩ : Fade).n ∧
      (⟨0, 5, 2, 1, none⟩ : Fade).n ≤ (⟨0, 5, 2, 1, none⟩ : Fade).k + 1 := by decide

def fading (film : Option FilmFade) : State :=
  (showOf .interval 2).setCirc ⟨.n1, .aisle⟩ { Circuit.reset 100 with fade := some ⟨1000, 0, 30, 29, film⟩ }

theorem test_meets_BoothTimeAdvances :
    (fading none).running = true ∧ ((fading none).seq .n1).showState = .interval ∧
      (State.reset.seq .n1).showState ≠ .interval ∧ ((fading none).circ ⟨.n1, .house⟩).fade = none ∧
      ((fading none).circ ⟨.n1, .aisle⟩).fade = some ⟨1000, 0, 30, 29, none⟩ ∧
      ((fading (some ⟨pA, 5, true⟩)).circ ⟨.n1, .aisle⟩).fade = some ⟨1000, 0, 30, 29, some ⟨pA, 5, true⟩⟩ ∧
      ((fading (some ⟨pA, 5, false⟩)).circ ⟨.n1, .aisle⟩).fade = some ⟨1000, 0, 30, 29, some ⟨pA, 5, false⟩⟩ ∧
      (⟨pA, 5, true⟩ : FilmFade).marked = true ∧ (⟨pA, 5, false⟩ : FilmFade).marked = false := by decide

/-- The head's lead point has acted. -/
def leadMet (s : State) : State := { s with budget := { s.budget with leadTaken := true } }

def onlyDue (c : Instr) (s : State) : Bool :=
  s.running && isDue s c && waitRows.all (fun d => d == c || (!isDue s d && (runAll [c] s).running && !isDue (runAll [c] s) d))

/-- A state with no wait due, and for each kind of wait one in which it alone has ended, before and after it is taken. -/
theorem test_meets_BoothTimeAdvances_waits :
    waitRows.all (fun d => !isDue State.reset d) = true ∧
      onlyDue (.intervalExpiry .n1) { inInterval (fun l => { l with carbon := 151 }) with contexts := State.reset.contexts } =
        true ∧
      onlyDue (.quenchDue pA) (quenchAt 100) = true ∧ onlyDue (.quenchingEnd pA) (quenchingAt 100 []) = true ∧
      onlyDue .leadPoint (budgetOf 240 [{ entryA 300 with held := true }] 0 State.reset) = true ∧
      isDue (runAll [.leadPoint] (budgetOf 240 [{ entryA 300 with held := true }] 0 State.reset)) .leadPoint = false ∧
      onlyDue (.strikeLate pA) (leadMet (budgetOf 240 [{ entryA 5 with held := true }] 5 State.reset)) = true := by decide +kernel

/-- The half second of a frame is fifty booth ticks (R154, R166). -/
theorem test_a_frame_has_fifty_ticks :
    ([48, 49].map (fun e =>
      let s := withLine l1 (fun x => { x with asm := .frame none [] e }) { State.reset with stampSub := 99 }
      match step s with
      | .next t => ((t.line l1).asm, (t.line l1).tx)
      | _ => (.hunt, none))) =
      [(.frame none [] 49, none), (.hunt, some (.reply (.garbled .time)))] := by decide +kernel

/-- The quench that comes due at a commanded advance is taken by it (R89, R166). -/
theorem test_an_advance_takes_a_quench_due :
    (let t := runAll [.boothTimeAdvance] (quenchAt 99)
     t.boothTime = 100 ∧ ((runAll [.boothTimeAdvance] (quenchAt 98)).lamp pA).quenchDue = some 100 ∧
       (t.lamp pA).inUse = false ∧ (t.lamp pA).quenchDue = none) := by decide +kernel

/-! ## Witnesses: fire protection -/

/-- 1A with a gate flame and its persistence timer. -/
def flaming (s : State) : State :=
  s.modFire (fun f => { (f.setFlame pA true).setTimer pA (some 19) with marks := f.marks.set .n1 true })

theorem test_meets_ARisingSourceEntersBoothFire :
    (let s := flaming (shown .showing .active 5)
     s.running = true ∧ s.fire.on = false ∧ s.fire.sources.any = false ∧ lineFree s .house ∧ s.fire.timer pA = some 19 ∧
       (s.seq .n1).showState ≠ .closed ∧ (s.seq .n2).showState = .closed) ∧
      (∃ i, Source.input .link = .input i ∧ Instr.fireSourceInput .link true = .fireSourceInput i true) ∧
      (∃ l, Source.line .house = .line l ∧ Instr.fireAssert .house = .fireAssert l ∧ lineFree State.reset l) ∧
      ∃ p k, Source.gate = .gate ∧ Instr.persistence pA = .persistence p ∧
        (flaming (shown .showing .active 5)).fire.timer p = some k :=
  ⟨by decide, ⟨.link, rfl, rfl⟩, ⟨.house, rfl, rfl, by decide⟩, ⟨pA, 19, rfl, rfl, by decide⟩⟩

def firing (sources : Sources) : FireEntry := ⟨0, sources, none, .openEntry⟩

/-- Booth fire, with so many sources and its open entry before a closed one. -/
def onFire (sources : Sources) : State :=
  let s := State.reset.modFire (fun f => { f with
    on := true, sources := sources, record := [firing sources, ⟨0, Sources.clear, some 0, .cleared⟩] })
  { s with circuits := Quad.fill (Duo.fill { Circuit.reset 100 with fireBooth := true, winner := .fire, engine := 1000 }) }

theorem test_meets_SourcesFallAndFireIsCleared :
    State.reset.running = true ∧ lineFree State.reset l1 ∧
      (let x := { Sources.clear with panel := true }
       (onFire x).running = true ∧ (onFire x).fire.on = true ∧ (onFire x).fire.sources.get (.input .heat1) = false ∧
         (onFire x).fire.record = firing x :: [⟨0, Sources.clear, some 0, .cleared⟩] ∧ (firing x).ended = .openEntry) ∧
      lineFree (onFire Sources.clear) .house ∧ (onFire Sources.clear).fire.on = true ∧
      (onFire Sources.clear).fire.sources.any = false ∧
      (onFire Sources.clear).fire.record = firing Sources.clear :: [⟨0, Sources.clear, some 0, .cleared⟩] := by decide

theorem test_meets_GateFlamesAreLocalFires :
    (shown .showing .active 5).running = true ∧ (shown .showing .active 5).fire.flame pA = false ∧
      ((shown .showing .active 5).seq .n1).showState ≠ .closed ∧ (flaming State.reset).fire.flame pA = true ∧
      (∀ q, q ≠ pA → (flaming State.reset).fire.flame q = false) ∧
      (∃ q, q ≠ pA ∧ ((flaming State.reset).modFire (fun f => f.setFlame pB true)).fire.flame q = true) := by
  refine ⟨by decide, by decide, by decide, by decide, ?_, ⟨pB, by decide, by decide⟩⟩
  intro q
  rcases q with ⟨n, x⟩
  cases n <;> cases x <;> decide

def hung (s : State) : State := s.modFire (fun f => { f with holds := Quad.fill (Trio.fill true), ups := Quad.fill (Trio.fill true) })

theorem test_meets_RehangAndUpSwitches :
    lineFree State.reset l1 ∧ State.reset.fire.on = false ∧ State.reset.fire.flame pA = false ∧
      State.reset.fire.flame pB = false ∧ State.reset.fire.up ⟨.n4, .o⟩ ≠ true ∧ State.reset.fire.hold ⟨.n4, .o⟩ = false ∧
      (hung State.reset).running = true ∧ (hung State.reset).fire.up ⟨.n1, .a⟩ ≠ false ∧
      (hung State.reset).fire.hold ⟨.n1, .a⟩ = true ∧
      (∀ p, portOf p = ⟨.n1, .a⟩ → ((hung State.reset).seq p.screen).role p.side ≠ .active) ∧
      portOf pA = ⟨.n1, .a⟩ ∧ ((hung (shown .showing .active 5)).seq .n1).role .a = .active ∧
      dowserOpen (hung (shown .showing .active 5)) pA = true ∧
      ((hung (shown .showing .active 5)).seq .n1).showState = .showing ∧
      (hung (shown .showing .active 5)).fire.hold ⟨.n1, .a⟩ = true := by
  refine ⟨by decide, by decide, by decide, by decide, by decide, by decide, by decide, by decide, by decide, ?_, by decide,
    by decide, by decide, by decide, by decide⟩
  intro p
  rcases p with ⟨n, x⟩
  cases n <;> cases x <;> decide

def scan (flame : Bool) : ScanInputs :=
  ⟨false, false, false, true, Quad.fill (Pair.fill flame), Quad.fill (Trio.fill true), Quad.fill (Pair.fill 255),
    Quad.fill (Pair.fill 0)⟩

theorem test_meets_TheFirstScanDelivers :
    State.reset.running = true ∧ State.reset.scanDue = true ∧ State.reset.fire.on = false ∧
      (∀ p, ((scan false).flames.get p.screen).get p.side = true → State.reset.fire.flame p = true) ∧
      ({ State.reset with scanDue := false } : State).scanDue = false := by
  refine ⟨by decide, by decide, by decide, ?_, by decide⟩
  intro p
  rcases p with ⟨n, x⟩
  cases n <;> cases x <;> decide

theorem test_meets_BoothFireHolds :
    (let s := { onFire { Sources.clear with panel := true } with pending := [.perforationPulse pA] }
     fireSafe s ∧ s.fire.on = true ∧ ∃ t, step s = .next t) := by
  refine ⟨⟨?_, fun _ => ⟨fun _ => ⟨?_, ?_, ?_⟩, by decide, ?_, ?_, ?_⟩⟩, by decide, next_of_answered (by decide +kernel)⟩
  · intro n; exact ⟨by cases n <;> decide, by cases n <;> decide⟩
  · intro p; rcases p with ⟨n, x⟩; cases n <;> cases x <;> decide
  · intro p; rcases p with ⟨n, x⟩; cases n <;> cases x <;> decide
  · intro c; rcases c with ⟨n, k⟩; cases n <;> cases k <;> decide
  · intro p; rcases p with ⟨n, x⟩; cases n <;> cases x <;> decide
  · intro c; rcases c with ⟨n, k⟩; cases n <;> cases k <;> decide
  · intro n; cases n <;> decide

/-! ## Witnesses: supplies and resets -/

theorem test_meets_SuppliesAndResets :
    State.reset.supply = .run ∧ State.reset.resetPin = false ∧ ({ State.reset with resetPin := true } : State).resetPin = true ∧
      (∀ valid ∈ [true, false],
        ({ State.reset with supply := .standby, storeValid := valid } : State).supply = .standby ∧
          ({ State.reset with supply := .standby, storeValid := valid } : State).storeValid = valid) := by decide

theorem test_meets_EveryResetGivesTheResetValues :
    (∃ t, everyReset projecting t) ∧ ∃ t, everyReset { onFire Sources.clear with supply := .standby } t := by
  obtain ⟨t, ht⟩ := next_of_answered (o := exec .panelReset projecting) (by decide +kernel)
  obtain ⟨u, hu⟩ :=
    next_of_answered (o := exec (.sgoodRise true) { onFire Sources.clear with supply := .standby }) (by decide +kernel)
  exact ⟨⟨t, Or.inl ⟨rfl, rfl, ht⟩⟩, ⟨u, Or.inr ⟨rfl, true, hu⟩⟩⟩

theorem test_meets_LinesAtEveryReset :
    (∃ t, everyReset brimming t) ∧ brimming.running = true ∧ (brimming.line l1).tx = some (.reply (.done 8)) ∧
      (State.reset.line l1).tx = none ∧ State.reset.running = true := by
  obtain ⟨t, ht⟩ := next_of_answered (o := exec .panelReset brimming) (by decide +kernel)
  exact ⟨⟨t, Or.inl ⟨rfl, rfl, ht⟩⟩, by decide, by decide, by decide, by decide⟩

end Sys2Proof.Tests
end

/-! # Proofs: what leaves the Store and the base of the state alone

`State.base` is the state but for its tables of contexts, channels, Sequencers, lamps, circuits, lines and the budget. The
operations on films, lamps and shows write those tables alone; the fire operations and the clock write the base, but not the
Store in it. The lemmas go through `still.base`, so that the `still` lemmas of the shared operations serve them too. -/

section

namespace Sys2Proof.Machine

/-- What the orders of the Reel Store write: the slots, the programs and the scenes (R1, R7, R10). -/
structure Store where
  reels : List (Option ReelRecord)
  programs : Quad (List ProgItem)
  scenes : List Scene

def State.store (s : State) : Store := ⟨s.reels, s.programs, s.scenes⟩

theorem store_base (s : State) : s.still.base.store = s.store := rfl

/-- What of `still` a forecast and the examination after a THREAD leave alone. -/
structure Loaded where
  base : State
  contexts : PerProj (Option Context)
  channels : PerProj Channel

def Still.loaded (x : Still) : Loaded := ⟨x.base, x.contexts, x.channels⟩

/-! ## The updates -/

@[simp] theorem modLamp_loaded (s : State) (p : Proj) (f : Lamp → Lamp) : (s.modLamp p f).still.loaded = s.still.loaded := rfl
@[simp] theorem modSeq_loaded (s : State) (n : Screen) (f : Sequencer → Sequencer) :
    (s.modSeq n f).still.loaded = s.still.loaded := rfl

@[simp] theorem setLamp_base (s : State) (p : Proj) (v : Lamp) : (s.setLamp p v).still.base = s.still.base := rfl
@[simp] theorem modLamp_base (s : State) (p : Proj) (f : Lamp → Lamp) : (s.modLamp p f).still.base = s.still.base := rfl
@[simp] theorem setChan_base (s : State) (p : Proj) (v : Channel) : (s.setChan p v).still.base = s.still.base := rfl
@[simp] theorem modChan_base (s : State) (p : Proj) (f : Channel → Channel) : (s.modChan p f).still.base = s.still.base := rfl
@[simp] theorem setCtx_base (s : State) (p : Proj) (v : Option Context) : (s.setCtx p v).still.base = s.still.base := rfl
@[simp] theorem setSeq_base (s : State) (n : Screen) (v : Sequencer) : (s.setSeq n v).still.base = s.still.base := rfl
@[simp] theorem modSeq_base (s : State) (n : Screen) (f : Sequencer → Sequencer) :
    (s.modSeq n f).still.base = s.still.base := rfl
@[simp] theorem modCirc_base (s : State) (c : Circ) (f : Circuit → Circuit) : (s.modCirc c f).still.base = s.still.base := rfl
@[simp] theorem modLine_base (s : State) (l : Line) (f : LineState → LineState) :
    (s.modLine l f).still.base = s.still.base := rfl
@[simp] theorem modBudget_base (s : State) (f : Budget → Budget) : (s.modBudget f).still.base = s.still.base := rfl
@[simp] theorem everyCircuit_base (f : Circuit → Circuit) (s : State) : (everyCircuit f s).still.base = s.still.base := rfl
@[simp] theorem reply_base (l : Line) (r : Reply) (s : State) : (reply l r s).still.base = s.still.base := rfl

@[simp] theorem modFire_store (s : State) (f : FireUnit → FireUnit) :
    (s.modFire f).still.base.store = s.still.base.store := rfl

/-- What `f` leaves alone for each name, a walk over the names leaves alone. -/
theorem forEach_frame {α β : Type} (names : List α) (f : α → State → State) (view : State → β)
    (h : ∀ x t, view (f x t) = view t) (s : State) : view (forEach names f s) = view s := by
  unfold forEach
  induction names generalizing s with
  | nil => rfl
  | cons x xs ih => rw [List.foldl_cons, ih, h]

/-! ## Lights -/

@[simp] theorem programTakes_loaded (n : Screen) (k : Nat) (s : State) :
    (programTakes n k s).still.loaded = s.still.loaded := rfl

@[simp] theorem placeBoth_base (n : Screen) (w : Winner) (h a : Nat) (d : FadeDesc) (s : State) :
    (placeBoth n w h a d s).still.base = s.still.base := rfl

@[simp] theorem programTakes_base (n : Screen) (k : Nat) (s : State) : (programTakes n k s).still.base = s.still.base := rfl

@[simp] theorem programTakesFilm_base (n : Screen) (k f : Nat) (p : Proj) (s : State) :
    (programTakesFilm n k f p s).still.base = s.still.base := rfl

@[simp] theorem removeClaims_base (n : Screen) (w : Winner) (s : State) :
    (removeClaims n w s).still.base = s.still.base := rfl

@[simp] theorem setLocalHolder_base (v : Bool) (n : Screen) (s : State) :
    (setLocalHolder v n s).still.base = s.still.base := rfl

@[simp] theorem setBoothHolder_base (v : Bool) (s : State) : (setBoothHolder v s).still.base = s.still.base :=
  forEach_frame _ _ (fun t => t.still.base) (fun _ t => by simp) s

/-! ## Channels -/

@[simp] theorem clearRing_base (p : Proj) (s : State) : (clearRing p s).still.base = s.still.base := rfl

@[simp] theorem examineMotion_base (p : Proj) (s : State) : (examineMotion p s).still.base = s.still.base := by
  unfold examineMotion
  split
  · rfl
  · dsimp only
    split_ifs <;> simp

@[simp] theorem channelFrame_base (p : Proj) (s : State) : (channelFrame p s).still.base = s.still.base := by
  unfold channelFrame
  dsimp only
  split_ifs <;> simp

@[simp] theorem channelThread_base (p : Proj) (s : State) : (channelThread p s).still.base = s.still.base := by
  simp [channelThread]

@[simp] theorem channelUnthread_base (p : Proj) (s : State) : (channelUnthread p s).still.base = s.still.base := by
  simp [channelUnthread]

@[simp] theorem channelResume_base (p : Proj) (s : State) : (channelResume p s).still.base = s.still.base := by
  unfold channelResume
  split <;> simp

/-! ## Lamps and forecasts -/

@[simp] theorem withStubCheck_base (p : Proj) (f : Lamp → Lamp) (s : State) :
    (withStubCheck p f s).still.base = s.still.base := by
  unfold withStubCheck
  dsimp only
  split_ifs <;> simp

@[simp] theorem keepForecast_loaded (p : Proj) (f : Forecast) (s : State) :
    (keepForecast p f s).still.loaded = s.still.loaded := by
  unfold keepForecast
  dsimp only
  split <;> simp

@[simp] theorem singleForecast_loaded (p : Proj) (s : State) : (singleForecast p s).still.loaded = s.still.loaded := by
  unfold singleForecast
  split <;> simp

@[simp] theorem economyChoice_loaded (p : Proj) (s : State) : (economyChoice p s).still.loaded = s.still.loaded := by
  unfold economyChoice
  split
  · simp
  · dsimp only
    split_ifs <;> simp [chooseWarm]

@[simp] theorem threadForecast_loaded (p : Proj) (s : State) : (threadForecast p s).still.loaded = s.still.loaded := by
  unfold threadForecast
  split_ifs <;> simp

@[simp] theorem singleForecast_base (p : Proj) (s : State) : (singleForecast p s).still.base = s.still.base :=
  congrArg Loaded.base (singleForecast_loaded p s)

@[simp] theorem economyChoice_base (p : Proj) (s : State) : (economyChoice p s).still.base = s.still.base :=
  congrArg Loaded.base (economyChoice_loaded p s)

@[simp] theorem threadForecast_base (p : Proj) (s : State) : (threadForecast p s).still.base = s.still.base :=
  congrArg Loaded.base (threadForecast_loaded p s)

@[simp] theorem lightLamp_base (p : Proj) (s : State) : (lightLamp p s).still.base = s.still.base := by
  unfold lightLamp
  dsimp only
  split_ifs <;> simp

@[simp] theorem arcOut_base (p : Proj) (s : State) : (arcOut p s).still.base = s.still.base := by
  unfold arcOut
  dsimp only
  split_ifs <;> simp

/-! ## Sequencers -/

@[simp] theorem beginStart_loaded (p : Proj) (k : StartKind) (s : State) :
    (beginStart p k s).still.loaded = s.still.loaded := by
  unfold beginStart
  dsimp only
  split_ifs <;> simp

@[simp] theorem examinePending_loaded (n : Screen) (s : State) : (examinePending n s).still.loaded = s.still.loaded := by
  unfold examinePending
  split_ifs
  · split <;> simp
  · rfl

@[simp] theorem examineThreading_loaded (n : Screen) (s : State) :
    (examineThreading n s).still.loaded = s.still.loaded := by
  simp [examineThreading]

@[simp] theorem beginStart_base (p : Proj) (k : StartKind) (s : State) : (beginStart p k s).still.base = s.still.base :=
  congrArg Loaded.base (beginStart_loaded p k s)

@[simp] theorem examinePending_base (n : Screen) (s : State) : (examinePending n s).still.base = s.still.base :=
  congrArg Loaded.base (examinePending_loaded n s)

@[simp] theorem examineThreading_base (n : Screen) (s : State) : (examineThreading n s).still.base = s.still.base :=
  congrArg Loaded.base (examineThreading_loaded n s)

@[simp] theorem emptyContext_base (p : Proj) (s : State) : (emptyContext p s).still.base = s.still.base := by
  unfold emptyContext
  split <;> simp

@[simp] theorem reelEnds_base (p : Proj) (s : State) : (reelEnds p s).still.base = s.still.base := by
  unfold reelEnds
  dsimp only
  split <;> simp

@[simp] theorem endIfReached_base (p : Proj) (s : State) : (endIfReached p s).still.base = s.still.base := by
  unfold endIfReached
  split
  · split_ifs <;> simp
  · rfl

@[simp] theorem actOnMark_base (p : Proj) (m : LightMark) (s : State) : (actOnMark p m s).still.base = s.still.base := by
  unfold actOnMark
  split <;> simp

@[simp] theorem lightMarks_base (p : Proj) (s : State) : (lightMarks p s).still.base = s.still.base := by
  unfold lightMarks
  split
  · exact forEach_frame _ _ (fun t => t.still.base) (actOnMark_base p) s
  · rfl

@[simp] theorem sequencerFrame_base (p : Proj) (s : State) : (sequencerFrame p s).still.base = s.still.base := by
  unfold sequencerFrame
  dsimp only
  split <;> try split_ifs
  all_goals simp

@[simp] theorem onRunout_base (p : Proj) (s : State) : (onRunout p s).still.base = s.still.base := by
  unfold onRunout
  split <;> simp

@[simp] theorem expireInterval_base (n : Screen) (s : State) : (expireInterval n s).still.base = s.still.base := by
  unfold expireInterval
  split
  · simp
  · dsimp only
    split <;> simp

/-! ## Film events -/

@[simp] theorem frameEvent_base (p : Proj) (s : State) : (frameEvent p s).still.base = s.still.base := by
  simp [frameEvent]

@[simp] theorem perforation_base (p : Proj) (d : Nat) (s : State) : (perforation p d s).still.base = s.still.base := by
  unfold perforation
  split_ifs <;> simp

@[simp] theorem cuePulse_base (p : Proj) (s : State) : (cuePulse p s).still.base = s.still.base := by
  unfold cuePulse
  dsimp only
  split_ifs <;> simp

@[simp] theorem breakReached_base (p : Proj) (s : State) : (breakReached p s).still.base = s.still.base := by
  unfold breakReached
  dsimp only
  split_ifs <;> simp

@[simp] theorem breakNow_base (p : Proj) (s : State) : (breakNow p s).still.base = s.still.base := by
  unfold breakNow
  split_ifs <;> simp

@[simp] theorem coastNow_base (p : Proj) (s : State) : (coastNow p s).still.base = s.still.base := by
  unfold coastNow
  dsimp only
  split_ifs <;> simp

/-! ## Lamp events -/

@[simp] theorem touchSample_base (p : Proj) (v : Nat) (s : State) : (touchSample p v s).still.base = s.still.base := by
  unfold touchSample touchFeed
  dsimp only
  split_ifs <;> simp

@[simp] theorem drawEnd_base (p : Proj) (v : Nat) (s : State) : (drawEnd p v s).still.base = s.still.base := by
  unfold drawEnd
  dsimp only
  split_ifs <;> simp

@[simp] theorem regulate_base (p : Proj) (v : Nat) (s : State) : (regulate p v s).still.base = s.still.base := rfl

@[simp] theorem feedInterval_base (p : Proj) (s : State) : (feedInterval p s).still.base = s.still.base := by
  unfold feedInterval feedStep
  split_ifs <;> simp

@[simp] theorem litSample_base (p : Proj) (v : Nat) (s : State) : (litSample p v s).still.base = s.still.base := by
  unfold litSample
  dsimp only
  split_ifs <;> simp

@[simp] theorem waitEnds_base (c : Instr) (s : State) : (waitEnds c s).still.base = s.still.base := by
  unfold waitEnds
  split <;> simp

@[simp] theorem takeWait_base (c : Instr) (s : State) : (takeWait c s).still.base = s.still.base := by
  unfold takeWait
  split_ifs <;> simp

@[simp] theorem boothWaits_base (s : State) : (boothWaits s).still.base = s.still.base :=
  forEach_frame _ _ (fun t => t.still.base) takeWait_base s

@[simp] theorem advanceWithWaits_store (s : State) : (advanceWithWaits s).still.base.store = s.still.base.store := by
  unfold advanceWithWaits
  rw [boothWaits_base, settle_still]
  rfl

/-! ## Fire -/

@[simp] theorem modSources_store (f : Sources → Sources) (s : State) :
    (modSources f s).still.base.store = s.still.base.store := rfl

@[simp] theorem modOpenEntry_store (f : FireEntry → FireEntry) (s : State) :
    (modOpenEntry f s).still.base.store = s.still.base.store := rfl

@[simp] theorem boothFire_store (s : State) : (boothFire s).still.base.store = s.still.base.store := by
  have haltAll (t : State) : (forEach Screen.all haltFire t).still = t.still := forEach_still _ _ haltFire_still t
  have quenchAll (t : State) : (forEach Proj.all fireLamp t).still = t.still :=
    forEach_still _ _ (fun p u => by simp [fireLamp]) t
  simp [boothFire, haltAll, quenchAll]

@[simp] theorem recordSource_store (x : Source) (s : State) : (recordSource x s).still.base.store = s.still.base.store := by
  unfold recordSource
  dsimp only
  split <;> simp

@[simp] theorem sourceRise_store (x : Source) (s : State) : (sourceRise x s).still.base.store = s.still.base.store := by
  unfold sourceRise
  dsimp only
  split_ifs <;> simp

@[simp] theorem sourceFall_store (x : Source) (s : State) : (sourceFall x s).still.base.store = s.still.base.store := rfl

@[simp] theorem sourceFollows_store (i : FireInput) (v : Bool) (s : State) :
    (sourceFollows i v s).still.base.store = s.still.base.store := by
  unfold sourceFollows
  split_ifs <;> simp

@[simp] theorem flameRise_store (p : Proj) (s : State) : (flameRise p s).still.base.store = s.still.base.store := by
  simp [flameRise]

@[simp] theorem flameFall_store (p : Proj) (s : State) : (flameFall p s).still.base.store = s.still.base.store := by
  unfold flameFall
  dsimp only
  split_ifs <;> simp

@[simp] theorem persistenceReached_store (p : Proj) (s : State) :
    (persistenceReached p s).still.base.store = s.still.base.store := by
  simp [persistenceReached]

@[simp] theorem portDrops_base (q : Port) (before s : State) : (portDrops q before s).still.base = s.still.base := by
  unfold portDrops
  dsimp only
  split
  · split_ifs <;> simp
  · simp

@[simp] theorem upChange_store (q : Port) (v : Bool) (s : State) :
    (upChange q v s).still.base.store = s.still.base.store := by
  unfold upChange
  dsimp only
  split_ifs <;> simp

@[simp] theorem scanSamples_base (i : ScanInputs) (s : State) : (scanSamples i s).still.base = s.still.base :=
  forEach_frame _ _ (fun t => t.still.base) (fun _ t => by simp) s

@[simp] theorem scanFlames_store (i : ScanInputs) (s : State) : (scanFlames i s).still.base.store = s.still.base.store :=
  forEach_frame _ _ (fun t => t.still.base.store) (fun p t => by split_ifs <;> simp) s

@[simp] theorem scanSources_store (i : ScanInputs) (s : State) :
    (scanSources i s).still.base.store = s.still.base.store := by
  unfold scanSources
  dsimp only
  split_ifs
  · exact forEach_frame _ _ (fun t => t.still.base.store) (fun _ _ => by simp) s
  · simp
  · simp

@[simp] theorem firstScan_store (i : ScanInputs) (s : State) : (firstScan i s).still.base.store = s.still.base.store := by
  unfold firstScan
  rw [scanSources_store, scanFlames_store, scanSamples_base]
  rfl

end Sys2Proof.Machine

end

/-! # Proofs: the Store stays in shape (O16)

Of all orders only the four of the Store write it, each with a value its check has judged; a lost store is the store of a
power-on; everything else leaves the Store alone. -/

section

namespace Sys2Proof.Machine

/-! ## The shape -/

theorem storeOk_of_store_eq {s t : State} (e : t.still.base.store = s.still.base.store) (h : storeOk s) : storeOk t := by
  rw [store_base, store_base] at e
  have hr : t.reels = s.reels := congrArg Store.reels e
  have hp : t.programs = s.programs := congrArg Store.programs e
  have hs : t.scenes = s.scenes := congrArg Store.scenes e
  unfold storeOk
  rw [hr, hp, hs]
  exact h

/-- A record that valid fields give has its frames in order (R2, R4). -/
theorem framesInOrder_of_reelOf {f : ReelFields} {w : Screen} {r : ReelRecord} (h : reelOf f w = some r) :
    r.head < r.xmc ∧ r.xmc < r.xco ∧ r.xco ≤ r.lastPicture := by
  have ho : framesInOrder r = true := by
    unfold reelOf at h
    split_ifs at h
    split at h
    · dsimp only at h
      split_ifs at h with hf
      cases h
      exact hf
    · cases h
  simpa [framesInOrder, and_assoc] using ho

/-- A program that valid items give has the shape of R7. -/
theorem programShapeOk_of_programOf {items : List RawItem} {new : List ProgItem} (h : programOf items = some new) :
    programShapeOk new = true := by
  unfold programOf at h
  split at h
  · split_ifs at h with hs
    cases h
    exact hs
  · cases h

theorem setReel_storeOk {s : State} (k : Nat) (r : Option ReelRecord)
    (hr : ∀ x, r = some x → x.head < x.xmc ∧ x.xmc < x.xco ∧ x.xco ≤ x.lastPicture) (h : storeOk s) :
    storeOk (s.setReel k r) := by
  obtain ⟨slots, frames, rest⟩ := h
  refine ⟨by simpa [State.setReel] using slots, fun x hx => ?_, rest⟩
  rcases List.mem_or_eq_of_mem_set hx with old | new
  · exact frames x old
  · exact hr x new.symm

theorem setProgram_storeOk {s : State} (n : Screen) (new : List ProgItem) (hn : programShapeOk new = true) (h : storeOk s) :
    storeOk { s with programs := s.programs.set n new } := by
  obtain ⟨slots, frames, scenes, ranges, programs⟩ := h
  refine ⟨slots, frames, scenes, ranges, fun m => ?_⟩
  rw [Quad.get_set]
  split_ifs
  · exact hn
  · exact programs m

theorem setScene_storeOk {s : State} (k : Nat) (x : Scene) (hx : x.house ≤ 100 ∧ x.aisle ≤ 100 ∧ x.fade ≤ 600)
    (h : storeOk s) : storeOk { s with scenes := s.scenes.set k x } := by
  obtain ⟨slots, frames, scenes, ranges, programs⟩ := h
  refine ⟨slots, frames, by simpa using scenes, fun y hy => ?_, programs⟩
  rcases List.mem_or_eq_of_mem_set hy with old | new
  · exact ranges y old
  · exact new ▸ hx

/-! ## The orders of the Store -/

@[simp] theorem notifyEdit_still (w : Screen) (p : Proj) (b : NoticeBody) (s : State) :
    (notifyEdit w p b s).still = s.still := by
  unfold notifyEdit
  dsimp only
  split_ifs <;> simp

@[simp] theorem editReaches_base (p : Proj) (k : Nat) (r : ReelRecord) (s : State) :
    (editReaches p k r s).still.base = s.still.base := by
  unfold editReaches markStale refreshContext
  split
  · dsimp only
    split_ifs <;> simp
  · rfl

theorem recordFor_reelOf {l : Line} {k o : Nat} {f : ReelFields} {s : State} {r : ReelRecord}
    (h : recordFor l k o f s = some r) : ∃ w, reelOf f w = some r := by
  obtain ⟨w, -, hw⟩ := Option.bind_eq_some_iff.1 h
  exact ⟨w, hw⟩

theorem applyStoreReel_storeOk (l : Line) (k o : Nat) (f : ReelFields) (s : State) (h : storeOk s) :
    storeOk (applyStoreReel l k o f s) := by
  unfold applyStoreReel
  split
  · exact h
  · rename_i r hr
    obtain ⟨w, hw⟩ := recordFor_reelOf hr
    have filled : storeOk (s.setReel k (some r)) :=
      setReel_storeOk k _ (fun x hx => by cases hx; exact framesInOrder_of_reelOf hw) h
    dsimp only
    split
    · exact storeOk_of_store_eq (by simp) filled
    · exact filled

theorem applyStoreProgram_storeOk (n : Nat) (items : List RawItem) (s : State) (h : storeOk s) :
    storeOk (applyStoreProgram n items s) := by
  unfold applyStoreProgram
  split
  · rename_i x new _ hn
    refine storeOk_of_store_eq ?_ (setProgram_storeOk x new (programShapeOk_of_programOf hn) h)
    dsimp only
    rw [examineArming_still]
    split_ifs <;> rfl
  · exact h

theorem applyStoreScene_storeOk (k house aisle fade : Nat) (s : State) (hc : checkStoreScene k fade = none)
    (h : storeOk s) : storeOk (applyStoreScene k house aisle fade s) := by
  refine setScene_storeOk k _ ⟨by simp, by simp, ?_⟩ h
  unfold checkStoreScene at hc
  split_ifs at hc with _ hf
  simpa [within] using hf

/-! ## The other orders -/

@[simp] theorem threadReel_base (p : Proj) (k : Nat) (r : ReelRecord) (s : State) :
    (threadReel p k r s).still.base = s.still.base := by simp [threadReel]

@[simp] theorem unthreadReel_base (p : Proj) (s : State) : (unthreadReel p s).still.base = s.still.base := by
  unfold unthreadReel
  split <;> simp

@[simp] theorem cancelStart_base (n : Screen) (s : State) : (cancelStart n s).still.base = s.still.base := by
  unfold cancelStart
  dsimp only
  split <;> simp

@[simp] theorem stopShow_base (l : Line) (n : Screen) (s : State) : (stopShow l n s).still.base = s.still.base := by
  unfold stopShow notifyStopped
  dsimp only
  split_ifs <;> simp

@[simp] theorem closeShow_base (n : Screen) (s : State) : (closeShow n s).still.base = s.still.base := by
  simp [closeShow]

@[simp] theorem resumeState_base (n : Screen) (s : State) : (resumeState n s).still.base = s.still.base := by
  simp [resumeState]

@[simp] theorem swapRoles_base (n : Screen) (x : Side) (s : State) : (swapRoles n x s).still.base = s.still.base := by
  unfold swapRoles
  dsimp only
  split_ifs <;> simp

@[simp] theorem resumeReel_base (n : Screen) (x : Side) (s : State) : (resumeReel n x s).still.base = s.still.base := by
  simp [resumeReel]

@[simp] theorem quenchByOrder_base (p : Proj) (s : State) : (quenchByOrder p s).still.base = s.still.base := by
  unfold quenchByOrder
  dsimp only
  split_ifs <;> simp

@[simp] theorem trimLamp_base (p : Proj) (k : Nat) (s : State) : (trimLamp p k s).still.base = s.still.base := by
  unfold trimLamp
  dsimp only
  split <;> simp

@[simp] theorem applySetCapacity_base (k : Nat) (s : State) : (applySetCapacity k s).still.base = s.still.base := by
  unfold applySetCapacity
  dsimp only
  split_ifs <;> simp

@[simp] theorem applySetSurge_base (k : Nat) (s : State) : (applySetSurge k s).still.base = s.still.base := by
  unfold applySetSurge
  dsimp only
  split_ifs <;> simp

@[simp] theorem applySetReclaim_base (k g : Nat) (s : State) : (applySetReclaim k g s).still.base = s.still.base := by
  unfold applySetReclaim
  dsimp only
  split_ifs <;> simp

@[simp] theorem manualTakes_base (f : LightsForm) (n : Screen) (s : State) :
    (manualTakes f n s).still.base = s.still.base := by
  unfold manualTakes
  split <;> simp

@[simp] theorem restTakes_base (c : Circ) (k : Nat) (s : State) : (restTakes c k s).still.base = s.still.base := by
  unfold restTakes
  dsimp only
  split
  · rw [startFade_still]; rfl
  · simp

@[simp] theorem runupMeets_base (p : Proj) (s : State) : (runupMeets p s).still.base = s.still.base := by
  unfold runupMeets
  split
  · split_ifs <;> simp
  · rfl

@[simp] theorem gapMeets_base (p : Proj) (s : State) : (gapMeets p s).still.base = s.still.base := by
  unfold gapMeets
  split_ifs <;> simp

@[simp] theorem persistenceMeets_store (p : Proj) (s : State) :
    (persistenceMeets p s).still.base.store = s.still.base.store := by
  unfold persistenceMeets
  split
  · split_ifs <;> simp
  · rfl

@[simp] theorem applySetMotion_store (m : MotionSettings) (s : State) :
    (applySetMotion m s).still.base.store = s.still.base.store := by
  unfold applySetMotion
  rw [forEach_frame _ _ (fun t => t.still.base.store) persistenceMeets_store,
    forEach_frame _ _ (fun t => t.still.base) gapMeets_base, forEach_frame _ _ (fun t => t.still.base) runupMeets_base]
  rfl

@[simp] theorem applyClearFire_store (s : State) : (applyClearFire s).still.base.store = s.still.base.store := by
  unfold applyClearFire notifyCleared
  dsimp only
  split <;> simp

/-- The four orders that write the Store. -/
def Order.writesStore : Order → Bool
  | .storeReel _ _ _ | .deleteReel _ | .storeProgram _ _ | .storeScene _ _ _ _ => true
  | _ => false

theorem applyOrder_store (l : Line) (o : Order) (s : State) (ho : o.writesStore = false) :
    (applyOrder l o s).still.base.store = s.still.base.store := by
  cases o <;> dsimp only [applyOrder]
  case storeReel | deleteReel | storeProgram | storeScene => cases ho
  case thread => unfold applyThread; split <;> simp
  case unthread => unfold applyUnthread; split <;> simp
  case openScreen => unfold applyOpen openShow; split <;> simp
  case start => unfold applyStart; split <;> try split
                all_goals simp
  case stop => unfold applyStop; split <;> simp
  case close => unfold applyClose; split <;> simp
  case resume => unfold applyResume; split <;> try split
                 all_goals simp
  case changeNow => unfold applyChangeNow; split <;> try split
                    all_goals try split_ifs
                    all_goals simp
  case setLamp => unfold applySetLamp; split <;> simp
  case strike => unfold applyStrike; split <;> simp
  case quench => unfold applyQuench; split <;> simp
  case trim => unfold applyTrim; split <;> simp
  case setCapacity | setSurge | setReclaim | setMotion | clearFire => simp
  case lights form =>
    unfold applyLights
    split
    · rw [forEach_frame _ _ (fun t => t.still.base) (manualTakes_base form)]
    · rfl
  case lightsRelease =>
    unfold applyLightsRelease
    split
    · exact forEach_frame _ _ (fun t => t.still.base.store) (fun _ _ => by simp) s
    · rfl
  case setFloor => rfl
  case setRest => unfold applySetRest; split <;> simp
  case fireAssert => simp [applyFireAssert]
  case fireRelease => simp [applyFireRelease]
  case rehang => unfold applyRehang; split <;> simp

/-- An order that its block's checks pass keeps the Store in shape. -/
theorem applyOrder_storeOk (l : Line) (o : Order) (s t : State) (hc : checkOrder l o t = none) (h : storeOk s) :
    storeOk (applyOrder l o s) := by
  cases o
  case storeReel slot owner f => exact applyStoreReel_storeOk l slot owner f s h
  case deleteReel slot => exact setReel_storeOk slot none (fun _ hx => by cases hx) h
  case storeProgram n items => exact applyStoreProgram_storeOk n items s h
  case storeScene k house aisle fade => exact applyStoreScene_storeOk k house aisle fade s hc h
  all_goals exact storeOk_of_store_eq (applyOrder_store l _ s rfl) h

/-- An order acts only where its block's checks pass. -/
theorem checkOrder_of_acts {l : Line} {o : Order} {s : State} (h : (judgeOrder l o s).acts = true) :
    checkOrder l o s = none := by
  unfold judgeOrder at h
  split at h
  · cases h
  · cases h
  · split at h
    · cases h
    · split at h
      · cases h
      · assumption

/-! ## Taking orders -/

@[simp] theorem takeRead_base (l : Line) (i k : Nat) (s : State) : (takeRead l i k s).still.base = s.still.base := by
  unfold takeRead clearOwnStatus
  split <;> try split_ifs
  all_goals simp

theorem takeOrder_storeOk (l : Line) (o : Order) (s : State) (h : storeOk s) : storeOk (takeOrder l o s) := by
  have hr (r : Reply) : storeOk (reply l r s) := storeOk_of_store_eq (by simp) h
  unfold takeOrder
  split
  · exact storeOk_of_store_eq (by simp) h
  · dsimp only
    split_ifs with ha
    · exact applyOrder_storeOk l _ _ s (checkOrder_of_acts ha) (hr _)
    · exact hr _

theorem takeOne_storeOk (l : Line) (s : State) (h : storeOk s) : storeOk (takeOne l s) := by
  unfold takeOne
  split
  · exact h
  · split_ifs
    · exact storeOk_of_store_eq (by rw [settle_still]) (takeOrder_storeOk l _ _ (storeOk_of_store_eq (by simp) h))
    · exact h

theorem takeAll_storeOk (l : Line) (s : State) (h : storeOk s) : storeOk (takeAll l s) :=
  takeOne_storeOk l _ (takeOne_storeOk l s h)

theorem arrive_storeOk (l : Line) (o : Order) (s : State) (h : storeOk s) : storeOk (arrive l o s) := by
  unfold arrive
  split_ifs
  · exact takeAll_storeOk l _ (storeOk_of_store_eq (by simp) h)
  · exact storeOk_of_store_eq (by simp) h
  · exact h

/-! ## The bytes of a line -/

@[simp] theorem setAssembler_base (l : Line) (a : Assembler) (s : State) :
    (setAssembler l a s).still.base = s.still.base := rfl

@[simp] theorem garble_base (l : Line) (c : GarbleCause) (s : State) : (garble l c s).still.base = s.still.base := rfl

@[simp] theorem frameTimeOut_base (l : Line) (s : State) : (frameTimeOut l s).still.base = s.still.base := by
  unfold frameTimeOut
  split <;> simp

@[simp] theorem gapTimeOut_base (l : Line) (s : State) : (gapTimeOut l s).still.base = s.still.base := by
  unfold gapTimeOut
  split <;> simp

@[simp] theorem byteFails_base (l : Line) (s : State) : (byteFails l s).still.base = s.still.base := by
  unfold byteFails
  split <;> simp

@[simp] theorem lineBreaks_base (l : Line) (s : State) : (lineBreaks l s).still.base = s.still.base := by
  simp [lineBreaks]

theorem soundFrame_storeOk (l : Line) (m : Option Partial) (b : Byte) (params : List Byte) (s : State) (h : storeOk s) :
    storeOk (soundFrame l m b params s) := by
  unfold soundFrame
  dsimp only
  split_ifs
  · exact storeOk_of_store_eq (by simp) h
  · exact storeOk_of_store_eq (by simp) h
  · exact arrive_storeOk l _ _ (storeOk_of_store_eq (by simp) h)

theorem wholeFrame_storeOk (l : Line) (m : Option Partial) (got : List Byte) (s : State) (h : storeOk s) :
    storeOk (wholeFrame l m got s) := by
  unfold wholeFrame
  split_ifs
  · split
    · exact soundFrame_storeOk l m _ _ s h
    · exact storeOk_of_store_eq (by simp) h
  · exact storeOk_of_store_eq (by simp) h

theorem feedByte_storeOk (l : Line) (b : Byte) (s : State) (h : storeOk s) : storeOk (feedByte l b s) := by
  unfold feedByte
  split
  · exact storeOk_of_store_eq (by split_ifs <;> simp) h
  · unfold frameByte
    split
    · exact h
    · split_ifs
      · exact storeOk_of_store_eq (by simp) h
      · exact storeOk_of_store_eq (by simp) h
      · exact wholeFrame_storeOk l _ _ s h
  · exact storeOk_of_store_eq (by split_ifs <;> simp) h

theorem feedBytes_storeOk (l : Line) (bytes : List Byte) (s : State) (h : storeOk s) : storeOk (feedBytes l bytes s) := by
  unfold feedBytes
  induction bytes generalizing s with
  | nil => exact h
  | cons b bs ih => exact ih _ (feedByte_storeOk l b s h)

theorem messageSent_storeOk (l : Line) (s : State) (h : storeOk s) : storeOk (messageSent l s) := by
  unfold messageSent
  split
  · exact takeAll_storeOk l _ (storeOk_of_store_eq (by simp) h)
  · exact h

/-! ## The passing of time -/

@[simp] theorem channelLimits_base (p : Proj) (s : State) : (channelLimits p s).still.base = s.still.base := by
  unfold channelLimits
  dsimp only
  split_ifs <;> simp

@[simp] theorem lineTick_base (l : Line) (s : State) : (lineTick l s).still.base = s.still.base := by
  unfold lineTick
  dsimp only
  split <;> try split_ifs
  all_goals simp

@[simp] theorem runupTick_base (p : Proj) (s : State) : (runupTick p s).still.base = s.still.base := by
  unfold runupTick
  split
  · rfl
  · dsimp only
    split_ifs <;> simp

@[simp] theorem persistTick_store (p : Proj) (s : State) : (persistTick p s).still.base.store = s.still.base.store := by
  unfold persistTick
  split
  · rfl
  · dsimp only
    split_ifs <;> simp

@[simp] theorem lampTick_base (p : Proj) (s : State) : (lampTick p s).still.base = s.still.base := by
  have strike : (strikeTick p s).still.base = s.still.base := by
    unfold strikeTick
    dsimp only
    split_ifs <;> simp
  have feed : (feedTick p s).still.base = s.still.base := by
    unfold feedTick
    dsimp only
    split_ifs <;> simp
  have forecast (t : State) : (forecastTick p t).still.base = t.still.base := by
    unfold forecastTick
    dsimp only
    split_ifs <;> simp
  unfold lampTick
  split_ifs <;> simp [strike, feed, forecast]

@[simp] theorem boothTick_store (s : State) : (boothTick s).still.base.store = s.still.base.store := by
  have ticked (t : State) (k : Nat) : ({ t with tickCount := k } : State).still.base.store = t.still.base.store := rfl
  have lines (t : State) : (forEach Line.all lineTick t).still.base = t.still.base :=
    forEach_frame _ _ (fun t => t.still.base) lineTick_base t
  have timers (t : State) :
      (forEach Proj.all (fun p x => lampTick p (persistTick p (runupTick p x))) t).still.base.store = t.still.base.store :=
    forEach_frame _ _ (fun t => t.still.base.store) (fun _ _ => by simp) t
  unfold boothTick
  dsimp only
  split_ifs
  · rw [advanceWithWaits_store, timers, lines]; rfl
  · rw [ticked, timers, lines]; rfl

/-- An idle step leaves the Store alone. -/
theorem idle_store (s : State) : (idle s).still.base.store = s.still.base.store := by
  have limits (t : State) : (forEach Proj.all channelLimits t).still.base = t.still.base :=
    forEach_frame _ _ (fun t => t.still.base) channelLimits_base t
  unfold idle
  dsimp only
  split_ifs
  · rw [boothTick_store, limits]; rfl
  · rw [limits]; rfl
  · rfl

/-! ## Supplies and resets -/

theorem reset_storeOk : storeOk State.reset := by
  refine ⟨by decide, fun r hr => ?_, by decide, by decide, fun n => ?_⟩
  · exact absurd (List.eq_of_mem_replicate hr) (by simp)
  · cases n <;> rfl

theorem storeLost_storeOk (s : State) : storeOk s.storeLost := storeOk_of_store_eq rfl reset_storeOk

theorem sgoodFalls_storeOk (vsb : Bool) (s : State) (h : storeOk s) : storeOk (sgoodFalls vsb s) := by
  unfold sgoodFalls
  split
  · exact h
  · cases vsb
    · exact storeOk_of_store_eq rfl (storeLost_storeOk s)
    · exact storeOk_of_store_eq rfl h

theorem sgoodRises_storeOk (vsb : Bool) (s : State) (h : storeOk s) : storeOk (sgoodRises vsb s) := by
  have restored (t : State) (ht : storeOk t) : storeOk (if t.storeValid then t.keptReset else t.powerOn) := by
    split_ifs
    · exact storeOk_of_store_eq rfl ht
    · exact storeOk_of_store_eq rfl (storeLost_storeOk t)
  unfold sgoodRises
  split
  · exact h
  · refine storeOk_of_store_eq rfl (restored (if vsb then s else s.storeLost) ?_)
    split_ifs
    · exact h
    · exact storeLost_storeOk s

theorem vsbLost_storeOk (s : State) (h : storeOk s) : storeOk (vsbLost s) := by
  unfold vsbLost
  split
  · exact storeOk_of_store_eq rfl h
  · exact storeOk_of_store_eq rfl (storeLost_storeOk s)

theorem resetRises_storeOk (s : State) (h : storeOk s) : storeOk (resetRises s) := by
  refine storeOk_of_store_eq ?_ h
  unfold resetRises
  split_ifs
  · rfl
  · split <;> rfl

/-! ## Every step -/

theorem event_storeOk {f : State → State} {s : State} (h : storeOk s)
    (hf : ∀ t, (f t).still.base.store = t.still.base.store) : storeOk (event f s) := by
  refine storeOk_of_store_eq ?_ h
  unfold event
  split_ifs
  · rw [settle_still, hf]
  · rfl

theorem whileRunning_storeOk {f : State → State} {s : State} (h : storeOk s) (hf : storeOk (f s)) :
    storeOk (whileRunning f s) := by
  unfold whileRunning
  split_ifs
  · exact hf
  · exact h

/-- Every command leaves the Store in shape: the orders by their checks, the rows of a line by the orders they complete, the
supplies by what they keep, and the rest, events of the other blocks, by leaving it alone. -/
theorem exec_storeOk (c : Instr) (s : State) (h : storeOk s) : ∃ t, exec c s = .next t ∧ storeOk t := by
  cases hc : orderOfInstr c with
  | some lo => exact ⟨_, exec_order (l := lo.1) (o := lo.2) hc s, arrive_storeOk _ _ s h⟩
  | none =>
    cases c <;> try (cases hc; done)
    all_goals refine ⟨_, rfl, ?_⟩
    case frameReceived l bytes => exact whileRunning_storeOk h (feedBytes_storeOk l bytes s h)
    case messageSent l => exact whileRunning_storeOk h (messageSent_storeOk l s h)
    case frameTimeLimit | gapTimeLimit | lineBreak | byteError =>
      exact whileRunning_storeOk h (storeOk_of_store_eq (by simp) h)
    case boothTimeAdvance => exact storeOk_of_store_eq (by split_ifs <;> simp) h
    case sgoodFall vsb => exact sgoodFalls_storeOk vsb s h
    case sgoodRise vsb => exact sgoodRises_storeOk vsb s h
    case vsbLoss => exact vsbLost_storeOk s h
    case panelReset => exact resetRises_storeOk s h
    case resetFall => exact storeOk_of_store_eq rfl h
    case perforationPulse => exact event_storeOk h (fun u => by split <;> simp)
    case breakWindow | coastLimit | strikeLate | fireSourceInput | upSwitchChange =>
      exact event_storeOk h (fun u => by simp)
    -- the rows that act only where their own guard holds
    all_goals exact event_storeOk h (fun u => by split_ifs <;> simp)

/-- Settles O16, by cases on the front of the queue: an idle step leaves the Store alone, a command keeps its shape. -/
theorem theStoreStaysInShape : Obligations.TheStoreStaysInShape := by
  intro s t h e
  unfold step at e
  split at e
  · cases e
    exact storeOk_of_store_eq (idle_store s) h
  · rename_i c rest _
    obtain ⟨u, hu, ok⟩ := exec_storeOk c { s with pending := rest } (storeOk_of_store_eq rfl h)
    cases hu.symm.trans e
    exact ok

end Sys2Proof.Machine

end

/-! # Proofs: the orders of the Reel Store (O14, O15) -/

section

namespace Sys2Proof.Machine

/-! ## Names as the wire spells them -/

@[simp] theorem screenOf_screenNumber (n : Screen) : screenOf (screenNumber n) = some n := by cases n <;> rfl

@[simp] theorem projOf_projCode (p : Proj) : projOf (projCode p) = some p := by
  obtain ⟨n, x⟩ := p
  cases n <;> cases x <;> rfl

/-! ## An order that a free line takes -/

/-- The reply to an order that is known, privileged and passed by its block's checks. -/
theorem judgeOrder_done {l : Line} {o : Order} {s : State} (hu : ∀ k, o ≠ .unknown k) (hm : ∀ k, o ≠ .miscounted k)
    (hp : privileged l o = true) (hc : checkOrder l o s = none) (ha : acceptsOrder o s = false) :
    judgeOrder l o s = .done o.kind := by
  unfold judgeOrder
  split
  · exact absurd rfl (hu _)
  · exact absurd rfl (hm _)
  · simp [hp, hc, ha]

/-- An order of the Store that passes is answered DONE and has its block's effect. -/
theorem ends_of_writesStore {c : Instr} {l : Line} {o : Order} {s u : State} (h : orderOfInstr c = some (l, o))
    (hf : lineFree s l) (ho : o.writesStore = true) (hp : privileged l o = true) (hc : checkOrder l o s = none)
    (ha : applyOrder l o (reply l (.done o.kind) s) = u) : ends c s u := by
  have hn : ∀ i k, o ≠ .read i k := by rintro i k rfl; cases ho
  have hu : ∀ k, o ≠ .unknown k := by rintro k rfl; cases ho
  have hm : ∀ k, o ≠ .miscounted k := by rintro k rfl; cases ho
  have hd : acceptsOrder o s = false := by cases o <;> first | rfl | cases ho
  exact ends_of_passed h hf hn (judgeOrder_done hu hm hp hc hd) rfl ha

/-! ## STORE REEL and DELETE REEL -/

/-- A line may edit the slot when the owner's line or the house line (R4, R6). -/
theorem mayEdit_of {l : Line} {old : Option ReelRecord} (h : ∀ x, old = some x → l = .house ∨ l = .screen x.owner) :
    mayEdit l old = true := by
  cases old with
  | none => rfl
  | some x => rcases h x rfl with rfl | rfl <;> simp [mayEdit, isHouse, isLineOf]

/-- The owner is kept, or taken from the line (R4). -/
theorem ownerFor_eq {l : Line} {old : Option ReelRecord} {o : Nat} {w : Screen} (hold : ∀ x, old = some x → w = x.owner)
    (hnew : old = none → l = .screen w ∨ (l = .house ∧ screenOf o = some w)) : ownerFor l old o = some w := by
  cases old with
  | some x => rw [hold x rfl]; rfl
  | none => rcases hnew rfl with rfl | ⟨rfl, hw⟩
            · rfl
            · exact hw

theorem recordFor_eq {l : Line} {k o : Nat} {f : ReelFields} {w : Screen} {r : ReelRecord} {s : State}
    (hold : ∀ old, s.reelAt k = some old → w = old.owner)
    (hnew : s.reelAt k = none → l = .screen w ∨ (l = .house ∧ screenOf o = some w)) (hr : reelOf f w = some r) :
    recordFor l k o f s = some r := by
  simp [recordFor, ownerFor_eq hold hnew, hr]

theorem checkStoreReel_passes {l : Line} {k o : Nat} {f : ReelFields} {r : ReelRecord} {s : State} (h1 : 1 ≤ k) (h48 : k ≤ 48)
    (hedit : ∀ old, s.reelAt k = some old → l = .house ∨ l = .screen old.owner) (hr : recordFor l k o f s = some r) :
    checkStoreReel l k o f s = none := by
  simp [checkStoreReel, within, h1, h48, mayEdit_of hedit, hr]

theorem applyStoreReel_unheld {l : Line} {k o : Nat} {f : ReelFields} {r : ReelRecord} {s : State}
    (hr : recordFor l k o f s = some r) (hk : s.holderOf k = none) :
    applyStoreReel l k o f s = s.setReel k (some r) := by
  simp [applyStoreReel, hr, hk]

theorem applyStoreReel_held {l : Line} {k o : Nat} {f : ReelFields} {r : ReelRecord} {s : State} {p : Proj}
    (hr : recordFor l k o f s = some r) (hk : s.holderOf k = some p) :
    applyStoreReel l k o f s = editReaches p k r (s.setReel k (some r)) := by
  simp [applyStoreReel, hr, hk]

theorem editReaches_committed {p : Proj} {k : Nat} {r : ReelRecord} {c : Context} {s : State} (h : s.ctx p = some c)
    (hc : c.committed = true) : editReaches p k r s = markStale p k c r s := by
  simp [editReaches, h, hc]

theorem editReaches_uncommitted {p : Proj} {k : Nat} {r : ReelRecord} {c : Context} {s : State} (h : s.ctx p = some c)
    (hc : c.committed = false) : editReaches p k r s = refreshContext p k c r s := by
  simp [editReaches, h, hc]

/-- A refresh leaves, of what the end of an event leaves alone, the new record in the context and the phase of a reel of another
format (R17). -/
theorem refreshContext_still (p : Proj) (k : Nat) (c : Context) (r : ReelRecord) (s : State) :
    (refreshContext p k c r s).still = (if c.reel.format = r.format then s.setCtx p (some { c with reel := r })
      else (s.setCtx p (some { c with reel := r })).modChan p (fun x => { x with phase := 0 })).still := by
  simp [refreshContext]

theorem refreshContext_ctx (p q : Proj) (k : Nat) (c : Context) (r : ReelRecord) (s : State) :
    ((refreshContext p k c r s).ctx q).map Context.still =
      (if q = p then some { c with reel := r } else s.ctx q).map Context.still := by
  rw [still_ctx (refreshContext_still p k c r s) q]
  split_ifs <;> simp_all

theorem refreshContext_base (p : Proj) (k : Nat) (c : Context) (r : ReelRecord) (s : State) :
    (refreshContext p k c r s).base = s.base := by
  refine (still_base (refreshContext_still p k c r s)).trans ?_
  split_ifs <;> rfl

theorem checkDeleteReel_passes {l : Line} {k : Nat} {s : State} (h1 : 1 ≤ k) (h48 : k ≤ 48)
    (hedit : ∀ old, s.reelAt k = some old → l = .house ∨ l = .screen old.owner) (hk : s.holderOf k = none) :
    checkDeleteReel l k s = none := by
  simp [checkDeleteReel, within, h1, h48, mayEdit_of hedit, hk]

/-- Settles O14: the checks pass, and the branches of the effect are those of the slot's holder. -/
theorem reelOrdersWriteTheSlot : Obligations.ReelOrdersWriteTheSlot := by
  intro l k s hf h1 h48 hedit
  refine ⟨fun o f w r hold hnew hr => ?_, fun hk => ?_⟩
  · have hrec : recordFor l k o f s = some r := recordFor_eq hold hnew hr
    have stored {u : State} (hu : applyStoreReel l k o f (reply l (.done 0x02) s) = u) : ends (.storeReel l k o f) s u :=
      ends_of_writesStore (o := .storeReel k o f) rfl hf rfl rfl (checkStoreReel_passes h1 h48 hedit hrec) hu
    refine ⟨fun hk => stored (applyStoreReel_unheld hrec hk), fun p c hk hc => ?_⟩
    have held := applyStoreReel_held (s := reply l (.done 0x02) s) hrec hk
    refine ⟨fun hcom => stored (held.trans (editReaches_committed hc hcom)), fun hcom => ?_⟩
    obtain ⟨t, ht, -, hs, -⟩ := stored (held.trans (editReaches_uncommitted hc hcom))
    refine ⟨t, ht, ?_, ?_, fun q hq => ?_⟩
    · rw [still_ctx hs, refreshContext_ctx, if_pos rfl]
      simp [Context.still, hcom]
    · rw [still_base hs, refreshContext_base]
      rfl
    · rw [still_ctx hs, refreshContext_ctx, if_neg hq]
      rfl
  · exact ends_of_writesStore (o := .deleteReel k) rfl hf rfl rfl (checkDeleteReel_passes h1 h48 hedit hk) rfl

/-! ## STORE PROGRAM and STORE SCENE -/

theorem programFree_iff (q : Sequencer) : programFree q = true ↔
    q.showState = .closed ∨ q.showState = .ended ∨ (q.showState = .ready ∧ q.startRec = none) := by
  unfold programFree
  split <;> simp_all

/-- The items of R9, stated as the two lookups they are. -/
theorem programKept_of {s : State} {n : Screen} {new : List ProgItem}
    (hat : new[(s.seq n).pointer - 1]? = s.itemAt n (s.seq n).pointer)
    (hnext : ∀ i, s.itemAt n ((s.seq n).pointer + 1) = some i → new[(s.seq n).pointer]? = some i) :
    programKept s n new = true := by
  unfold programKept
  dsimp only
  rw [hat]
  split
  · rename_i i hi
    simp [hnext i hi]
  · simp

theorem checkStoreProgram_passes {n : Screen} {items : List RawItem} {new : List ProgItem} {s : State}
    (hn : programOf items = some new) (h : programFree (s.seq n) = true ∨ programKept s n new = true) :
    checkStoreProgram (screenNumber n) items s = none := by
  simp [checkStoreProgram, hn, h]

/-- Arming is a SHOWING screen's (R53). -/
theorem examineArming_of_not_showing {n : Screen} {s : State} (h : (s.seq n).showState ≠ .showing) :
    examineArming n s = s := by
  have hc : canArm s n = none := by
    unfold canArm
    dsimp only
    split
    · exact absurd ‹_› h
    · rfl
  simp [examineArming, hc]

theorem showState_ne_showing_of_programFree {q : Sequencer} (h : programFree q = true) : q.showState ≠ .showing := by
  intro e
  simp [programFree, e] at h

theorem applyStoreProgram_free {n : Screen} {items : List RawItem} {new : List ProgItem} {s : State}
    (hn : programOf items = some new) (h : programFree (s.seq n) = true) :
    applyStoreProgram (screenNumber n) items s =
      ({ s with programs := s.programs.set n new } : State).setSeq n { s.seq n with pointer := 1 } := by
  simp only [applyStoreProgram, screenOf_screenNumber, hn, h, if_true]
  refine examineArming_of_not_showing ?_
  rw [modSeq_eq, seq_setSeq, if_pos rfl]
  exact showState_ne_showing_of_programFree h

theorem applyStoreProgram_kept_items {n : Screen} {items : List RawItem} {new : List ProgItem} {s : State}
    (hn : programOf items = some new) (h : programFree (s.seq n) = false) :
    applyStoreProgram (screenNumber n) items s = examineArming n { s with programs := s.programs.set n new } := by
  simp [applyStoreProgram, hn, h]

theorem privileged_storeProgram (n : Screen) (items : List RawItem) :
    privileged (.screen n) (.storeProgram (screenNumber n) items) = true := by
  simp [privileged, ownOnly, isLineOf]

/-- Settles O15: STORE SCENE by its checks; STORE PROGRAM by whether the list is replaced freely. -/
theorem programAndSceneOrdersReplace : Obligations.ProgramAndSceneOrdersReplace := by
  refine ⟨fun s k house aisle fade hf hk hfade => ?_, fun n items new s hf hn => ⟨fun hfree => ?_, fun hbusy hat hnext => ?_⟩⟩
  · have hc : checkStoreScene k fade = none := by simp [checkStoreScene, within, hk, hfade]
    exact ends_of_writesStore (o := .storeScene k house aisle fade) rfl hf rfl rfl hc rfl
  · have free : programFree (s.seq n) = true := (programFree_iff _).2 hfree
    exact ends_of_writesStore (o := .storeProgram (screenNumber n) items) rfl hf rfl (privileged_storeProgram n items)
      (checkStoreProgram_passes hn (Or.inl free)) (applyStoreProgram_free hn free)
  · have busy : programFree (s.seq n) = false := by simpa [← programFree_iff] using hbusy
    exact ends_of_writesStore (o := .storeProgram (screenNumber n) items) rfl hf rfl (privileged_storeProgram n items)
      (checkStoreProgram_passes hn (Or.inr (programKept_of hat hnext))) (applyStoreProgram_kept_items hn busy)

end Sys2Proof.Machine

end

/-! # Proofs: THREAD, UNTHREAD (O17) -/

section

namespace Sys2Proof.Machine

/-! ## The checks -/

theorem startsUnfrozen_eq_false {q : Sequencer} {x : Side} (h : ∀ r, q.startRec = some r → r.side = x → r.frozen = true) :
    q.startsUnfrozen x = false := by
  unfold Sequencer.startsUnfrozen
  split
  · rename_i r hr
    by_cases hx : r.side = x
    · simp [h r hr hx]
    · simp [hx]
  · rfl

theorem holds_eq_false {s : State} {q : Proj} {k : Nat} (h : ∀ c, s.ctx q = some c → c.slot ≠ k) : s.holds q k = false := by
  unfold State.holds
  split
  · rename_i c hc
    simpa using h c hc
  · rfl

theorem checkThread_passes {p : Proj} {k : Nat} {r : ReelRecord} {s : State} (hm : motorIsOn s p = false)
    (hs : (s.seq p.screen).startsUnfrozen p.side = false) (h1 : 1 ≤ k) (h48 : k ≤ 48) (hr : s.reelAt k = some r)
    (hk : ∀ q c, q ≠ p → s.ctx q = some c → c.slot ≠ k) : checkThread (projCode p) k s = none := by
  have free : ∀ q ∈ Proj.all, (q != p && s.holds q k) = false := by
    intro q _
    by_cases hq : q = p
    · simp [hq]
    · simp [holds_eq_false (fun c => hk q c hq)]
  have none_holds : Proj.all.any (fun q => q != p && s.holds q k) = false := by simpa using free
  simp only [checkThread, projOf_projCode]
  simp [within, h1, h48, hm, hs, hr, none_holds]

theorem checkUnthread_passes {p : Proj} {s : State} (hm : motorIsOn s p = false)
    (hs : (s.seq p.screen).startsUnfrozen p.side = false) : checkUnthread (projCode p) s = none := by
  simp [checkUnthread, hm, hs]

theorem privileged_thread (p : Proj) (k : Nat) : privileged (.screen p.screen) (.thread (projCode p) k) = true := by
  simp [privileged, ownOnly, isLineOf, screenOfCode]

theorem privileged_unthread (p : Proj) : privileged (.screen p.screen) (.unthread (projCode p)) = true := by
  simp [privileged, ownOnly, isLineOf, screenOfCode]

/-! ## The effects, in what the end of an event leaves alone -/

/-- The entry of a context in `Still.loaded`. -/
theorem loaded_ctx {s t : State} (h : s.still.loaded = t.still.loaded) (q : Proj) :
    (s.ctx q).map Context.still = (t.ctx q).map Context.still := by
  have e := congrArg (fun x => (x.contexts.get q.screen).get q.side) h
  simpa [Still.loaded, State.still, State.ctx] using e

/-- The entry of a channel in `Still.loaded`. -/
theorem loaded_chan {s t : State} (h : s.still.loaded = t.still.loaded) (q : Proj) :
    (s.chan q).still = (t.chan q).still := by
  have e := congrArg (fun x => (x.channels.get q.screen).get q.side) h
  simpa [Still.loaded, State.still, State.chan] using e

theorem channelThread_ctx (p q : Proj) (s : State) :
    ((channelThread p s).ctx q).map Context.still = (s.ctx q).map Context.still := by
  unfold channelThread
  rw [still_ctx (setMotion_still _ _ _)]
  rfl

theorem channelThread_chan (p q : Proj) (s : State) : ((channelThread p s).chan q).still =
    if q = p then { (s.chan p).still with phase := 0, frames := 0, lastCue := none, bounce := 0 } else (s.chan q).still := by
  unfold channelThread
  rw [still_chan (setMotion_still _ _ _), modChan_eq, chan_setChan]
  split_ifs <;> rfl

theorem channelUnthread_ctx (p q : Proj) (s : State) :
    ((channelUnthread p s).ctx q).map Context.still = (s.ctx q).map Context.still := by
  unfold channelUnthread
  rw [still_ctx (setMotion_still _ _ _)]
  rfl

theorem channelUnthread_chan (p q : Proj) (s : State) : ((channelUnthread p s).chan q).still =
    if q = p then { (s.chan p).still with lastCue := none, bounce := 0 } else (s.chan q).still := by
  unfold channelUnthread
  rw [still_chan (setMotion_still _ _ _), modChan_eq, chan_setChan]
  split_ifs <;> rfl

theorem threadReel_loaded (p : Proj) (k : Nat) (r : ReelRecord) (s : State) : (threadReel p k r s).still.loaded =
    (channelThread p ((dropIncoming p s).setCtx p (some ⟨k, r, false, false⟩))).still.loaded := by
  simp [threadReel]

/-- THREAD gives the context the record, and no other context changes (R13). -/
theorem threadReel_ctx (p q : Proj) (k : Nat) (r : ReelRecord) (s : State) :
    ((threadReel p k r s).ctx q).map Context.still =
      if q = p then some ⟨k, r, false, false⟩ else (s.ctx q).map Context.still := by
  rw [loaded_ctx (threadReel_loaded p k r s), channelThread_ctx, ctx_setCtx]
  split_ifs
  · rfl
  · exact still_ctx (dropIncoming_still p s) q

/-- THREAD zeroes the channel's counts, and no other channel's change (R33). -/
theorem threadReel_chan (p q : Proj) (k : Nat) (r : ReelRecord) (s : State) : ((threadReel p k r s).chan q).still =
    if q = p then { (s.chan p).still with phase := 0, frames := 0, lastCue := none, bounce := 0 } else (s.chan q).still := by
  rw [loaded_chan (threadReel_loaded p k r s), channelThread_chan, setCtx_chan, setCtx_chan,
    still_chan (dropIncoming_still p s), still_chan (dropIncoming_still p s)]

theorem unthreadReel_empty {p : Proj} {s : State} (h : s.ctx p = none) : unthreadReel p s = s := by
  simp [unthreadReel, h]

theorem unthreadReel_loaded {p : Proj} {c : Context} {s : State} (h : s.ctx p = some c) :
    (unthreadReel p s).still.loaded = (channelUnthread p (s.setCtx p none)).still.loaded := by
  simp [unthreadReel, emptyContext, h]

/-- UNTHREAD leaves the context EMPTY, and no other context changes (R15). -/
theorem unthreadReel_ctx (p q : Proj) (s : State) :
    ((unthreadReel p s).ctx q).map Context.still = if q = p then none else (s.ctx q).map Context.still := by
  cases h : s.ctx p with
  | none =>
    rw [unthreadReel_empty h]
    split_ifs with hq
    · rw [hq, h]; rfl
    · rfl
  | some c =>
    rw [loaded_ctx (unthreadReel_loaded h), channelUnthread_ctx, ctx_setCtx]
    split_ifs <;> rfl

/-- UNTHREAD of a VALID context clears the channel's last cue and bounces (R33). -/
theorem unthreadReel_chan {p : Proj} {c : Context} {s : State} (h : s.ctx p = some c) :
    ((unthreadReel p s).chan p).still = { (s.chan p).still with lastCue := none, bounce := 0 } := by
  rw [loaded_chan (unthreadReel_loaded h), channelUnthread_chan, if_pos rfl, setCtx_chan]

theorem unthreadReel_chan_other {p q : Proj} (hq : q ≠ p) (s : State) :
    ((unthreadReel p s).chan q).still = (s.chan q).still := by
  cases h : s.ctx p with
  | none => rw [unthreadReel_empty h]
  | some c => rw [loaded_chan (unthreadReel_loaded h), channelUnthread_chan, if_neg hq, setCtx_chan]

/-! ## The obligation -/

/-- The one reply of an order whose effect leaves the replies alone. -/
theorem lines_of_replied {l : Line} {r : Reply} {s t : State} (hf : lineFree s l)
    (h : t.still.kept = (reply l r s).still.kept) : t.still.lines = (s.still.replied l r).lines := by
  rw [lines_of_kept h, reply_still l r s hf.2.2]

theorem applyThread_eq {p : Proj} {k : Nat} {r : ReelRecord} {s : State} (h : s.reelAt k = some r) :
    applyThread (projCode p) k s = threadReel p k r s := by
  simp [applyThread, h]

theorem applyUnthread_eq (p : Proj) (s : State) : applyUnthread (projCode p) s = unthreadReel p s := by
  simp [applyUnthread]

/-- An accepted THREAD ends as `threadReel` leaves the state with its reply made (R13). -/
theorem ends_thread {p : Proj} {k : Nat} {r : ReelRecord} {s : State} (hf : lineFree s (.screen p.screen))
    (hc : checkThread (projCode p) k s = none) (hr : s.reelAt k = some r) :
    ends (.thread (.screen p.screen) (projCode p) k) s (threadReel p k r (reply (.screen p.screen) (.done 0x06) s)) :=
  ends_of_passed (o := .thread (projCode p) k) rfl hf (by simp)
    (judgeOrder_done (by simp) (by simp) (privileged_thread p k) hc rfl) rfl
    (applyThread_eq (s := reply (.screen p.screen) (.done 0x06) s) hr)

/-- An accepted UNTHREAD ends as `unthreadReel` leaves the state with its reply made (R15). -/
theorem ends_unthread {p : Proj} {s : State} (hf : lineFree s (.screen p.screen)) (hc : checkUnthread (projCode p) s = none) :
    ends (.unthread (.screen p.screen) (projCode p)) s (unthreadReel p (reply (.screen p.screen) (.done 0x07) s)) :=
  ends_of_passed (o := .unthread (projCode p)) rfl hf (by simp)
    (judgeOrder_done (by simp) (by simp) (privileged_unthread p) hc rfl) rfl (applyUnthread_eq p _)

/-- Settles O17: both orders pass their checks, and act as `threadReel` and `unthreadReel` do. -/
theorem threadLoadsAndUnthreadEmpties : Obligations.ThreadLoadsAndUnthreadEmpties := by
  intro p s hf hm hstart
  have hs := startsUnfrozen_eq_false hstart
  refine ⟨fun k r h1 h48 hr hk => ?_, ?_⟩
  · obtain ⟨t, ht, -, still, -⟩ := ends_thread hf (checkThread_passes hm hs h1 h48 hr hk) hr
    refine ⟨t, ht, ?_, ?_, fun q hq => ⟨?_, ?_⟩, ?_, lines_of_replied hf ?_⟩
    · rw [still_ctx still, threadReel_ctx, if_pos rfl]
    · rw [still_chan still, threadReel_chan, if_pos rfl, chan_reply]
    · rw [still_ctx still, threadReel_ctx, if_neg hq, ctx_reply]
    · rw [still_chan still, threadReel_chan, if_neg hq, chan_reply]
    · exact (still_base still).trans (threadReel_base p k r _)
    · rw [still, threadReel_kept]
  · obtain ⟨t, ht, -, still, -⟩ := ends_unthread hf (checkUnthread_passes hm hs)
    refine ⟨t, ht, ?_, fun c hc => ?_, fun q hq => ⟨?_, ?_⟩, ?_, lines_of_replied hf ?_⟩
    · have empty := still_ctx still p
      rw [unthreadReel_ctx, if_pos rfl] at empty
      simpa using empty
    · have valid : (reply (.screen p.screen) (.done 0x07) s).ctx p = some c := hc
      rw [still_chan still, unthreadReel_chan valid, chan_reply]
    · rw [still_ctx still, unthreadReel_ctx, if_neg hq, ctx_reply]
    · rw [still_chan still, unthreadReel_chan_other hq, chan_reply]
    · exact (still_base still).trans (unthreadReel_base p _)
    · rw [still, unthreadReel_kept]

end Sys2Proof.Machine

end

/-! # Proofs: the reset values (O58)

A panel reset, a main restore and a power-on all bring the reset values over some state's retained items. -/

section

namespace Sys2Proof.Machine

/-- Every item that no reset retains stands at its reset value, whatever the retained items, the pins and the record are. -/
structure AtResetValues (t : State) : Prop where
  boothTime : t.boothTime = 0
  tickCount : t.tickCount = 0
  ctx : ∀ p, t.ctx p = none
  chan : ∀ p, t.chan p = Channel.reset
  seq : ∀ n, t.seq n = Sequencer.reset
  lamp : ∀ p, t.lamp p = Lamp.reset (t.lamp p).settings (t.lamp p).carbon
  budget : t.budget = Budget.reset t.budget.cap t.budget.surge t.budget.lead t.budget.gap
  circ : ∀ c, t.circ c = Circuit.reset (t.circ c).rest
  fire : t.fire = FireUnit.reset t.fire.record

theorem resetValues_atResetValues (s : State) : AtResetValues s.resetValues where
  boothTime := rfl
  tickCount := rfl
  ctx p := by simp [State.ctx, State.resetValues]
  chan p := by simp [State.chan, State.resetValues]
  seq n := by simp [State.seq, State.resetValues]
  lamp p := by simp [State.lamp, State.resetValues, Lamp.reset]
  budget := rfl
  circ c := by simp [State.circ, State.resetValues, Circuit.reset]
  fire := rfl

/-- Neither the pins, the supply, the marker nor the fire record are among the items judged. -/
theorem AtResetValues.retained {t : State} (h : AtResetValues t) (supply : Supply) (pin vsb valid : Bool)
    (record : List FireEntry) :
    AtResetValues { t with supply := supply, resetPin := pin, vsb := vsb, storeValid := valid,
                           fire := { t.fire with record := record } } where
  boothTime := h.boothTime
  tickCount := h.tickCount
  ctx := h.ctx
  chan := h.chan
  seq := h.seq
  lamp := h.lamp
  budget := h.budget
  circ := h.circ
  fire := by dsimp only; rw [h.fire]; rfl

theorem keptReset_atResetValues (s : State) : AtResetValues s.keptReset :=
  (resetValues_atResetValues s).retained _ _ _ _ _

theorem powerOn_atResetValues (s : State) : AtResetValues s.powerOn :=
  (resetValues_atResetValues s.storeLost).retained _ _ _ _ _

theorem everyReset_atResetValues {s t : State} (h : everyReset s t) : AtResetValues t := by
  rcases h with ⟨hs, hp, e⟩ | ⟨hs, vsb, e⟩
  · have e' : t = { s.keptReset with resetPin := true } := by
      simpa [exec, execPanelReset, resetRises, hs, hp] using e.symm
    rw [e']
    exact (keptReset_atResetValues s).retained _ _ _ _ _
  · have restored (u : State) : AtResetValues (if u.storeValid then u.keptReset else u.powerOn) := by
      split_ifs
      · exact keptReset_atResetValues u
      · exact powerOn_atResetValues u
    simp only [exec, execSgoodRise, sgoodRises, hs, Host.Outcome.next.injEq] at e
    rw [← e]
    exact (restored _).retained _ _ _ _ _

/-! ## What follows of the reset values -/

section

variable {t : State} (h : AtResetValues t)

include h

theorem AtResetValues.charge (p : Proj) : (t.lamp p).charge = 0 := by
  rw [h.lamp p]
  rfl

theorem AtResetValues.sigma_eq : sigma t = 0 := by
  simp [sigma, h.charge]

theorem AtResetValues.gatePermission (p : Proj) : gatePermission t p = false := by
  simp [Machine.gatePermission, h.chan p, Channel.reset, speedOf]

theorem AtResetValues.gateShutter (p : Proj) : gateShutter t p = false := by
  simp [Machine.gateShutter, h.gatePermission p]

end

/-- Settles O58: the three resets bring the reset values, and each clause reads one of them off. -/
theorem everyResetGivesTheResetValues : Obligations.EveryResetGivesTheResetValues := by
  intro s t hreset
  have h := everyReset_atResetValues hreset
  refine ⟨fun p => ?_, h.seq, fun p => ⟨h.charge p, ?_⟩, congrArg Budget.queue h.budget, congrArg Budget.nextSeq h.budget,
    congrArg Budget.overdrawn h.budget, congrArg Budget.leadTaken h.budget, h.sigma_eq, h.circ, congrArg FireUnit.on h.fire,
    congrArg FireUnit.marks h.fire, congrArg FireUnit.persist h.fire, congrArg FireUnit.holds h.fire,
    congrArg (fun u => u.sources.gate) h.fire, fun l => ?_, h.gateShutter, h.boothTime, h.tickCount⟩
  · rw [h.chan p]
    exact ⟨h.ctx p, rfl, rfl, rfl, rfl, rfl, rfl, rfl, rfl, rfl, h.gatePermission p⟩
  · rw [h.lamp p]
    rfl
  · rw [h.fire]
    exact PerLine.get_fill false l

end Sys2Proof.Machine

end

/-! # Proofs: what leaves the films alone

`State.film` is what the Film Motion Unit has measured of each film, with the contexts and the motion settings: all of the
channels but the motion state and the runup timer. Only a motor on, the frames and ages of a film, a THREAD or an emptying and
SET MOTION write it. -/

section

namespace Sys2Proof.Machine

/-- A channel but for its motion state and its runup timer. -/
abbrev Channel.measured (c : Channel) : Channel := { c with motion := .still, runup := none }

structure Films where
  contexts : PerProj (Option Context)
  channels : PerProj Channel
  settings : MotionSettings

def State.film (s : State) : Films := ⟨s.contexts, s.channels.map (Pair.map Channel.measured), s.motionSettings⟩

theorem film_contexts {s t : State} (h : t.film = s.film) : t.contexts = s.contexts := congrArg Films.contexts h

theorem film_settings {s t : State} (h : t.film = s.film) : t.motionSettings = s.motionSettings :=
  congrArg Films.settings h

theorem film_chan {s t : State} (h : t.film = s.film) (p : Proj) : (t.chan p).measured = (s.chan p).measured := by
  have e := congrArg (fun x => (x.channels.get p.screen).get p.side) h
  simpa [State.film, State.chan] using e

/-! ## The updates -/

theorem setChan_film (s : State) (p : Proj) (v : Channel) (h : v.measured = (s.chan p).measured) :
    (s.setChan p v).film = s.film := by
  obtain ⟨n, x⟩ := p
  simp only [State.chan] at h
  cases n <;> cases x <;> simp_all [State.film, State.setChan, Quad.set, Quad.get, Quad.map, Pair.set, Pair.get, Pair.map]

@[simp] theorem modChan_film (s : State) (p : Proj) (f : Channel → Channel) (h : ∀ x, (f x).measured = x.measured) :
    (s.modChan p f).film = s.film := setChan_film _ _ _ (h _)

@[simp] theorem modLamp_film (s : State) (p : Proj) (f : Lamp → Lamp) : (s.modLamp p f).film = s.film := rfl
@[simp] theorem modSeq_film (s : State) (n : Screen) (f : Sequencer → Sequencer) : (s.modSeq n f).film = s.film := rfl
@[simp] theorem modCirc_film (s : State) (c : Circ) (f : Circuit → Circuit) : (s.modCirc c f).film = s.film := rfl
@[simp] theorem modLine_film (s : State) (l : Line) (f : LineState → LineState) : (s.modLine l f).film = s.film := rfl
@[simp] theorem modBudget_film (s : State) (f : Budget → Budget) : (s.modBudget f).film = s.film := rfl
@[simp] theorem modFire_film (s : State) (f : FireUnit → FireUnit) : (s.modFire f).film = s.film := rfl
@[simp] theorem everyCircuit_film (f : Circuit → Circuit) (s : State) : (everyCircuit f s).film = s.film := rfl

/-! ## Lines and lights -/

@[simp] theorem notify_film (l : Line) (b : NoticeBody) (s : State) : (notify l b s).film = s.film := rfl
@[simp] theorem notifyScreen_film (n : Screen) (b : NoticeBody) (s : State) : (notifyScreen n b s).film = s.film := rfl
@[simp] theorem notifyScreenAndHouse_film (n : Screen) (b : NoticeBody) (s : State) :
    (notifyScreenAndHouse n b s).film = s.film := rfl
@[simp] theorem notifyAll_film (b : NoticeBody) (s : State) : (notifyAll b s).film = s.film :=
  forEach_frame _ _ State.film (fun l t => notify_film l b t) s

@[simp] theorem programTakes_film (n : Screen) (k : Nat) (s : State) : (programTakes n k s).film = s.film := rfl
@[simp] theorem faultTakes_film (n : Screen) (s : State) : (faultTakes n s).film = s.film := rfl
@[simp] theorem removeClaims_film (n : Screen) (w : Winner) (s : State) : (removeClaims n w s).film = s.film := rfl
@[simp] theorem setLocalHolder_film (v : Bool) (n : Screen) (s : State) : (setLocalHolder v n s).film = s.film := rfl
@[simp] theorem setBoothHolder_film (v : Bool) (s : State) : (setBoothHolder v s).film = s.film :=
  forEach_frame _ _ State.film (fun _ _ => modCirc_film _ _ _) s

@[simp] theorem startFade_film (c : Circ) (s : State) : (startFade c s).film = s.film := by
  unfold startFade
  dsimp only
  split <;> rfl

@[simp] theorem judgeLights_film (s : State) : (judgeLights s).film = s.film :=
  forEach_frame _ _ State.film (fun c t => by
    unfold judgeCircuit
    rw [modCirc_film]
    split_ifs
    · exact startFade_film c t
    · rfl) s

/-! ## Motion states and motors off -/

@[simp] theorem setMotion_film (p : Proj) (m : Motion) (s : State) : (setMotion p m s).film = s.film := by
  unfold setMotion
  dsimp only
  split_ifs <;> simp

@[simp] theorem motorOff_film (p : Proj) (s : State) : (motorOff p s).film = s.film := by
  unfold motorOff
  dsimp only
  split_ifs <;> simp

@[simp] theorem examineMotion_film (p : Proj) (s : State) : (examineMotion p s).film = s.film := by
  unfold examineMotion
  split
  · rfl
  · dsimp only
    split_ifs <;> simp

/-! ## The budget's queue and the lamps -/

@[simp] theorem askExamine_film (s : State) : (askExamine s).film = s.film := rfl

@[simp] theorem newEntry_film (p : Proj) (d : BoothTime) (held : Bool) (s : State) : (newEntry p d held s).film = s.film := rfl

@[simp] theorem budgetRequest_film (p : Proj) (d : BoothTime) (s : State) : (budgetRequest p d s).film = s.film := by
  unfold budgetRequest
  split_ifs
  · rfl
  · split
    · rfl
    · split_ifs <;> rfl

@[simp] theorem withdrawRequest_film (p : Proj) (s : State) : (withdrawRequest p s).film = s.film := by
  unfold withdrawRequest withdrawEntry
  split
  · rfl
  · dsimp only
    split_ifs <;> simp

@[simp] theorem quenchLamp_film (p : Proj) (s : State) : (quenchLamp p s).film = s.film := by
  unfold quenchLamp
  split <;> simp

@[simp] theorem delayedQuench_film (p : Proj) (s : State) : (delayedQuench p s).film = s.film := by
  unfold delayedQuench
  split <;> try split_ifs
  all_goals simp

@[simp] theorem setRunning_film (p : Proj) (s : State) : (setRunning p s).film = s.film := by
  unfold setRunning
  split <;> rfl

@[simp] theorem strikeRequest_film (p : Proj) (x : Target) (d : BoothTime) (s : State) :
    (strikeRequest p x d s).film = s.film := by
  unfold strikeRequest
  by_cases h : s.fire.on
  · rw [if_pos h]
  · rw [if_neg h]
    cases (s.lamp p).st <;> dsimp only
    case dark => split_ifs <;> simp
    all_goals simp

@[simp] theorem reviewCurrent_film (p : Proj) (s : State) : (reviewCurrent p s).film = s.film := by
  unfold reviewCurrent
  dsimp only
  split
  · split_ifs <;> rfl
  · rfl

@[simp] theorem withStubCheck_film (p : Proj) (f : Lamp → Lamp) (s : State) : (withStubCheck p f s).film = s.film := by
  unfold withStubCheck
  dsimp only
  split_ifs <;> rfl

@[simp] theorem keepForecast_film (p : Proj) (f : Forecast) (s : State) : (keepForecast p f s).film = s.film := by
  unfold keepForecast
  dsimp only
  split <;> rfl

@[simp] theorem singleForecast_film (p : Proj) (s : State) : (singleForecast p s).film = s.film := by
  unfold singleForecast
  split <;> simp

@[simp] theorem economyChoice_film (p : Proj) (s : State) : (economyChoice p s).film = s.film := by
  unfold economyChoice
  split
  · simp
  · dsimp only
    split_ifs <;> simp [chooseWarm]

/-! ## Sequencers -/

@[simp] theorem modRecord_film (n : Screen) (f : Changeover → Changeover) (s : State) : (modRecord n f s).film = s.film := rfl
@[simp] theorem setRole_film (p : Proj) (r : Role) (s : State) : (setRole p r s).film = s.film := rfl
@[simp] theorem setDemand_film (p : Proj) (d : Demand) (s : State) : (setDemand p d s).film = s.film := rfl
@[simp] theorem demandOnly_film (p : Proj) (s : State) : (demandOnly p s).film = s.film := rfl
@[simp] theorem setSound_film (n : Screen) (x : Sound) (s : State) : (setSound n x s).film = s.film := rfl

@[simp] theorem recordToNoneSparing_film (n : Screen) (x : Option Side) (s : State) :
    (recordToNoneSparing n x s).film = s.film := by
  unfold recordToNoneSparing
  split
  · rfl
  · dsimp only
    split_ifs <;> simp [undoIncoming]

@[simp] theorem recordToNone_film (n : Screen) (s : State) : (recordToNone n s).film = s.film :=
  recordToNoneSparing_film n none s

@[simp] theorem lampUnavailable_film (p : Proj) (s : State) : (lampUnavailable p s).film = s.film := by
  unfold lampUnavailable
  dsimp only
  split_ifs
  · rfl
  · split
    · split_ifs <;> rfl
    · rfl

@[simp] theorem raiseRequest_film (p : Proj) (x : Target) (d : BoothTime) (s : State) :
    (raiseRequest p x d s).film = s.film := by
  unfold raiseRequest
  split_ifs <;> simp

@[simp] theorem askRunning_film (p : Proj) (s : State) : (askRunning p s).film = s.film := by
  unfold askRunning
  split <;> simp

@[simp] theorem strikeAction_film (n : Screen) (s : State) : (strikeAction n s).film = s.film := by
  unfold strikeAction
  split
  · rfl
  · dsimp only
    split <;> try split_ifs
    all_goals simp

@[simp] theorem strikeIfReached_film (n : Screen) (s : State) : (strikeIfReached n s).film = s.film := by
  unfold strikeIfReached
  split
  · split_ifs <;> simp
  · rfl

@[simp] theorem warmChosen_film (p : Proj) (s : State) : (warmChosen p s).film = s.film := by
  unfold warmChosen
  split
  · split_ifs <;> simp
  · rfl

@[simp] theorem switchOver_film (n : Screen) (late : Bool) (s : State) : (switchOver n late s).film = s.film := by
  unfold switchOver
  split
  · rfl
  · simp

@[simp] theorem takeChangeCue_film (n : Screen) (c : CueTake) (s : State) : (takeChangeCue n c s).film = s.film := by
  unfold takeChangeCue
  dsimp only
  split
  · rfl
  · split <;> simp

@[simp] theorem changeCueByCount_film (n : Screen) (p : Proj) (s : State) : (changeCueByCount n p s).film = s.film := by
  unfold changeCueByCount
  split
  · split_ifs <;> simp
  · rfl

@[simp] theorem motorCheck_film (n : Screen) (p : Proj) (s : State) : (motorCheck n p s).film = s.film := by
  unfold motorCheck
  split
  · dsimp only
    split_ifs <;> rfl
  · rfl

@[simp] theorem changeCheck_film (n : Screen) (p : Proj) (s : State) : (changeCheck n p s).film = s.film := by
  unfold changeCheck
  split
  · dsimp only
    split_ifs <;> rfl
  · rfl

@[simp] theorem pulseChecked_film (n : Screen) (r : Changeover) (w k : Nat) (s : State) :
    (pulseChecked n r w k s).film = s.film := by
  unfold pulseChecked
  dsimp only
  split_ifs <;> rfl

@[simp] theorem haltScreen_film (n : Screen) (r : HaltReason) (p : Option Proj) (s : State) :
    (haltScreen n r p s).film = s.film := by
  unfold haltScreen
  split_ifs <;> simp

@[simp] theorem stopFilm_film (p : Proj) (s : State) : (stopFilm p s).film = s.film := by
  unfold stopFilm
  dsimp only
  split_ifs
  · split <;> simp
  · rfl

@[simp] theorem haltFilm_film (r : HaltReason) (p : Proj) (s : State) : (haltFilm r p s).film = s.film := by
  unfold haltFilm
  split_ifs <;> simp

@[simp] theorem haltLamp_film (r : HaltReason) (p : Proj) (s : State) : (haltLamp r p s).film = s.film := by
  unfold haltLamp
  dsimp only
  split_ifs
  · rfl
  · split <;> simp

@[simp] theorem haltFire_film (n : Screen) (s : State) : (haltFire n s).film = s.film := by
  simp [haltFire]

@[simp] theorem haltLocalFire_film (p : Proj) (s : State) : (haltLocalFire p s).film = s.film := by
  unfold haltLocalFire
  dsimp only
  split_ifs
  · rfl
  · split <;> try split_ifs
    all_goals simp

@[simp] theorem closing_film (p : Proj) (s : State) : (closing p s).film = s.film := by
  simp [closing]

@[simp] theorem haltMissed_film (p : Proj) (s : State) : (haltMissed p s).film = s.film := by
  simp [haltMissed]

@[simp] theorem reelEnds_film (p : Proj) (s : State) : (reelEnds p s).film = s.film := by
  unfold reelEnds
  dsimp only
  split <;> simp

@[simp] theorem endIfReached_film (p : Proj) (s : State) : (endIfReached p s).film = s.film := by
  unfold endIfReached
  split
  · split_ifs <;> simp
  · rfl

@[simp] theorem dropIncoming_film (p : Proj) (s : State) : (dropIncoming p s).film = s.film := by
  unfold dropIncoming
  split_ifs <;> simp

@[simp] theorem lightMarks_film (p : Proj) (s : State) : (lightMarks p s).film = s.film := by
  unfold lightMarks
  split
  · exact forEach_frame _ _ State.film (fun m t => by unfold actOnMark; split <;> rfl) s
  · rfl

@[simp] theorem examinePair_film (p : Proj) (s : State) : (examinePair p s).film = s.film := by
  unfold examinePair
  split
  · split_ifs <;> rfl
  · rfl

@[simp] theorem incomingFault_film (p : Proj) (f : IncomingFault) (s : State) : (incomingFault p f s).film = s.film := by
  unfold incomingFault
  split
  · split_ifs
    · rfl
    · split <;> simp
  · rfl

@[simp] theorem endSwitched_film (n : Screen) (s : State) : (endSwitched n s).film = s.film := by
  unfold endSwitched
  split
  · split_ifs <;> rfl
  · rfl

@[simp] theorem onStall_film (p : Proj) (s : State) : (onStall p s).film = s.film := by
  unfold onStall
  split <;> simp

@[simp] theorem onLit_film (p : Proj) (s : State) : (onLit p s).film = s.film := by
  unfold onLit
  split_ifs <;> rfl

@[simp] theorem onArcOut_film (p : Proj) (w : Bool) (s : State) : (onArcOut p w s).film = s.film := by
  unfold onArcOut
  dsimp only
  split_ifs <;> rfl

@[simp] theorem onReclaim_film (p : Proj) (s : State) : (onReclaim p s).film = s.film := by
  unfold onReclaim
  split_ifs <;> rfl

@[simp] theorem onStrikeFailed_film (p : Proj) (s : State) : (onStrikeFailed p s).film = s.film := by
  unfold onStrikeFailed
  split
  · simp
  · simp
  · split_ifs <;> rfl

/-! ## Strikes, the budget and the events of a lamp -/

@[simp] theorem failStrike_film (p : Proj) (c : FaultCause) (s : State) : (failStrike p c s).film = s.film := by
  simp [failStrike, faultLamp]

@[simp] theorem beginAttempt_film (p : Proj) (s : State) : (beginAttempt p s).film = s.film := by
  unfold beginAttempt
  split_ifs <;> simp

@[simp] theorem failAttempt_film (p : Proj) (c : FaultCause) (s : State) : (failAttempt p c s).film = s.film := by
  unfold failAttempt
  split_ifs <;> simp

@[simp] theorem lightLamp_film (p : Proj) (s : State) : (lightLamp p s).film = s.film := by
  unfold lightLamp
  dsimp only
  split_ifs <;> simp

@[simp] theorem arcOut_film (p : Proj) (s : State) : (arcOut p s).film = s.film := by
  unfold arcOut
  dsimp only
  split_ifs <;> simp [faultLamp]

@[simp] theorem grant_film (e : Entry) (s : State) : (grant e s).film = s.film := by
  simp [grant]

@[simp] theorem reclaim_film (p : Proj) (h : Option Proj) (s : State) : (reclaim p h s).film = s.film := by
  have sent (d : BoothTime) (t : State) : (notifyReclaimed p d h t).film = t.film := by
    unfold notifyReclaimed
    dsimp only
    split <;> try split_ifs
    all_goals rfl
  simp [reclaim, sent]

@[simp] theorem examineQueue_film (k : Nat) (s : State) : (examineQueue k s).film = s.film := by
  induction k generalizing s with
  | zero => rw [examineQueue]
  | succ k ih =>
    cases hq : s.budget.queue with
    | nil => simp [examineQueue, hq]
    | cons e rest =>
      rw [examineQueue.eq_def]
      simp only [hq]
      split_ifs
      · rfl
      · simp [ih]
      · split <;> simp [ih]
      · rfl

@[simp] theorem examineBudget_film (s : State) : (examineBudget s).film = s.film := by
  unfold examineBudget restoreBudget markLead
  split_ifs <;> simp

@[simp] theorem lateStrike_film (p : Proj) (s : State) : (lateStrike p s).film = s.film := by
  unfold lateStrike
  split
  · split_ifs <;> rfl
  · rfl

@[simp] theorem lateStrikes_film (s : State) : (lateStrikes s).film = s.film :=
  forEach_frame _ _ State.film lateStrike_film s

@[simp] theorem overdraftReclaim_film (k : Nat) (s : State) : (overdraftReclaim k s).film = s.film := by
  induction k generalizing s with
  | zero => rfl
  | succ k ih =>
    unfold overdraftReclaim
    split_ifs
    · rfl
    · split
      · simp [ih]
      · rfl

@[simp] theorem enterOverdraft_film (s : State) : (enterOverdraft s).film = s.film := by
  simp [enterOverdraft]

@[simp] theorem touchSample_film (p : Proj) (v : Nat) (s : State) : (touchSample p v s).film = s.film := by
  unfold touchSample touchFeed
  dsimp only
  split_ifs <;> simp

@[simp] theorem drawEnd_film (p : Proj) (v : Nat) (s : State) : (drawEnd p v s).film = s.film := by
  unfold drawEnd standbyInOverdraft
  dsimp only
  split_ifs <;> simp

@[simp] theorem regulate_film (p : Proj) (v : Nat) (s : State) : (regulate p v s).film = s.film := rfl

@[simp] theorem feedInterval_film (p : Proj) (s : State) : (feedInterval p s).film = s.film := by
  unfold feedInterval feedStep
  split_ifs <;> simp

@[simp] theorem litSample_film (p : Proj) (v : Nat) (s : State) : (litSample p v s).film = s.film := by
  unfold litSample
  dsimp only
  split_ifs <;> simp

@[simp] theorem quenchingEnds_film (p : Proj) (s : State) : (quenchingEnds p s).film = s.film := by
  unfold quenchingEnds
  dsimp only
  split <;> simp

/-! ## The end of an event -/

@[simp] theorem relight_film (p : Proj) (s : State) : (relight p s).film = s.film := by
  unfold relight
  split_ifs <;> rfl

@[simp] theorem recordStep_film (n : Screen) (s : State) : (recordStep n s).film = s.film := by
  unfold recordStep
  split
  · rfl
  · dsimp only
    split <;> try split_ifs
    all_goals simp

/-! ## Fire -/

@[simp] theorem boothFire_film (s : State) : (boothFire s).film = s.film := by
  have haltAll (t : State) : (forEach Screen.all haltFire t).film = t.film := forEach_frame _ _ State.film haltFire_film t
  have quenchAll (t : State) : (forEach Proj.all fireLamp t).film = t.film :=
    forEach_frame _ _ State.film (fun p u => by simp [fireLamp]) t
  simp [boothFire, haltAll, quenchAll]

@[simp] theorem sourceRise_film (x : Source) (s : State) : (sourceRise x s).film = s.film := by
  unfold sourceRise recordSource
  dsimp only
  split_ifs
  · rfl
  · split <;> simp [modSources, modOpenEntry]
  · rfl
  · simp [modSources]

@[simp] theorem sourceFall_film (x : Source) (s : State) : (sourceFall x s).film = s.film := rfl

@[simp] theorem sourceFollows_film (i : FireInput) (v : Bool) (s : State) : (sourceFollows i v s).film = s.film := by
  unfold sourceFollows
  split_ifs <;> simp

@[simp] theorem flameRise_film (p : Proj) (s : State) : (flameRise p s).film = s.film := by
  simp [flameRise]

@[simp] theorem flameFall_film (p : Proj) (s : State) : (flameFall p s).film = s.film := by
  unfold flameFall
  dsimp only
  split_ifs <;> rfl

@[simp] theorem persistenceReached_film (p : Proj) (s : State) : (persistenceReached p s).film = s.film := by
  simp [persistenceReached]

@[simp] theorem upChange_film (q : Port) (v : Bool) (s : State) : (upChange q v s).film = s.film := by
  unfold upChange portDrops
  dsimp only
  split_ifs
  · rfl
  · split
    · split_ifs <;> simp
    · rfl
  · rfl

@[simp] theorem firstScan_film (i : ScanInputs) (s : State) : (firstScan i s).film = s.film := by
  have samples (t : State) : (scanSamples i t).film = t.film :=
    forEach_frame _ _ State.film (fun _ _ => by simp) t
  have flames (t : State) : (scanFlames i t).film = t.film :=
    forEach_frame _ _ State.film (fun p u => by split_ifs <;> simp) t
  have sources (t : State) : (scanSources i t).film = t.film := by
    unfold scanSources
    dsimp only
    split_ifs
    · exact forEach_frame _ _ State.film (fun _ _ => by simp) t
    · rw [boothFire_film]; rfl
    · rfl
  unfold firstScan
  rw [sources, flames, samples]
  rfl

/-! ## The limits of a film -/

@[simp] theorem coastReached_film (p : Proj) (s : State) : (coastReached p s).film = s.film := by
  unfold coastReached
  split_ifs <;> simp

@[simp] theorem runupReached_film (p : Proj) (s : State) : (runupReached p s).film = s.film := by
  unfold runupReached
  split_ifs <;> simp

end Sys2Proof.Machine

end

/-! # Proofs: the channels stay within their ranges (O23)

What leaves the films alone keeps `motionWellKept`; each operation that writes a film writes values within the ranges. -/

section

namespace Sys2Proof.Machine

theorem wellKept_of_film {s t : State} (e : t.film = s.film) (h : motionWellKept s) : motionWellKept t := by
  obtain ⟨channels, settings⟩ := h
  refine ⟨fun p => ?_, by rw [film_settings e]; exact settings⟩
  have same : (t.chan p).measured.ok ↔ (s.chan p).measured.ok := by rw [film_chan e p]
  exact same.2 (channels p)

theorem modChan_wellKept {s : State} (p : Proj) (f : Channel → Channel) (hf : ∀ x, x.ok → (f x).ok) (h : motionWellKept s) :
    motionWellKept (s.modChan p f) := by
  obtain ⟨channels, settings⟩ := h
  refine ⟨fun q => ?_, settings⟩
  rw [chan_modChan]
  split_ifs
  · exact hf _ (channels p)
  · exact channels q

theorem setCtx_wellKept {s : State} (p : Proj) (v : Option Context) (h : motionWellKept s) : motionWellKept (s.setCtx p v) := h

/-- What keeps a property for each name, a walk over the names keeps. -/
theorem forEach_keeps {α : Type} (names : List α) (f : α → State → State) (P : State → Prop) (hf : ∀ x t, P t → P (f x t))
    {s : State} (h : P s) : P (forEach names f s) := by
  unfold forEach
  induction names generalizing s with
  | nil => exact h
  | cons x xs ih => exact ih (hf x s h)

/-! ## The channels' own operations -/

theorem clearRing_ok (c : Channel) (h : c.ok) : c.clearRing.ok := by
  obtain ⟨frames, age, -, -, bounce⟩ := h
  exact ⟨frames, age, by simp [Channel.clearRing], by simp [Channel.clearRing], bounce⟩

theorem length_enterPeriod_le (ring : List Nat) (x : Nat) (h : ring.length ≤ 4) : (enterPeriod ring x).length ≤ 4 := by
  unfold enterPeriod
  split_ifs <;> simp <;> omega

theorem mem_enterPeriod {ring : List Nat} {x y : Nat} (h : y ∈ enterPeriod ring x) : y ∈ ring ∨ y = x := by
  unfold enterPeriod at h
  split_ifs at h
  · simpa using h
  · rcases List.mem_append.1 h with old | new
    · exact Or.inl (List.mem_of_mem_tail old)
    · exact Or.inr (by simpa using new)

/-- A frame event counts up to 65,535 and enters a period of at least 1 (R22, R25). -/
theorem frame_ok (c : Channel) (h : c.ok) : c.frame.ok := by
  obtain ⟨frames, age, length, periods, bounce⟩ := h
  unfold Channel.frame
  split_ifs
  · refine ⟨Nat.min_le_left _ _, by simp, length_enterPeriod_le _ _ length, fun x hx => ?_, bounce⟩
    rcases mem_enterPeriod hx with old | rfl
    · exact periods x old
    · omega
  · exact ⟨Nat.min_le_left _ _, by simp, length, periods, bounce⟩

theorem older_ok (c : Channel) (h : c.ok) : c.older.ok := by
  obtain ⟨frames, -, length, periods, bounce⟩ := h
  exact ⟨frames, Nat.min_le_left _ _, length, periods, bounce⟩

theorem reset_ok : Channel.reset.ok := by
  refine ⟨?_, ?_, ?_, ?_, ?_⟩ <;> decide

theorem clearRing_wellKept {s : State} (p : Proj) (h : motionWellKept s) : motionWellKept (clearRing p s) :=
  modChan_wellKept p _ clearRing_ok h

theorem motorOn_wellKept {s : State} (p : Proj) (h : motionWellKept s) : motionWellKept (motorOn p s) := by
  unfold motorOn
  dsimp only
  split_ifs
  · exact h
  · exact wellKept_of_film (setMotion_film _ _ _) (modChan_wellKept p _ clearRing_ok h)
  · exact wellKept_of_film (by simp) h
  · exact h

theorem channelFrame_wellKept {s : State} (p : Proj) (h : motionWellKept s) : motionWellKept (channelFrame p s) := by
  have framed : motionWellKept (s.modChan p Channel.frame) := modChan_wellKept p _ frame_ok h
  unfold channelFrame
  dsimp only
  split_ifs
  · exact wellKept_of_film (by simp) framed
  · exact framed

theorem channelThread_wellKept {s : State} (p : Proj) (h : motionWellKept s) : motionWellKept (channelThread p s) := by
  refine wellKept_of_film (setMotion_film _ _ _) (modChan_wellKept p _ (fun x hx => ?_) h)
  obtain ⟨-, age, length, periods, -⟩ := clearRing_ok x hx
  exact ⟨by simp, age, length, periods, by simp⟩

theorem channelUnthread_wellKept {s : State} (p : Proj) (h : motionWellKept s) : motionWellKept (channelUnthread p s) := by
  refine wellKept_of_film (setMotion_film _ _ _) (modChan_wellKept p _ (fun x hx => ?_) h)
  obtain ⟨frames, age, length, periods, -⟩ := clearRing_ok x hx
  exact ⟨frames, age, length, periods, by simp⟩

theorem channelResume_wellKept {s : State} (p : Proj) (h : motionWellKept s) : motionWellKept (channelResume p s) := by
  unfold channelResume
  split
  · exact wellKept_of_film (by simp) (clearRing_wellKept p h)
  · exact wellKept_of_film (by simp) (clearRing_wellKept p h)
  · exact h

/-! ## Sequencers -/

theorem commit_wellKept {s : State} (p : Proj) (h : motionWellKept s) : motionWellKept (commit p s) := by
  unfold commit
  split <;> exact h

theorem takeMotorCue_wellKept {s : State} (n : Screen) (c : CueTake) (h : motionWellKept s) :
    motionWellKept (takeMotorCue n c s) := by
  unfold takeMotorCue
  dsimp only
  split
  · exact h
  · split_ifs
    · exact h
    · exact motorOn_wellKept _ (commit_wellKept _ (wellKept_of_film (by simp) h))
    · exact motorOn_wellKept _ (commit_wellKept _ h)

theorem examineArming_wellKept {s : State} (n : Screen) (h : motionWellKept s) : motionWellKept (examineArming n s) := by
  unfold examineArming
  split
  · exact h
  · dsimp only
    split_ifs
    · exact takeMotorCue_wellKept n _ (wellKept_of_film (by simp) h)
    · exact wellKept_of_film (by simp) h

theorem motorCueByCount_wellKept {s : State} (n : Screen) (p : Proj) (h : motionWellKept s) :
    motionWellKept (motorCueByCount n p s) := by
  unfold motorCueByCount
  split
  · split_ifs
    · exact takeMotorCue_wellKept n _ h
    · exact h
  · exact h

theorem recordFrame_wellKept {s : State} (n : Screen) (p : Proj) (h : motionWellKept s) :
    motionWellKept (recordFrame n p s) := by
  unfold recordFrame
  split
  · split_ifs
    · exact wellKept_of_film (by simp) h
    · refine wellKept_of_film ?_ (motorCueByCount_wellKept n p (wellKept_of_film (strikeIfReached_film n s) h))
      simp
    · exact h
  · exact h

theorem recordPulse_wellKept {s : State} (p : Proj) (k : Nat) (h : motionWellKept s) : motionWellKept (recordPulse p k s) := by
  have sense (n : Screen) (r : Changeover) (w : Nat) : motionWellKept (pulseSense n r w k s) := by
    unfold pulseSense
    split_ifs
    · exact takeMotorCue_wellKept n _ h
    · exact wellKept_of_film (by simp) h
    · exact h
    · exact h
  unfold recordPulse
  split
  · split_ifs
    · dsimp only
      split
      · exact h
      · exact h
      · split_ifs <;> exact h
      · exact sense _ _ _
      · exact wellKept_of_film (by simp) h
    · exact h
  · exact h

theorem sequencerFrame_wellKept {s : State} (p : Proj) (h : motionWellKept s) : motionWellKept (sequencerFrame p s) := by
  unfold sequencerFrame
  dsimp only
  split
  · exact wellKept_of_film (by split_ifs <;> simp) h
  · split_ifs
    · exact wellKept_of_film (endIfReached_film _ _) (recordFrame_wellKept _ p (wellKept_of_film (lightMarks_film p s) h))
    · exact h
  · exact recordFrame_wellKept _ p h
  · exact h
  · exact h

theorem emptyContext_wellKept {s : State} (p : Proj) (h : motionWellKept s) : motionWellKept (emptyContext p s) := by
  unfold emptyContext
  split
  · exact h
  · exact wellKept_of_film (by simp) (channelUnthread_wellKept p (setCtx_wellKept p none h))

theorem beginRecord_wellKept {s : State} (p : Proj) (k : StartKind) (h : motionWellKept s) :
    motionWellKept (beginRecord p k s) := commit_wellKept p h

theorem beginStart_wellKept {s : State} (p : Proj) (k : StartKind) (h : motionWellKept s) :
    motionWellKept (beginStart p k s) := by
  have begun {t : State} (ht : motionWellKept t) :
      motionWellKept (askRunning p (programTakes p.screen 2 (beginRecord p k t))) :=
    wellKept_of_film (by simp) (beginRecord_wellKept p k ht)
  unfold beginStart
  dsimp only
  split_ifs
  · exact begun (wellKept_of_film (modSeq_film s _ _) h)
  · exact begun h

theorem examinePending_wellKept {s : State} (n : Screen) (h : motionWellKept s) : motionWellKept (examinePending n s) := by
  unfold examinePending
  split_ifs
  · split
    · exact beginStart_wellKept _ _ h
    · exact h
  · exact h

theorem examineThreading_wellKept {s : State} (n : Screen) (h : motionWellKept s) : motionWellKept (examineThreading n s) :=
  examinePending_wellKept n (examineArming_wellKept n h)

theorem expireInterval_wellKept {s : State} (n : Screen) (h : motionWellKept s) : motionWellKept (expireInterval n s) := by
  unfold expireInterval
  split
  · exact beginStart_wellKept _ _ h
  · dsimp only
    split <;> exact h

theorem onRunout_wellKept {s : State} (p : Proj) (h : motionWellKept s) : motionWellKept (onRunout p s) := by
  have emptied : motionWellKept (setRole p .idle (emptyContext p (motorOff p s))) :=
    wellKept_of_film (setRole_film _ _ _) (emptyContext_wellKept p (wellKept_of_film (motorOff_film p s) h))
  unfold onRunout
  split
  · exact wellKept_of_film (by simp) h
  · exact examineArming_wellKept _ (wellKept_of_film (by simp) emptied)
  · exact wellKept_of_film (by simp) h
  · exact emptied
  · exact h

theorem onBreak_wellKept {s : State} (p : Proj) (h : motionWellKept s) : motionWellKept (onBreak p s) := by
  unfold onBreak
  split
  · exact wellKept_of_film (by simp) h
  · exact wellKept_of_film (by simp) h
  · exact wellKept_of_film (by simp) h
  · exact examineArming_wellKept _ (wellKept_of_film (by simp) h)
  · exact h

/-! ## The end of an event -/

theorem strikeWait_wellKept {s : State} (p : Proj) (h : motionWellKept s) : motionWellKept (strikeWait p s) := by
  unfold strikeWait
  dsimp only
  split_ifs
  · exact motorOn_wellKept p (wellKept_of_film (by simp) h)
  · exact wellKept_of_film (by simp) h
  · exact motorOn_wellKept p (wellKept_of_film (by simp) h)
  · exact h

theorem runWait_wellKept {s : State} (p : Proj) (k : StartKind) (h : motionWellKept s) : motionWellKept (runWait p k s) := by
  unfold runWait completeStart
  split_ifs
  · exact examineArming_wellKept _ (wellKept_of_film (by simp) h)
  · exact h

theorem startStep_wellKept {s : State} (n : Screen) (h : motionWellKept s) : motionWellKept (startStep n s) := by
  unfold startStep
  split
  · split_ifs
    · exact h
    · split
      · exact strikeWait_wellKept _ h
      · exact runWait_wellKept _ _ h
  · exact h

theorem screenSteps_wellKept {s : State} (h : motionWellKept s) : motionWellKept (screenSteps s) := by
  refine forEach_keeps _ _ motionWellKept (fun n t ht => ?_) h
  exact wellKept_of_film (recordStep_film _ _) (startStep_wellKept n (wellKept_of_film (by simp) ht))

theorem settleBudget_wellKept {s : State} (k : Nat) (h : motionWellKept s) : motionWellKept (settleBudget k s) := by
  induction k generalizing s with
  | zero => exact h
  | succ k ih =>
    have round : motionWellKept (screenSteps (examineBudget s)) :=
      screenSteps_wellKept (wellKept_of_film (examineBudget_film s) h)
    unfold settleBudget
    dsimp only
    split_ifs
    · exact ih round
    · exact round

/-- The end of an event keeps the ranges. -/
theorem settle_wellKept {s : State} (h : motionWellKept s) : motionWellKept (settle s) := by
  have stepped := screenSteps_wellKept h
  unfold settle
  dsimp only
  split_ifs
  · exact wellKept_of_film (by simp) (settleBudget_wellKept 8 stepped)
  · exact wellKept_of_film (judgeLights_film _) stepped

theorem event_wellKept {f : State → State} {s : State} (hf : motionWellKept s → motionWellKept (f s)) (h : motionWellKept s) :
    motionWellKept (event f s) := by
  unfold event
  split_ifs
  · exact settle_wellKept (hf h)
  · exact h

/-! ## Film events -/

theorem perforation_wellKept {s : State} (p : Proj) (d : Nat) (h : motionWellKept s) : motionWellKept (perforation p d s) := by
  unfold perforation
  split_ifs
  · exact modChan_wellKept p _ (fun _ hx => hx) h
  · exact sequencerFrame_wellKept p (wellKept_of_film (everyCircuit_film _ _)
      (channelFrame_wellKept p (modChan_wellKept p _ (fun _ hx => hx) h)))

theorem cuePulse_wellKept {s : State} (p : Proj) (h : motionWellKept s) : motionWellKept (cuePulse p s) := by
  unfold cuePulse
  dsimp only
  split_ifs
  · refine modChan_wellKept p _ (fun x hx => ?_) h
    obtain ⟨frames, age, length, periods, -⟩ := hx
    exact ⟨frames, age, length, periods, Nat.min_le_left _ _⟩
  · exact recordPulse_wellKept p _ (modChan_wellKept p _ (fun _ hx => hx) h)

theorem breakReached_wellKept {s : State} (p : Proj) (h : motionWellKept s) : motionWellKept (breakReached p s) := by
  have cleared := clearRing_wellKept p h
  unfold breakReached
  dsimp only
  split_ifs
  · exact onRunout_wellKept p (wellKept_of_film (setMotion_film _ _ _) cleared)
  · exact onBreak_wellKept p (wellKept_of_film (setMotion_film _ _ _) cleared)
  · exact cleared

theorem setAge_wellKept {s : State} (p : Proj) (k : Nat) (hk : k ≤ 65535) (h : motionWellKept s) :
    motionWellKept (s.modChan p (fun c => { c with age := k })) := by
  refine modChan_wellKept p _ (fun x hx => ?_) h
  obtain ⟨frames, -, length, periods, bounce⟩ := hx
  exact ⟨frames, hk, length, periods, bounce⟩

theorem breakUnits_le {m : MotionSettings} (h : motionOk m = true) : breakUnits m ≤ 10000 := by
  simp [motionOk, within] at h
  unfold breakUnits
  omega

theorem breakNow_wellKept {s : State} (p : Proj) (h : motionWellKept s) : motionWellKept (breakNow p s) := by
  have window := breakUnits_le h.2
  unfold breakNow
  split_ifs
  · exact breakReached_wellKept p (setAge_wellKept p _ (by omega) h)
  · exact h

theorem coastNow_wellKept {s : State} (p : Proj) (h : motionWellKept s) : motionWellKept (coastNow p s) := by
  have aged {t : State} (ht : motionWellKept t) :
      motionWellKept (coastReached p (t.modChan p (fun c => { c with age := coastUnits }))) :=
    wellKept_of_film (coastReached_film _ _) (setAge_wellKept p coastUnits (by decide) ht)
  unfold coastNow
  dsimp only
  split_ifs
  · exact aged (breakNow_wellKept p h)
  · exact aged h
  · exact h

/-! ## Booth time -/

theorem waitEnds_wellKept {s : State} (c : Instr) (h : motionWellKept s) : motionWellKept (waitEnds c s) := by
  unfold waitEnds
  split
  · exact expireInterval_wellKept _ h
  all_goals exact wellKept_of_film (by simp) h

theorem advanceWithWaits_wellKept {s : State} (h : motionWellKept s) : motionWellKept (advanceWithWaits s) := by
  refine forEach_keeps _ _ motionWellKept (fun c t ht => ?_) (settle_wellKept (s := advanceBoothTime s) h)
  unfold takeWait
  split_ifs
  · exact settle_wellKept (waitEnds_wellKept c ht)
  · exact ht

end Sys2Proof.Machine

end

/-! # Proofs: orders, the clock and the supplies keep the ranges (O23) -/

section

namespace Sys2Proof.Machine

/-! ## Orders -/

@[simp] theorem notifyEdit_film (w : Screen) (p : Proj) (b : NoticeBody) (s : State) : (notifyEdit w p b s).film = s.film := by
  unfold notifyEdit
  dsimp only
  split_ifs <;> rfl

theorem refreshContext_wellKept {s : State} (p : Proj) (k : Nat) (c : Context) (r : ReelRecord) (h : motionWellKept s) :
    motionWellKept (refreshContext p k c r s) := by
  have review {t : State} (ht : motionWellKept t) :
      motionWellKept (reviewCurrent p (notifyEdit r.owner p (.contextRefreshed p k) t)) :=
    wellKept_of_film ((reviewCurrent_film _ _).trans (notifyEdit_film _ _ _ _)) ht
  unfold refreshContext
  dsimp only
  split_ifs
  · exact examineArming_wellKept _ (review (setCtx_wellKept p _ h))
  · exact examineArming_wellKept _ (review (modChan_wellKept p _ (fun _ hx => hx) (setCtx_wellKept p _ h)))

theorem applyStoreReel_wellKept {s : State} (l : Line) (k o : Nat) (f : ReelFields) (h : motionWellKept s) :
    motionWellKept (applyStoreReel l k o f s) := by
  have edited (p : Proj) (r : ReelRecord) {t : State} (ht : motionWellKept t) : motionWellKept (editReaches p k r t) := by
    unfold editReaches markStale
    split
    · split_ifs
      · exact wellKept_of_film (notifyEdit_film _ _ _ _) (setCtx_wellKept p _ ht)
      · exact refreshContext_wellKept p k _ r ht
    · exact ht
  unfold applyStoreReel
  split
  · exact h
  · dsimp only
    split
    · exact edited _ _ h
    · exact h

theorem applyStoreProgram_wellKept {s : State} (n : Nat) (items : List RawItem) (h : motionWellKept s) :
    motionWellKept (applyStoreProgram n items s) := by
  unfold applyStoreProgram
  split
  · exact examineArming_wellKept _ (by split_ifs <;> exact h)
  · exact h

theorem applyThread_wellKept {s : State} (p k : Nat) (h : motionWellKept s) : motionWellKept (applyThread p k s) := by
  unfold applyThread
  split
  · rename_i x r _ _
    have loaded : motionWellKept ((dropIncoming x s).setCtx x (some ⟨k, r, false, false⟩)) :=
      setCtx_wellKept x _ (wellKept_of_film (dropIncoming_film x s) h)
    refine examineThreading_wellKept _ (wellKept_of_film ?_ (channelThread_wellKept x loaded))
    unfold threadForecast
    split_ifs <;> simp
  · exact h

theorem applyUnthread_wellKept {s : State} (p : Nat) (h : motionWellKept s) : motionWellKept (applyUnthread p s) := by
  unfold applyUnthread unthreadReel
  split
  · split
    · exact examineThreading_wellKept _ (emptyContext_wellKept _ h)
    · exact h
  · exact h

theorem applyStart_wellKept {s : State} (n : Nat) (h : motionWellKept s) : motionWellKept (applyStart n s) := by
  unfold applyStart
  split
  · split
    · exact beginStart_wellKept _ _ h
    · exact h
  · exact h

@[simp] theorem darkScreen_film (n : Screen) (s : State) : (darkScreen n s).film = s.film := by
  simp [darkScreen]

@[simp] theorem cancelStart_film (n : Screen) (s : State) : (cancelStart n s).film = s.film := by
  unfold cancelStart
  dsimp only
  split <;> simp

@[simp] theorem applyStop_film (l : Line) (n : Nat) (s : State) : (applyStop l n s).film = s.film := by
  unfold applyStop stopShow notifyStopped
  dsimp only
  split <;> try split_ifs
  all_goals simp

@[simp] theorem applyClose_film (n : Nat) (s : State) : (applyClose n s).film = s.film := by
  unfold applyClose closeShow
  split <;> simp

theorem swapRoles_wellKept {s : State} (n : Screen) (x : Side) (h : motionWellKept s) : motionWellKept (swapRoles n x s) := by
  unfold swapRoles
  dsimp only
  split_ifs
  · exact h
  · exact wellKept_of_film (setRole_film _ _ _) (emptyContext_wellKept _ (wellKept_of_film (modSeq_film _ _ _) h))
  · exact h

theorem applyResume_wellKept {s : State} (n : Nat) (h : motionWellKept s) : motionWellKept (applyResume n s) := by
  unfold applyResume
  split
  · rename_i m _
    split
    · rename_i x _
      have swapped := swapRoles_wellKept m x (wellKept_of_film (removeClaims_film m .fault s) h)
      exact wellKept_of_film (askRunning_film _ _) (beginRecord_wellKept _ _
        (channelResume_wellKept _ (wellKept_of_film (recordToNoneSparing_film _ _ _) swapped)))
    · exact examinePending_wellKept m h
  · exact h

theorem restartHeldMotor_wellKept {s : State} (n : Screen) (r : Changeover) (h : motionWellKept s) :
    motionWellKept (restartHeldMotor n r s) := by
  have rolling := motorOn_wellKept ⟨n, r.incoming⟩ h
  unfold restartHeldMotor
  dsimp only
  split_ifs
  · exact wellKept_of_film (by simp) rolling
  · exact rolling

theorem applyChangeNow_wellKept {s : State} (n : Nat) (h : motionWellKept s) : motionWellKept (applyChangeNow n s) := by
  unfold applyChangeNow
  split
  · split
    · split_ifs
      · exact wellKept_of_film (by simp [switchByHand]) h
      · exact restartHeldMotor_wellKept _ _ h
    · exact h
  · exact h

@[simp] theorem applySetLamp_film (p : Nat) (x : LampSettings) (s : State) : (applySetLamp p x s).film = s.film := by
  unfold applySetLamp takeRunCurrent
  split
  · dsimp only
    split <;> try split_ifs
    all_goals simp
  · rfl

@[simp] theorem applyStrike_film (p r : Nat) (s : State) : (applyStrike p r s).film = s.film := by
  unfold applyStrike
  split <;> simp

@[simp] theorem applyQuench_film (p : Nat) (s : State) : (applyQuench p s).film = s.film := by
  unfold applyQuench quenchByOrder
  split
  · dsimp only
    split_ifs <;> simp
  · rfl

@[simp] theorem applyTrim_film (p k : Nat) (s : State) : (applyTrim p k s).film = s.film := by
  unfold applyTrim trimLamp
  split
  · dsimp only
    split <;> simp
  · rfl

@[simp] theorem applySetCapacity_film (k : Nat) (s : State) : (applySetCapacity k s).film = s.film := by
  unfold applySetCapacity
  dsimp only
  split_ifs <;> simp

@[simp] theorem applySetSurge_film (k : Nat) (s : State) : (applySetSurge k s).film = s.film := by
  unfold applySetSurge
  dsimp only
  split_ifs <;> rfl

@[simp] theorem applySetReclaim_film (k g : Nat) (s : State) : (applySetReclaim k g s).film = s.film := by
  unfold applySetReclaim
  dsimp only
  split_ifs <;> rfl

@[simp] theorem applyLights_film (n : Nat) (form : LightsForm) (s : State) : (applyLights n form s).film = s.film := by
  unfold applyLights
  split
  · exact forEach_frame _ _ State.film (fun m t => by unfold manualTakes; split <;> rfl) s
  · rfl

@[simp] theorem applyLightsRelease_film (n : Nat) (s : State) : (applyLightsRelease n s).film = s.film := by
  unfold applyLightsRelease
  split
  · exact forEach_frame _ _ State.film (fun m t => removeClaims_film m .manual t) s
  · rfl

@[simp] theorem applySetRest_film (c k : Nat) (s : State) : (applySetRest c k s).film = s.film := by
  unfold applySetRest restTakes
  split
  · dsimp only
    split <;> simp
  · rfl

@[simp] theorem applyClearFire_film (s : State) : (applyClearFire s).film = s.film := by
  unfold applyClearFire notifyCleared modOpenEntry
  dsimp only
  split <;> simp

@[simp] theorem applyRehang_film (n : Nat) (s : State) : (applyRehang n s).film = s.film := by
  unfold applyRehang
  split <;> rfl

/-- SET MOTION writes settings that its check has judged (R38). -/
theorem applySetMotion_wellKept {s : State} (m : MotionSettings) (hm : checkSetMotion m = none) (h : motionWellKept s) :
    motionWellKept (applySetMotion m s) := by
  have valid : motionOk m = true := by
    unfold checkSetMotion at hm
    split_ifs at hm
    assumption
  have replaced : motionWellKept { s with motionSettings := m } := ⟨h.1, valid⟩
  refine forEach_keeps _ _ motionWellKept (fun p t ht => ?_)
    (forEach_keeps _ _ motionWellKept (fun p t ht => ?_) (forEach_keeps _ _ motionWellKept (fun p t ht => ?_) replaced))
  · unfold persistenceMeets
    split
    · split_ifs
      · exact wellKept_of_film (persistenceReached_film p t) ht
      · exact ht
    · exact ht
  · unfold gapMeets
    split_ifs
    · exact breakReached_wellKept p ht
    · exact ht
  · unfold runupMeets
    split
    · split_ifs
      · exact wellKept_of_film (runupReached_film p t) ht
      · exact ht
    · exact ht

/-- An order that its block's checks pass keeps the ranges. -/
theorem applyOrder_wellKept {s t : State} (l : Line) (o : Order) (hc : checkOrder l o t = none) (h : motionWellKept s) :
    motionWellKept (applyOrder l o s) := by
  cases o <;> dsimp only [applyOrder]
  case storeReel => exact applyStoreReel_wellKept _ _ _ _ h
  case storeProgram => exact applyStoreProgram_wellKept _ _ h
  case thread => exact applyThread_wellKept _ _ h
  case unthread => exact applyUnthread_wellKept _ h
  case openScreen => unfold applyOpen; split <;> exact h
  case start => exact applyStart_wellKept _ h
  case resume => exact applyResume_wellKept _ h
  case changeNow => exact applyChangeNow_wellKept _ h
  case setMotion m => exact applySetMotion_wellKept m hc h
  case deleteReel | storeScene | setFloor | read | unknown | miscounted => exact h
  case fireAssert => exact wellKept_of_film (sourceRise_film _ _) h
  case fireRelease => exact wellKept_of_film (sourceFall_film _ _) h
  all_goals exact wellKept_of_film (by simp) h

theorem takeOrder_wellKept {s : State} (l : Line) (o : Order) (h : motionWellKept s) : motionWellKept (takeOrder l o s) := by
  unfold takeOrder
  split
  · refine wellKept_of_film ?_ h
    unfold takeRead clearOwnStatus
    split <;> try split_ifs
    all_goals rfl
  · dsimp only
    split_ifs with ha
    · exact applyOrder_wellKept l _ (checkOrder_of_acts ha) h
    · exact h

theorem takeAll_wellKept {s : State} (l : Line) (h : motionWellKept s) : motionWellKept (takeAll l s) := by
  have one {t : State} (ht : motionWellKept t) : motionWellKept (takeOne l t) := by
    unfold takeOne
    split
    · exact ht
    · split_ifs
      · exact settle_wellKept (takeOrder_wellKept l _ (wellKept_of_film (modLine_film _ _ _) ht))
      · exact ht
  exact one (one h)

theorem arrive_wellKept {s : State} (l : Line) (o : Order) (h : motionWellKept s) : motionWellKept (arrive l o s) := by
  unfold arrive
  split_ifs
  · exact takeAll_wellKept l (wellKept_of_film (modLine_film _ _ _) h)
  · exact h
  · exact h

/-! ## The bytes of a line -/

@[simp] theorem setAssembler_film (l : Line) (a : Assembler) (s : State) : (setAssembler l a s).film = s.film := rfl

@[simp] theorem garble_film (l : Line) (c : GarbleCause) (s : State) : (garble l c s).film = s.film := rfl

@[simp] theorem frameTimeOut_film (l : Line) (s : State) : (frameTimeOut l s).film = s.film := by
  unfold frameTimeOut
  split <;> rfl

@[simp] theorem gapTimeOut_film (l : Line) (s : State) : (gapTimeOut l s).film = s.film := by
  unfold gapTimeOut
  split <;> rfl

@[simp] theorem byteFails_film (l : Line) (s : State) : (byteFails l s).film = s.film := by
  unfold byteFails
  split <;> rfl

@[simp] theorem lineBreaks_film (l : Line) (s : State) : (lineBreaks l s).film = s.film := rfl

theorem wholeFrame_wellKept {s : State} (l : Line) (m : Option Partial) (got : List Byte) (h : motionWellKept s) :
    motionWellKept (wholeFrame l m got s) := by
  unfold wholeFrame soundFrame
  split_ifs
  · split
    · dsimp only
      split_ifs
      · exact wellKept_of_film (garble_film _ _ _) h
      · exact h
      · exact arrive_wellKept l _ (wellKept_of_film (setAssembler_film _ _ _) h)
    · exact wellKept_of_film (garble_film _ _ _) h
  · exact wellKept_of_film (garble_film _ _ _) h

theorem feedByte_wellKept {s : State} (l : Line) (b : Byte) (h : motionWellKept s) : motionWellKept (feedByte l b s) := by
  unfold feedByte
  split
  · exact wellKept_of_film (by split_ifs <;> rfl) h
  · unfold frameByte
    split
    · exact h
    · split_ifs
      · exact wellKept_of_film (garble_film _ _ _) h
      · exact wellKept_of_film (setAssembler_film _ _ _) h
      · exact wholeFrame_wellKept l _ _ h
  · exact wellKept_of_film (by split_ifs <;> rfl) h

theorem feedBytes_wellKept {s : State} (l : Line) (bytes : List Byte) (h : motionWellKept s) :
    motionWellKept (feedBytes l bytes s) := by
  unfold feedBytes
  induction bytes generalizing s with
  | nil => exact h
  | cons b bs ih => exact ih (feedByte_wellKept l b h)

theorem messageSent_wellKept {s : State} (l : Line) (h : motionWellKept s) : motionWellKept (messageSent l s) := by
  unfold messageSent
  split
  · exact takeAll_wellKept l (wellKept_of_film (modLine_film _ _ _) h)
  · exact h

theorem whileRunning_wellKept {f : State → State} {s : State} (hf : motionWellKept s → motionWellKept (f s))
    (h : motionWellKept s) : motionWellKept (whileRunning f s) := by
  unfold whileRunning
  split_ifs
  · exact hf h
  · exact h

/-! ## The passing of time -/

/-- The frame ages rise and saturate at 65,535 (R24). -/
theorem stampAdvance_wellKept {s : State} (h : motionWellKept s) : motionWellKept (stampAdvance s) := by
  refine ⟨fun p => ?_, h.2⟩
  have older : (stampAdvance s).chan p = (s.chan p).older := by simp [stampAdvance, State.chan]
  rw [older]
  exact older_ok _ (h.1 p)

theorem channelLimits_wellKept {s : State} (p : Proj) (h : motionWellKept s) : motionWellKept (channelLimits p s) := by
  have coast {t : State} (ht : motionWellKept t) :
      motionWellKept (if (s.chan p).age = coastUnits then settle (coastNow p t) else t) := by
    split_ifs
    · exact settle_wellKept (coastNow_wellKept p ht)
    · exact ht
  unfold channelLimits
  refine coast ?_
  split_ifs
  · exact settle_wellKept (breakNow_wellKept p h)
  · exact h

theorem runupTick_wellKept {s : State} (p : Proj) (h : motionWellKept s) : motionWellKept (runupTick p s) := by
  unfold runupTick
  split
  · exact h
  · rename_i k _
    have ticked : motionWellKept (s.modChan p (fun c => { c with runup := some (k + 1) })) :=
      wellKept_of_film (by simp) h
    dsimp only
    split_ifs
    · exact settle_wellKept (wellKept_of_film (runupReached_film _ _) ticked)
    · exact ticked

theorem persistTick_wellKept {s : State} (p : Proj) (h : motionWellKept s) : motionWellKept (persistTick p s) := by
  unfold persistTick
  split
  · exact h
  · dsimp only
    split_ifs
    · exact settle_wellKept (wellKept_of_film (by simp) h)
    · exact h

theorem lampTick_wellKept {s : State} (p : Proj) (h : motionWellKept s) : motionWellKept (lampTick p s) := by
  have strike : motionWellKept (strikeTick p s) := by
    unfold strikeTick
    dsimp only
    split_ifs
    · exact settle_wellKept (wellKept_of_film (by simp) h)
    · exact h
  have feed : motionWellKept (feedTick p s) := by
    unfold feedTick
    dsimp only
    split_ifs
    · exact settle_wellKept (wellKept_of_film (by simp) h)
    · exact h
  have forecast {t : State} (ht : motionWellKept t) : motionWellKept (forecastTick p t) := by
    unfold forecastTick
    dsimp only
    split_ifs
    · exact settle_wellKept (wellKept_of_film (by simp) ht)
    · exact ht
  unfold lampTick
  split_ifs
  · exact forecast feed
  · exact strike
  · exact h

theorem lineTick_film (l : Line) (s : State) : (lineTick l s).film = s.film := by
  unfold lineTick
  dsimp only
  split <;> try split_ifs
  all_goals simp

theorem boothTick_wellKept {s : State} (h : motionWellKept s) : motionWellKept (boothTick s) := by
  have lined : motionWellKept (forEach Line.all lineTick { s with stampSub := 0 }) :=
    forEach_keeps _ _ motionWellKept (fun l t ht => wellKept_of_film (lineTick_film l t) ht) h
  have timed := forEach_keeps Proj.all (fun p x => lampTick p (persistTick p (runupTick p x))) motionWellKept
    (fun p t ht => lampTick_wellKept p (persistTick_wellKept p (runupTick_wellKept p ht))) lined
  have counted {t : State} (k : Nat) (ht : motionWellKept t) : motionWellKept { t with tickCount := k } := ht
  unfold boothTick
  dsimp only
  split_ifs
  · exact advanceWithWaits_wellKept timed
  · exact counted _ timed

theorem idle_wellKept {s : State} (h : motionWellKept s) : motionWellKept (idle s) := by
  have limits : motionWellKept (forEach Proj.all channelLimits (stampAdvance s)) :=
    forEach_keeps _ _ motionWellKept (fun p t ht => channelLimits_wellKept p ht) (stampAdvance_wellKept h)
  unfold idle
  dsimp only
  split_ifs
  · exact boothTick_wellKept limits
  · exact limits
  · exact h

/-! ## Supplies and resets -/

/-- Reset channels and settings within their ranges are well kept, whatever else the state holds. -/
theorem wellKept_of_reset {t : State} (hc : t.channels = State.reset.channels) (hm : motionOk t.motionSettings = true) :
    motionWellKept t := by
  refine ⟨fun p => ?_, hm⟩
  have e : t.chan p = Channel.reset := by simp [State.chan, hc, State.reset]
  rw [e]
  exact reset_ok

theorem defaults_motionOk : motionOk MotionSettings.defaults = true := by decide

theorem sgoodFalls_wellKept {s : State} (vsb : Bool) (h : motionWellKept s) : motionWellKept (sgoodFalls vsb s) := by
  unfold sgoodFalls
  split
  · exact h
  · cases vsb
    · exact wellKept_of_reset rfl defaults_motionOk
    · exact wellKept_of_reset rfl h.2

theorem sgoodRises_wellKept {s : State} (vsb : Bool) (h : motionWellKept s) : motionWellKept (sgoodRises vsb s) := by
  have restored (t : State) (ht : motionOk t.motionSettings = true) :
      motionWellKept (if t.storeValid then t.keptReset else t.powerOn) := by
    split_ifs
    · exact wellKept_of_reset rfl ht
    · exact wellKept_of_reset rfl defaults_motionOk
  unfold sgoodRises
  split
  · exact h
  · refine restored (if vsb then s else s.storeLost) ?_
    split_ifs
    · exact h.2
    · exact defaults_motionOk

theorem vsbLost_wellKept {s : State} (h : motionWellKept s) : motionWellKept (vsbLost s) := by
  unfold vsbLost
  split
  · exact h
  · exact ⟨h.1, defaults_motionOk⟩

theorem resetRises_wellKept {s : State} (h : motionWellKept s) : motionWellKept (resetRises s) := by
  unfold resetRises
  split_ifs
  · exact h
  · split
    · exact wellKept_of_reset rfl h.2
    · exact h

/-! ## Every step -/

/-- Every command keeps the ranges: the orders and the rows of a line by the orders they complete, the film's own rows by what
they write, the supplies by their reset values, and the events of the other blocks by leaving the films alone. -/
theorem exec_wellKept (c : Instr) {s : State} (h : motionWellKept s) : ∃ t, exec c s = .next t ∧ motionWellKept t := by
  cases hc : orderOfInstr c with
  | some lo => exact ⟨_, exec_order (l := lo.1) (o := lo.2) hc s, arrive_wellKept _ _ h⟩
  | none =>
    cases c <;> try (cases hc; done)
    all_goals refine ⟨_, rfl, ?_⟩
    case frameReceived l bytes => exact whileRunning_wellKept (feedBytes_wellKept l bytes) h
    case messageSent l => exact whileRunning_wellKept (messageSent_wellKept l) h
    case frameTimeLimit | gapTimeLimit | lineBreak | byteError =>
      exact whileRunning_wellKept (wellKept_of_film (by simp)) h
    case perforationPulse p =>
      refine event_wellKept (fun hs => ?_) h
      split
      · exact perforation_wellKept p _ hs
      · exact hs
    case cuePulse p =>
      refine event_wellKept (fun hs => ?_) h
      split_ifs
      · exact cuePulse_wellKept p hs
      · exact hs
    case breakWindow p => exact event_wellKept (breakNow_wellKept p) h
    case coastLimit p => exact event_wellKept (coastNow_wellKept p) h
    case intervalExpiry n =>
      refine event_wellKept (fun hs => ?_) h
      split_ifs
      · exact expireInterval_wellKept n hs
      · exact hs
    case boothTimeAdvance =>
      split_ifs
      · exact advanceWithWaits_wellKept h
      · exact h
    case sgoodFall vsb => exact sgoodFalls_wellKept vsb h
    case sgoodRise vsb => exact sgoodRises_wellKept vsb h
    case vsbLoss => exact vsbLost_wellKept h
    case panelReset => exact resetRises_wellKept h
    case resetFall => exact h
    case strikeLate | fireSourceInput | upSwitchChange => exact event_wellKept (wellKept_of_film (by simp)) h
    -- the rows that act only where their own guard holds
    all_goals exact event_wellKept (wellKept_of_film (by split_ifs <;> simp)) h

/-- Settles O23, by cases on the front of the queue: an idle step and a command both keep the ranges. -/
theorem channelsStayWithinTheirRanges : Obligations.ChannelsStayWithinTheirRanges := by
  intro s t h e
  unfold step at e
  split at e
  · cases e
    exact idle_wellKept h
  · rename_i c rest _
    obtain ⟨u, hu, ok⟩ := exec_wellKept c (s := { s with pending := rest }) h
    cases hu.symm.trans e
    exact ok

end Sys2Proof.Machine

end

/-! # Proofs: what leaves the channels alone

The operations on lamps, the lights and the record write no channel; a motor on or off writes its own projector's. -/

section

namespace Sys2Proof.Machine

theorem chan_of_channels {s t : State} (h : t.channels = s.channels) (p : Proj) : t.chan p = s.chan p := by
  simp [State.chan, h]

theorem seq_of_seqs {s t : State} (h : t.seqs = s.seqs) (n : Screen) : t.seq n = s.seq n := by
  simp [State.seq, h]

theorem lamp_of_lamps {s t : State} (h : t.lamps = s.lamps) (p : Proj) : t.lamp p = s.lamp p := by
  simp [State.lamp, h]

/-! ## A channel after a change of motion state or of the motor -/

@[simp] theorem setMotion_chan (p q : Proj) (m : Motion) (s : State) :
    (setMotion p m s).chan q = if q = p then { s.chan p with motion := m } else s.chan q := by
  have marked (t : State) : (everyCircuit (fun c => c.markFilm p) t).chan q = t.chan q := rfl
  unfold setMotion
  dsimp only
  by_cases h : (s.chan p).motion = m
  · rw [if_pos h, ← h]
    split_ifs with hq
    · rw [hq]
    · rfl
  · rw [if_neg h]
    split_ifs <;> simp_all

theorem setMotion_seqs (p : Proj) (m : Motion) (s : State) : (setMotion p m s).seqs = s.seqs := by
  unfold setMotion
  dsimp only
  split_ifs <;> rfl

theorem setMotion_lamps (p : Proj) (m : Motion) (s : State) : (setMotion p m s).lamps = s.lamps := by
  unfold setMotion
  dsimp only
  split_ifs <;> rfl

theorem motorOn_chan_of_ne {p q : Proj} (h : q ≠ p) (s : State) : (motorOn p s).chan q = s.chan q := by
  unfold motorOn
  dsimp only
  split_ifs <;> simp [h]

/-- A motor off leaves the channel of a film that does not coast alone (R32). -/
theorem motorOff_chan_of_stopped {p : Proj} {s : State} (q : Proj) (h : (s.chan p).motion.coasts = false) :
    (motorOff q s).chan p = s.chan p := by
  by_cases hq : p = q
  · subst hq
    have up : (s.chan p).motion ≠ .runup := by
      intro e
      simp [e, Motion.coasts] at h
    unfold motorOff
    simp only [h, if_neg up]
    split_ifs <;> simp_all
  · unfold motorOff
    dsimp only
    split_ifs <;> simp [hq]

@[simp] theorem motorOff_lamps (p : Proj) (s : State) : (motorOff p s).lamps = s.lamps := by
  unfold motorOff
  dsimp only
  split_ifs <;> simp [setMotion_lamps]

/-- What a motor off does to the Sequencers: the motor is off. -/
theorem motorOff_seq (p : Proj) (s : State) (n : Screen) : (motorOff p s).seq n =
    if n = p.screen then { s.seq n with motor := (s.seq n).motor.set p.side false } else s.seq n := by
  have moved (m : Motion) (t : State) : (setMotion p m t).seq n = t.seq n := seq_of_seqs (setMotion_seqs p m t) n
  have off : motorIsOn s p = false → (s.seq p.screen).motor.set p.side false = (s.seq p.screen).motor := by
    intro e
    refine Pair.ext_get (fun x => ?_)
    rw [Pair.get_set]
    split_ifs with hx
    · rw [hx]
      exact e.symm
    · rfl
  unfold motorOff
  dsimp only
  by_cases on : motorIsOn s p = true
  · rw [if_pos on]
    split_ifs <;> simp_all
  · rw [if_neg on]
    split_ifs with hn
    · rw [hn, off (by simpa using on)]
    · rfl

/-! ## Lamps -/


@[simp] theorem budgetRequest_channels (p : Proj) (d : BoothTime) (s : State) :
    (budgetRequest p d s).channels = s.channels := by
  unfold budgetRequest
  split_ifs
  · rfl
  · split <;> try split_ifs
    all_goals rfl

@[simp] theorem budgetRequest_seqs (p : Proj) (d : BoothTime) (s : State) : (budgetRequest p d s).seqs = s.seqs := by
  unfold budgetRequest
  split_ifs
  · rfl
  · split <;> try split_ifs
    all_goals rfl

@[simp] theorem withdrawRequest_channels (p : Proj) (s : State) : (withdrawRequest p s).channels = s.channels := by
  unfold withdrawRequest withdrawEntry askExamine
  split
  · rfl
  · dsimp only
    split_ifs <;> simp

@[simp] theorem withdrawRequest_seqs (p : Proj) (s : State) : (withdrawRequest p s).seqs = s.seqs := by
  unfold withdrawRequest withdrawEntry askExamine
  split
  · rfl
  · dsimp only
    split_ifs <;> simp

@[simp] theorem quenchLamp_channels (p : Proj) (s : State) : (quenchLamp p s).channels = s.channels := by
  unfold quenchLamp askExamine
  split <;> simp

@[simp] theorem quenchLamp_seqs (p : Proj) (s : State) : (quenchLamp p s).seqs = s.seqs := by
  unfold quenchLamp askExamine
  split <;> simp

@[simp] theorem delayedQuench_channels (p : Proj) (s : State) : (delayedQuench p s).channels = s.channels := by
  unfold delayedQuench
  split <;> try split_ifs
  all_goals simp

@[simp] theorem setRunning_channels (p : Proj) (s : State) : (setRunning p s).channels = s.channels := by
  unfold setRunning
  split <;> rfl

@[simp] theorem strikeRequest_channels (p : Proj) (x : Target) (d : BoothTime) (s : State) :
    (strikeRequest p x d s).channels = s.channels := by
  unfold strikeRequest
  by_cases h : s.fire.on
  · rw [if_pos h]
  · rw [if_neg h]
    cases (s.lamp p).st <;> dsimp only
    case dark => split_ifs <;> simp
    all_goals simp

@[simp] theorem strikeRequest_seqs (p : Proj) (x : Target) (d : BoothTime) (s : State) :
    (strikeRequest p x d s).seqs = s.seqs := by
  unfold strikeRequest
  by_cases h : s.fire.on
  · rw [if_pos h]
  · rw [if_neg h]
    cases (s.lamp p).st <;> dsimp only
    case dark => split_ifs <;> simp
    all_goals simp

/-! ## Sequencers -/

@[simp] theorem modRecord_channels (n : Screen) (f : Changeover → Changeover) (s : State) :
    (modRecord n f s).channels = s.channels := rfl
@[simp] theorem setRole_channels (p : Proj) (r : Role) (s : State) : (setRole p r s).channels = s.channels := rfl
@[simp] theorem setDemand_channels (p : Proj) (d : Demand) (s : State) : (setDemand p d s).channels = s.channels := rfl
@[simp] theorem demandOnly_channels (p : Proj) (s : State) : (demandOnly p s).channels = s.channels := rfl
@[simp] theorem setSound_channels (n : Screen) (x : Sound) (s : State) : (setSound n x s).channels = s.channels := rfl
@[simp] theorem notifyScreen_channels (n : Screen) (b : NoticeBody) (s : State) :
    (notifyScreen n b s).channels = s.channels := rfl
@[simp] theorem programTakes_channels (n : Screen) (k : Nat) (s : State) : (programTakes n k s).channels = s.channels := rfl

@[simp] theorem commit_channels (p : Proj) (s : State) : (commit p s).channels = s.channels := by
  unfold commit
  split <;> rfl

@[simp] theorem strikeAction_channels (n : Screen) (s : State) : (strikeAction n s).channels = s.channels := by
  unfold strikeAction
  split
  · rfl
  · dsimp only
    split <;> try split_ifs
    all_goals simp

@[simp] theorem strikeIfReached_channels (n : Screen) (s : State) : (strikeIfReached n s).channels = s.channels := by
  unfold strikeIfReached
  split
  · split_ifs <;> simp
  · rfl

@[simp] theorem takeChangeCue_channels (n : Screen) (c : CueTake) (s : State) :
    (takeChangeCue n c s).channels = s.channels := by
  unfold takeChangeCue switchOver
  dsimp only
  split
  · rfl
  · split <;> try split
    all_goals simp

@[simp] theorem changeCueByCount_channels (n : Screen) (p : Proj) (s : State) :
    (changeCueByCount n p s).channels = s.channels := by
  unfold changeCueByCount
  split
  · split_ifs <;> simp
  · rfl

@[simp] theorem motorCheck_channels (n : Screen) (p : Proj) (s : State) : (motorCheck n p s).channels = s.channels := by
  unfold motorCheck
  split
  · dsimp only
    split_ifs <;> rfl
  · rfl

@[simp] theorem changeCheck_channels (n : Screen) (p : Proj) (s : State) : (changeCheck n p s).channels = s.channels := by
  unfold changeCheck
  split
  · dsimp only
    split_ifs <;> rfl
  · rfl

@[simp] theorem pulseChecked_channels (n : Screen) (r : Changeover) (w k : Nat) (s : State) :
    (pulseChecked n r w k s).channels = s.channels := by
  unfold pulseChecked
  dsimp only
  split_ifs <;> rfl

@[simp] theorem haltScreen_channels (n : Screen) (r : HaltReason) (p : Option Proj) (s : State) :
    (haltScreen n r p s).channels = s.channels := by
  have told (b : NoticeBody) (t : State) : (notifyScreenAndHouse n b t).channels = t.channels := rfl
  have lit (t : State) : (faultTakes n t).channels = t.channels := rfl
  unfold haltScreen
  split_ifs
  · rfl
  · rw [told, lit, modSeq_channels]

@[simp] theorem closing_channels (p : Proj) (s : State) : (closing p s).channels = s.channels := by
  simp [closing]

@[simp] theorem haltMissed_channels (p : Proj) (s : State) : (haltMissed p s).channels = s.channels := by
  simp [haltMissed]

@[simp] theorem endIfReached_channels (p : Proj) (s : State) : (endIfReached p s).channels = s.channels := by
  unfold endIfReached reelEnds
  split
  · split_ifs
    · dsimp only
      split <;> simp
    · rfl
  · rfl

@[simp] theorem lightMarks_channels (p : Proj) (s : State) : (lightMarks p s).channels = s.channels := by
  unfold lightMarks
  split
  · exact forEach_frame _ _ State.channels (fun m t => by unfold actOnMark; split <;> rfl) s
  · rfl

@[simp] theorem examinePair_channels (p : Proj) (s : State) : (examinePair p s).channels = s.channels := by
  unfold examinePair
  split
  · split_ifs <;> rfl
  · rfl

/-! ## The outgoing projector's channel, as its record takes cues -/

/-- The strike action changes the record, but not which projector is incoming. -/
theorem strikeAction_incoming (n : Screen) (s : State) :
    ((strikeAction n s).seq n).changeover.map Changeover.incoming = (s.seq n).changeover.map Changeover.incoming := by
  have asked (p : Proj) (x : Target) (d : BoothTime) (t : State) : (strikeRequest p x d t).seq n = t.seq n :=
    seq_of_seqs (strikeRequest_seqs p x d t) n
  have sent (b : NoticeBody) (t : State) : (notifyScreen n b t).seq n = t.seq n := rfl
  have changed (f : Changeover → Changeover) (t : State) :
      ((modRecord n f t).seq n).changeover = ((t.seq n).changeover).map f := by
    simp [modRecord]
  unfold strikeAction
  split
  · rfl
  · rename_i r hr
    dsimp only
    split <;> try split_ifs
    all_goals simp [asked, sent, changed, hr]

theorem strikeIfReached_incoming (n : Screen) (s : State) :
    ((strikeIfReached n s).seq n).changeover.map Changeover.incoming = (s.seq n).changeover.map Changeover.incoming := by
  unfold strikeIfReached
  split
  · split_ifs
    · exact strikeAction_incoming n s
    · rfl
  · rfl

theorem incoming_ne {p : Proj} {x : Side} (h : x = p.side.other) : p ≠ ⟨p.screen, x⟩ := by
  obtain ⟨n, y⟩ := p
  subst h
  cases y <;> simp [Side.other]

/-- The motor cue turns on the incoming motor, and writes no channel but its own (R58). -/
theorem takeMotorCue_chan {p : Proj} {s : State} (take : CueTake)
    (h : ∀ r, (s.seq p.screen).changeover = some r → r.incoming = p.side.other) :
    (takeMotorCue p.screen take s).chan p = s.chan p := by
  have started (x : Side) (hx : x = p.side.other) (f : Changeover → Changeover) {t : State} (ht : t.channels = s.channels) :
      (modRecord p.screen f (motorOn ⟨p.screen, x⟩ (commit ⟨p.screen, x⟩ t))).chan p = s.chan p := by
    rw [chan_of_channels (modRecord_channels _ _ _), motorOn_chan_of_ne (incoming_ne hx)]
    exact chan_of_channels ((commit_channels _ _).trans ht) p
  unfold takeMotorCue
  dsimp only
  split
  · rfl
  · rename_i r hr
    have hx : r.incoming = p.side.other := by
      have recorded : ((modRecord p.screen (fun r => { r with motorCue := some take }) s).seq p.screen).changeover =
          ((s.seq p.screen).changeover).map (fun r => { r with motorCue := some take }) := by
        simp [modRecord]
      rw [recorded] at hr
      obtain ⟨r₀, hr₀, rfl⟩ := Option.map_eq_some_iff.1 hr
      exact h r₀ hr₀
    split_ifs
    · rfl
    · exact started _ hx _ (by simp)
    · exact started _ hx _ rfl

/-- A frame event of the outgoing projector leaves its own channel to the Film Motion Unit (R57). -/
theorem recordFrame_chan (p : Proj) (s : State) : (recordFrame p.screen p s).chan p = s.chan p := by
  unfold recordFrame
  split
  · rename_i r hr
    split_ifs with hx
    · exact chan_of_channels (by simp) p
    · have incoming : ∀ r', ((strikeIfReached p.screen s).seq p.screen).changeover = some r' →
          r'.incoming = p.side.other := by
        intro r' hr'
        have same := strikeIfReached_incoming p.screen s
        rw [hr, hr'] at same
        simpa [hx] using same
      have cued : (motorCueByCount p.screen p (strikeIfReached p.screen s)).chan p =
          (strikeIfReached p.screen s).chan p := by
        unfold motorCueByCount
        split
        · split_ifs
          · exact takeMotorCue_chan _ incoming
          · rfl
        · rfl
      rw [chan_of_channels (changeCheck_channels _ _ _), chan_of_channels (changeCueByCount_channels _ _ _),
        chan_of_channels (motorCheck_channels _ _ _), cued, chan_of_channels (strikeIfReached_channels _ _)]
    · rfl
  · rfl

/-- A cue pulse of the outgoing projector leaves its own channel to the Film Motion Unit (R56). -/
theorem recordPulse_chan (p : Proj) (k : Nat) (s : State) : (recordPulse p k s).chan p = s.chan p := by
  unfold recordPulse
  split
  · rename_i r hr
    split_ifs with hx
    · have incoming : ∀ r', (s.seq p.screen).changeover = some r' → r'.incoming = p.side.other := by
        intro r' hr'
        rw [hr] at hr'
        cases hr'
        exact hx
      have sense (w : Nat) : (pulseSense p.screen r w k s).chan p = s.chan p := by
        unfold pulseSense
        split_ifs
        · exact takeMotorCue_chan _ incoming
        · exact chan_of_channels (takeChangeCue_channels _ _ _) p
        · rfl
        · rfl
      dsimp only
      split
      · rfl
      · rfl
      · split_ifs <;> rfl
      · exact sense _
      · exact chan_of_channels (pulseChecked_channels _ _ _ _ _) p
    · rfl
  · rfl

/-- What the Sequencer does at a frame event leaves the projector's own channel alone (R41). -/
theorem sequencerFrame_chan (p : Proj) (s : State) : (sequencerFrame p s).chan p = s.chan p := by
  unfold sequencerFrame
  dsimp only
  split
  · exact chan_of_channels (by split_ifs <;> simp) p
  · split_ifs
    · rw [chan_of_channels (endIfReached_channels _ _), recordFrame_chan, chan_of_channels (lightMarks_channels _ _)]
    · rfl
  · exact recordFrame_chan p s
  · rfl
  · rfl

end Sys2Proof.Machine

end

/-! # Proofs: perforations, speed and cue pulses (O18, O19, O20) -/

section

namespace Sys2Proof.Machine

/-! ## Speed -/

theorem speedOf_of_four {ring : List Nat} (h : ring.length = 4) :
    speedOf ring = some (min 9999 ((800000 + ring.sum) / (2 * ring.sum))) := by
  simp [speedOf, h]

theorem speedOf_of_ne_four {ring : List Nat} (h : ring.length ≠ 4) : speedOf ring = none := by
  unfold speedOf
  split
  · exact absurd ‹_› h
  · rfl

/-- Settles O19: the quotient of R26 is pinned by the two bounds of a floor. -/
theorem speedIsFourPeriods : Obligations.SpeedIsFourPeriods := by
  refine ⟨fun ring h => speedOf_of_ne_four (by omega), fun ring h hsum => ?_, fun fps => by simp [inBand]⟩
  refine ⟨(800000 + ring.sum) / (2 * ring.sum), ?_, ?_, speedOf_of_four h⟩
  · calc 2 * ((800000 + ring.sum) / (2 * ring.sum)) * ring.sum
        = 2 * ring.sum * ((800000 + ring.sum) / (2 * ring.sum)) := by ring
      _ ≤ 800000 + ring.sum := Nat.mul_div_le _ _
  · calc 800000 + ring.sum < 2 * ring.sum * ((800000 + ring.sum) / (2 * ring.sum) + 1) :=
          Nat.lt_mul_div_succ _ (by omega)
      _ = 2 * ((800000 + ring.sum) / (2 * ring.sum) + 1) * ring.sum := by ring

/-! ## The channel's part of a frame event -/

theorem examineMotion_motion (p : Proj) (s : State) : ((examineMotion p s).chan p).motion =
    (speedOf (s.chan p).ring).elim (s.chan p).motion (fun v => (s.chan p).motion.atRecompute (motorIsOn s p) v) := by
  unfold examineMotion
  split
  · rename_i h
    rw [h]
    rfl
  · rename_i v h
    rw [h]
    dsimp only
    split_ifs
    · simp
    · simp

@[simp] theorem examineMotion_still (p : Proj) (s : State) : (examineMotion p s).still = s.still := by
  unfold examineMotion
  split
  · rfl
  · dsimp only
    split_ifs <;> simp

theorem frame_counts (c : Channel) : c.frame.phase = c.phase ∧ c.frame.frames = min 65535 (c.frames + 1) ∧ c.frame.age = 0 ∧
    c.frame.reference = true ∧ c.frame.lastCue = c.lastCue ∧ c.frame.bounce = c.bounce ∧ c.frame.motion = c.motion := by
  unfold Channel.frame
  split_ifs with h <;> simp [h]

theorem frame_ring_of_reference {c : Channel} (h : c.reference = true) :
    c.frame.ring = enterPeriod c.ring (max 1 c.age) := by
  simp [Channel.frame, h]

theorem frame_ring_of_no_reference {c : Channel} (h : c.reference = false) : c.frame.ring = c.ring := by
  simp [Channel.frame, h]

theorem channelFrame_measured (p : Proj) (s : State) :
    ((channelFrame p s).chan p).measured = (s.chan p).frame.measured := by
  have framed : (s.modChan p Channel.frame).chan p = (s.chan p).frame := by simp
  unfold channelFrame
  dsimp only
  split_ifs
  · rw [film_chan (examineMotion_film _ _), framed]
  · rw [framed]

/-- Without a reference no period is entered, and the motion state is not examined (R25). -/
theorem channelFrame_motion_of_no_reference {p : Proj} {s : State} (h : (s.chan p).reference = false) :
    ((channelFrame p s).chan p).motion = (s.chan p).motion := by
  simp [channelFrame, h, Channel.frame]

theorem channelFrame_motion {p : Proj} {s : State} (h : (s.chan p).reference = true) :
    ((channelFrame p s).chan p).motion = (speedOf (s.chan p).frame.ring).elim (s.chan p).motion
      (fun v => (s.chan p).motion.atRecompute (motorIsOn s p) v) := by
  have framed : (s.modChan p Channel.frame).chan p = (s.chan p).frame := by simp
  obtain ⟨-, -, -, -, -, -, motion⟩ := frame_counts (s.chan p)
  unfold channelFrame
  rw [if_pos h, examineMotion_motion, framed, motion]
  rfl

theorem channelFrame_still_of_ne {p q : Proj} (h : q ≠ p) (s : State) :
    ((channelFrame p s).chan q).still = (s.chan q).still := by
  unfold channelFrame
  dsimp only
  split_ifs
  · rw [still_chan (examineMotion_still _ _), chan_modChan, if_neg h]
  · rw [chan_modChan, if_neg h]

theorem channelFrame_ctx (p q : Proj) (s : State) :
    ((channelFrame p s).ctx q).map Context.still = (s.ctx q).map Context.still := by
  unfold channelFrame
  dsimp only
  split_ifs
  · exact still_ctx (examineMotion_still _ _) q
  · rfl

/-! ## What a frame event does at the Sequencer -/

@[simp] theorem programTakesFilm_loaded (n : Screen) (k f : Nat) (p : Proj) (s : State) :
    (programTakesFilm n k f p s).still.loaded = s.still.loaded := rfl

@[simp] theorem everyCircuit_loaded (f : Circuit → Circuit) (s : State) :
    (everyCircuit f s).still.loaded = s.still.loaded := rfl

@[simp] theorem lightMarks_loaded (p : Proj) (s : State) : (lightMarks p s).still.loaded = s.still.loaded := by
  unfold lightMarks
  split
  · exact forEach_frame _ _ (fun t => t.still.loaded) (fun m t => by unfold actOnMark; split <;> rfl) s
  · rfl

@[simp] theorem endIfReached_loaded (p : Proj) (s : State) : (endIfReached p s).still.loaded = s.still.loaded := by
  unfold endIfReached reelEnds
  split
  · split_ifs
    · dsimp only
      split <;> simp
    · rfl
  · rfl

theorem sequencerFrame_loaded (p : Proj) (s : State) : (sequencerFrame p s).still.loaded = s.still.loaded := by
  unfold sequencerFrame
  dsimp only
  split <;> try split_ifs
  all_goals simp

theorem frameEvent_chan (p : Proj) (s : State) : (frameEvent p s).chan p = (channelFrame p s).chan p := by
  unfold frameEvent
  dsimp only
  rw [sequencerFrame_chan]
  rfl

theorem frameEvent_loaded (p : Proj) (s : State) : (frameEvent p s).still.loaded = (channelFrame p s).still.loaded := by
  unfold frameEvent
  dsimp only
  rw [sequencerFrame_loaded, everyCircuit_loaded]

/-! ## Perforations -/

theorem ends_perforationPulse_empty {p : Proj} {s : State} (hr : s.running = true) (h : s.ctx p = none) :
    ends (.perforationPulse p) s s := by
  have e := ends_of_event (c := .perforationPulse p) (s := s) rfl hr
  simpa only [h] using e

theorem ends_perforationPulse {p : Proj} {s : State} {c : Context} (hr : s.running = true) (h : s.ctx p = some c) :
    ends (.perforationPulse p) s (perforation p c.reel.format.divisor s) := by
  have e := ends_of_event (c := .perforationPulse p) (s := s) rfl hr
  simpa only [h] using e

theorem perforation_below {p : Proj} {d : Nat} {s : State} (h : (s.chan p).phase + 1 < d) :
    perforation p d s = s.setChan p { s.chan p with phase := (s.chan p).phase + 1 } := by
  simp [perforation, h, modChan_eq]

theorem perforation_last {p : Proj} {d : Nat} {s : State} (h : d ≤ (s.chan p).phase + 1) :
    perforation p d s = frameEvent p (s.modChan p (fun c => { c with phase := 0 })) := by
  simp [perforation, Nat.not_lt.2 h]

/-- Settles O18: below the divisor only the phase moves; at it the channel is as its own four steps leave it, since the
Sequencer writes no channel but the incoming one's. -/
theorem perforationsCountFrames : Obligations.PerforationsCountFrames := by
  intro p s hr
  refine ⟨ends_perforationPulse_empty hr, fun c hc => ?_⟩
  intro d
  have divisor : d = c.reel.format.divisor := by
    simp only [d]
    cases c.reel.format <;> rfl
  rw [divisor]
  have ended := ends_perforationPulse hr hc
  refine ⟨fun below => perforation_below below ▸ ended, fun last => ⟨_, ended, ?_⟩⟩
  rw [perforation_last last]
  have phased : (s.modChan p (fun c => { c with phase := 0 })).chan p = { s.chan p with phase := 0 } := by simp
  have others {q : Proj} (hq : q ≠ p) : (s.modChan p (fun c => { c with phase := 0 })).chan q = s.chan q := by simp [hq]
  have context (q : Proj) : (s.modChan p (fun c => { c with phase := 0 })).ctx q = s.ctx q := rfl
  have motor : motorIsOn (s.modChan p (fun c => { c with phase := 0 })) p = motorIsOn s p := rfl
  generalize s.modChan p (fun c => { c with phase := 0 }) = t at phased others context motor
  have measured : ((frameEvent p t).chan p).measured = (t.chan p).frame.measured := by
    rw [frameEvent_chan, channelFrame_measured]
  have ring : ((frameEvent p t).chan p).ring = (t.chan p).frame.ring := (congrArg Channel.ring measured :)
  obtain ⟨phase, frames, age, reference, lastCue, bounce, -⟩ := frame_counts (t.chan p)
  refine ⟨(congrArg Channel.phase measured).trans ?_, (congrArg Channel.frames measured).trans ?_,
    (congrArg Channel.age measured).trans age, (congrArg Channel.reference measured).trans reference,
    (congrArg Channel.lastCue measured).trans ?_, (congrArg Channel.bounce measured).trans ?_, fun without => ?_,
    fun withRef => ?_, fun q hq => ?_, fun q => ?_⟩
  · rw [phase, phased]
  · rw [frames, phased]
  · rw [lastCue, phased]
  · rw [bounce, phased]
  · have absent : (t.chan p).reference = false := by rw [phased]; exact without
    refine ⟨?_, ?_⟩
    · rw [ring, frame_ring_of_no_reference absent, phased]
    · rw [frameEvent_chan, channelFrame_motion_of_no_reference absent, phased]
  · have held : (t.chan p).reference = true := by rw [phased]; exact withRef
    refine ⟨?_, ?_⟩
    · rw [ring, frame_ring_of_reference held, phased]
    · rw [ring, frameEvent_chan, channelFrame_motion held, motor, phased]
      cases speedOf ({ s.chan p with phase := 0 } : Channel).frame.ring <;> rfl
  · rw [loaded_chan (frameEvent_loaded p t), channelFrame_still_of_ne hq, others hq]
  · rw [loaded_ctx (frameEvent_loaded p t), channelFrame_ctx, context]

/-! ## Cue pulses -/

theorem ends_cuePulse_empty {p : Proj} {s : State} (hr : s.running = true) (h : s.ctx p = none) :
    ends (.cuePulse p) s s := by
  have e := ends_of_event (c := .cuePulse p) (s := s) rfl hr
  simpa only [h, Option.isSome_none, Bool.false_eq_true, if_false] using e

theorem ends_cuePulse {p : Proj} {s : State} {c : Context} (hr : s.running = true) (h : s.ctx p = some c) :
    ends (.cuePulse p) s (cuePulse p s) := by
  have e := ends_of_event (c := .cuePulse p) (s := s) rfl hr
  simpa only [h, Option.isSome_some, if_true] using e

theorem isBounce_eq_false {last : Option Nat} {k : Nat} (h : ∀ f, last = some f → f + 12 < k) : isBounce last k = false := by
  cases last with
  | none => rfl
  | some f =>
    have late := h f rfl
    simp only [isBounce, decide_eq_false_iff_not]
    omega

theorem cuePulse_bounce {p : Proj} {s : State} (h : isBounce (s.chan p).lastCue (s.chan p).frames = true) :
    cuePulse p s = s.setChan p { s.chan p with bounce := min 255 ((s.chan p).bounce + 1) } := by
  simp [cuePulse, h, modChan_eq]

theorem cuePulse_accepted {p : Proj} {s : State} (h : isBounce (s.chan p).lastCue (s.chan p).frames = false) :
    cuePulse p s =
      recordPulse p (s.chan p).frames (s.setChan p { s.chan p with lastCue := some (s.chan p).frames }) := by
  simp [cuePulse, h, modChan_eq]

theorem recordPulse_of_no_record {p : Proj} {k : Nat} {s : State} (h : (s.seq p.screen).changeover = none) :
    recordPulse p k s = s := by
  simp [recordPulse, h]

/-- Settles O20: the branches are those of the bounce test; an accepted pulse is offered to the record, which leaves the
projector's own channel alone. -/
theorem cuePulsesAreStamped : Obligations.CuePulsesAreStamped := by
  intro p s hr
  refine ⟨ends_cuePulse_empty hr, fun c hc => ⟨fun f hf near => ?_, fun far => ?_⟩⟩
  · have bounce : isBounce (s.chan p).lastCue (s.chan p).frames = true := by simpa [hf, isBounce] using near
    exact cuePulse_bounce bounce ▸ ends_cuePulse hr hc
  · have accepted := cuePulse_accepted (isBounce_eq_false far)
    have ended := accepted ▸ ends_cuePulse hr hc
    refine ⟨⟨_, ended, ?_⟩, fun none => ?_⟩
    · rw [recordPulse_chan, chan_setChan, if_pos rfl]
    · rwa [recordPulse_of_no_record (by exact none)] at ended

end Sys2Proof.Machine

end

/-! # Proofs: the runup limit, SET MOTION (O22, O24) -/

section

namespace Sys2Proof.Machine

/-- What a record's return to NONE can do: undo the incoming projector, then drop the record (R65). -/
theorem recordToNone_keeps {P : State → Prop} {s : State} (n : Screen) (same : P s) (undone : ∀ x, P (undoIncoming ⟨n, x⟩ s))
    (dropped : ∀ t, P t → P (t.modSeq n (fun q => { q with changeover := none }))) : P (recordToNone n s) := by
  unfold recordToNone recordToNoneSparing
  split
  · exact same
  · refine dropped _ ?_
    split
    · exact same
    · exact undone _

/-! ## A film that does not coast keeps its channel through a halt -/

section

variable {p : Proj} {s : State} (h : (s.chan p).motion.coasts = false)

include h

theorem recordToNone_chan_of_stopped (n : Screen) : (recordToNone n s).chan p = s.chan p := by
  have undone (q : Proj) : (undoIncoming q s).chan p = s.chan p := by
    have quenched : (quenchLamp q (withdrawRequest q s)).chan p = s.chan p := chan_of_channels (by simp) p
    unfold undoIncoming
    rw [chan_of_channels (setRole_channels _ _ _), motorOff_chan_of_stopped q (by rw [quenched]; exact h), quenched]
  exact recordToNone_keeps (P := fun t => t.chan p = s.chan p) n rfl (fun x => undone _) (fun _ ht => ht)

theorem stopFilm_chan_of_stopped (q : Proj) : (stopFilm q s).chan p = s.chan p := by
  have off : (motorOff q (setDemand q .clear s)).chan p = s.chan p :=
    motorOff_chan_of_stopped (s := setDemand q .clear s) q h
  unfold stopFilm
  dsimp only
  split_ifs
  · split
    · exact off
    · exact off
  · rfl

theorem haltFilm_chan_of_stopped (r : HaltReason) (q : Proj) : (haltFilm r q s).chan p = s.chan p := by
  have halted : (haltScreen q.screen r (some q) s).chan p = s.chan p := chan_of_channels (haltScreen_channels _ _ _ _) p
  have stopped : (quenchLamp q (stopFilm q (haltScreen q.screen r (some q) s))).chan p = s.chan p := by
    rw [chan_of_channels (quenchLamp_channels _ _), stopFilm_chan_of_stopped (by rw [halted]; exact h), halted]
  unfold haltFilm
  split_ifs
  · rfl
  · rw [recordToNone_chan_of_stopped (by rw [stopped]; exact h), stopped]

theorem incomingFault_chan_of_stopped (q : Proj) (f : IncomingFault) : (incomingFault q f s).chan p = s.chan p := by
  have off : (motorOff q s).chan p = s.chan p := motorOff_chan_of_stopped q h
  unfold incomingFault
  split
  · split_ifs
    · rfl
    · split
      · exact (chan_of_channels (by simp) p).trans off
      · exact (chan_of_channels (by simp) p).trans off
      · exact off
      · rfl
  · rfl

theorem onStall_chan_of_stopped (q : Proj) : (onStall q s).chan p = s.chan p := by
  unfold onStall
  split
  · exact haltFilm_chan_of_stopped h _ q
  · exact incomingFault_chan_of_stopped h q _
  · rfl

end

/-! ## What a halt on a film leaves of its projector -/

/-- What of a Sequencer the return of the record to NONE leaves alone. -/
abbrev Sequencer.shown (q : Sequencer) : Show × Option HaltReason × Pair Demand := (q.showState, q.haltReason, q.demand)

theorem undoIncoming_seq (p : Proj) (s : State) (n : Screen) : (undoIncoming p s).seq n =
    if n = p.screen then { s.seq n with motor := (s.seq n).motor.set p.side false, roles := (s.seq n).roles.set p.side .idle }
    else s.seq n := by
  have quenched (m : Screen) : (quenchLamp p (withdrawRequest p s)).seq m = s.seq m := seq_of_seqs (by simp) m
  unfold undoIncoming setRole
  by_cases hn : n = p.screen
  · simp [hn, motorOff_seq, quenched, Sequencer.setRole]
  · simp [hn, motorOff_seq, quenched]

theorem recordToNone_shown (n : Screen) (s : State) : ((recordToNone n s).seq n).shown = (s.seq n).shown := by
  refine recordToNone_keeps (P := fun t => (t.seq n).shown = (s.seq n).shown) n rfl (fun x => ?_) (fun t ht => ?_)
  · simp [undoIncoming_seq]
  · simpa using ht

theorem recordToNone_motor_off {p : Proj} {s : State} (h : motorIsOn s p = false) (n : Screen) :
    motorIsOn (recordToNone n s) p = false := by
  refine recordToNone_keeps (P := fun t => motorIsOn t p = false) n h (fun x => ?_) (fun t ht => ?_)
  · unfold motorIsOn at h ⊢
    rw [undoIncoming_seq]
    split_ifs
    · rw [Pair.get_set]
      split_ifs
      · rfl
      · exact h
    · exact h
  · unfold motorIsOn at ht ⊢
    rw [seq_modSeq]
    split_ifs with hn
    · rw [← hn]
      exact ht
    · exact ht

theorem withdrawRequest_inUse (p q : Proj) (s : State) : ((withdrawRequest q s).lamp p).inUse = (s.lamp p).inUse := by
  have withdrawn : (withdrawEntry q s).lamps = s.lamps := by
    unfold withdrawEntry askExamine
    dsimp only
    split_ifs <;> rfl
  unfold withdrawRequest
  split
  · rfl
  · rw [modLamp_eq, lamp_setLamp, lamp_of_lamps withdrawn, lamp_of_lamps withdrawn]
    split_ifs with hp
    · subst hp
      split
      · rename_i e
        simp [Lamp.inUse, e]
      · rfl
    · rfl

/-- A quenched lamp is in use no more, and no quench brings another lamp into use (R88). -/
theorem quenchLamp_inUse (p q : Proj) (s : State) (h : p = q ∨ (s.lamp p).inUse = false) :
    ((quenchLamp q s).lamp p).inUse = false := by
  by_cases hp : p = q
  · subst hp
    unfold quenchLamp askExamine
    cases e : (s.lamp p).st <;> simp [Lamp.inUse, Lamp.quenched, e]
  · have unused := h.resolve_left hp
    unfold quenchLamp askExamine
    cases e : (s.lamp q).st <;> simp [hp, unused, withdrawRequest_inUse]

theorem recordToNone_inUse {p : Proj} {s : State} (h : (s.lamp p).inUse = false) (n : Screen) :
    ((recordToNone n s).lamp p).inUse = false := by
  have undone (q : Proj) : ((undoIncoming q s).lamp p).inUse = false := by
    unfold undoIncoming setRole
    rw [modSeq_lamp, lamp_of_lamps (motorOff_lamps _ _)]
    exact quenchLamp_inUse p q _ (Or.inr (by rw [withdrawRequest_inUse]; exact h))
  exact recordToNone_keeps (P := fun t => (t.lamp p).inUse = false) n h (fun x => undone _) (fun _ ht => ht)

theorem haltScreen_shown {n : Screen} {r : HaltReason} {p : Option Proj} {s : State} (h : (s.seq n).showState ≠ .closed) :
    ((haltScreen n r p s).seq n).shown = (.halted, some r, (s.seq n).demand) := by
  have told (b : NoticeBody) (t : State) : (notifyScreenAndHouse n b t).seq n = t.seq n := rfl
  have lit (t : State) : (faultTakes n t).seq n = t.seq n := rfl
  unfold haltScreen
  rw [if_neg h, told, lit, seq_modSeq, if_pos rfl]
  unfold Sequencer.halted
  dsimp only
  split_ifs with hh
  · rw [← hh]
  · rfl

/-- The film's projector after a stop: demand clear and motor off (R67). -/
theorem stopFilm_stopped (p : Proj) (s : State) : motorIsOn (stopFilm p s) p = false ∧
    ((stopFilm p s).seq p.screen).shown =
      ((s.seq p.screen).showState, (s.seq p.screen).haltReason, (s.seq p.screen).demand.set p.side .clear) := by
  have cleared : (setDemand p .clear s).seq p.screen =
      { s.seq p.screen with demand := (s.seq p.screen).demand.set p.side .clear } := by
    simp [setDemand]
  unfold stopFilm motorIsOn
  dsimp only
  split_ifs with on
  · split
    · simp [setRole, Sequencer.setRole, motorOff_seq, cleared, Pair.get_set]
    · simp [motorOff_seq, cleared, Pair.get_set]
  · exact ⟨by simpa using on, by rw [cleared]⟩

/-- A halt on a film of an open screen (R67). -/
theorem haltFilm_halted {r : HaltReason} {p : Proj} {s : State} (h : (s.seq p.screen).showState ≠ .closed) :
    motorIsOn (haltFilm r p s) p = false ∧
      ((haltFilm r p s).seq p.screen).shown = (.halted, some r, (s.seq p.screen).demand.set p.side .clear) ∧
      ((haltFilm r p s).lamp p).inUse = false := by
  have shown : ((haltScreen p.screen r (some p) s).seq p.screen).shown = (.halted, some r, (s.seq p.screen).demand) :=
    haltScreen_shown h
  obtain ⟨showState, reason, demand⟩ : _ ∧ _ ∧ _ := by simpa using shown
  obtain ⟨off, stopped⟩ := stopFilm_stopped p (haltScreen p.screen r (some p) s)
  have quenched (t : State) : (quenchLamp p t).seq p.screen = t.seq p.screen := seq_of_seqs (quenchLamp_seqs _ _) _
  unfold haltFilm
  rw [if_neg h]
  refine ⟨recordToNone_motor_off ?_ _, ?_, recordToNone_inUse (quenchLamp_inUse p p _ (Or.inl rfl)) _⟩
  · unfold motorIsOn
    rw [quenched]
    exact off
  · rw [recordToNone_shown, quenched, stopped, showState, reason, demand]

/-! ## The runup limit -/

theorem ends_runupLimit {p : Proj} {s : State} {k : Nat} (hr : s.running = true) (h : (s.chan p).runup = some k) :
    ends (.runupLimit p) s (runupReached p s) := by
  have e := ends_of_event (c := .runupLimit p) (s := s) rfl hr
  simpa only [h, Option.isSome_some, if_true] using e

/-- The channel of a stalled film: STOPPED-STALL, its timer stopped (R29). -/
def stalled (p : Proj) (s : State) : State := setMotion p .stoppedStall (s.modChan p (fun c => { c with runup := none }))

theorem runupReached_stall {p : Proj} {s : State} (h : (s.chan p).motion = .runup) (on : motorIsOn s p = true) :
    runupReached p s = onStall p (stalled p s) := by
  simp [runupReached, h, on, stalled]

theorem stalled_chan (p : Proj) (s : State) :
    (stalled p s).chan p = { s.chan p with motion := .stoppedStall, runup := none } := by
  simp [stalled]

theorem stalled_seqs (p : Proj) (s : State) : (stalled p s).seqs = s.seqs := setMotion_seqs _ _ _

theorem stalled_lamps (p : Proj) (s : State) : (stalled p s).lamps = s.lamps := setMotion_lamps _ _ _

/-- Settles O22: the stall's halt turns off a motor that no longer runs a film, so the channel stays as the stall left it. -/
theorem runupLimitIsAStall : Obligations.RunupLimitIsAStall := by
  intro p s k hr hk up on
  have seqs : (stalled p s).seq p.screen = s.seq p.screen := seq_of_seqs (stalled_seqs p s) _
  have coasts : ((stalled p s).chan p).motion.coasts = false := by
    rw [stalled_chan]
    rfl
  refine ⟨_, ends_runupLimit hr hk, ?_⟩
  rw [runupReached_stall up on, onStall_chan_of_stopped coasts, stalled_chan]
  refine ⟨rfl, rfl, fun starting opened => ?_, fun idle => ?_⟩
  · have halts : onStall p (stalled p s) = haltFilm .stall p (stalled p s) := by
      simp [onStall, seqs, starting]
    obtain ⟨off, shown, unused⟩ := haltFilm_halted (r := .stall) (p := p) (s := stalled p s) (by rwa [seqs])
    obtain ⟨halted, reason, demand⟩ : _ ∧ _ ∧ _ := by simpa using shown
    rw [halts]
    refine ⟨off, ?_, halted, reason, unused⟩
    rw [demand, Pair.get_set, if_pos rfl]
  · have ignored : onStall p (stalled p s) = stalled p s := by
      simp [onStall, seqs, idle]
    rw [ignored]
    exact ⟨stalled_seqs p s, stalled_lamps p s⟩

/-! ## SET MOTION -/

theorem setChan_self (s : State) (p : Proj) : s.setChan p (s.chan p) = s := by
  obtain ⟨n, x⟩ := p
  cases n <;> cases x <;> rfl

theorem runupMeets_of_below {p : Proj} {s : State}
    (h : ∀ k, (s.chan p).runup = some k → k < runupTicks s.motionSettings) : runupMeets p s = s := by
  unfold runupMeets
  split
  · rename_i k hk
    rw [if_neg (by have := h k hk; omega)]
  · rfl

/-- A gap that is short of the window, or of a film already noticed, meets the window with no effect (log 17). -/
theorem gapMeets_of_clear {p : Proj} {s : State} (h : (s.chan p).age < breakUnits s.motionSettings ∨
    ((s.chan p).ring = [] ∧ (s.chan p).reference = false ∧ (s.chan p).motion ≠ .atSpeed ∧ (s.chan p).motion ≠ .offSpeed)) :
    gapMeets p s = s := by
  unfold gapMeets
  rcases h with short | ⟨ring, reference, notAt, notOff⟩
  · rw [if_neg (by omega)]
  · have noBreak : (s.chan p).motion.atBreak = false := by
      unfold Motion.atBreak
      split <;> simp_all
    have cleared : (s.chan p).clearRing = s.chan p := by
      unfold Channel.clearRing
      rw [← ring, ← reference]
    have same : breakReached p s = s := by
      simp [breakReached, noBreak, clearRing, modChan_eq, cleared, setChan_self]
    rw [same]
    split_ifs <;> rfl

theorem persistenceMeets_of_below {p : Proj} {s : State}
    (h : ∀ k, s.fire.timer p = some k → k < persistTicks s.motionSettings) : persistenceMeets p s = s := by
  unfold persistenceMeets
  split
  · rename_i k hk
    rw [if_neg (by have := h k hk; omega)]
  · rfl

theorem forEach_id {α : Type} (names : List α) (f : α → State → State) (s : State) (h : ∀ x, f x s = s) :
    forEach names f s = s := by
  unfold forEach
  induction names with
  | nil => rfl
  | cons x xs ih => rw [List.foldl_cons, h, ih]

theorem settings_of_base {t u : State} (h : t.still.base = u.still.base) : t.motionSettings = u.motionSettings :=
  (congrArg (fun x : State => x.motionSettings) h :)

theorem applySetMotion_settings (m : MotionSettings) (s : State) : (applySetMotion m s).motionSettings = m := by
  have persisted (p : Proj) (t : State) : (persistenceMeets p t).motionSettings = t.motionSettings := by
    unfold persistenceMeets
    split
    · split_ifs
      · exact film_settings (persistenceReached_film p t)
      · rfl
    · rfl
  unfold applySetMotion
  rw [forEach_frame _ _ State.motionSettings persisted,
    forEach_frame _ _ State.motionSettings (fun p t => settings_of_base (gapMeets_base p t)),
    forEach_frame _ _ State.motionSettings (fun p t => settings_of_base (runupMeets_base p t))]

/-- Where nothing meets a new limit, the settings are replaced and nothing else changes (R38). -/
theorem applySetMotion_of_below {m : MotionSettings} {s : State}
    (h : ∀ p, (∀ k, (s.chan p).runup = some k → k < 10 * m.runupLimit) ∧
      (∀ k, s.fire.timer p = some k → k < 10 * m.persistence) ∧
      ((s.chan p).age < 100 * m.breakWindow ∨
        ((s.chan p).ring = [] ∧ (s.chan p).reference = false ∧ (s.chan p).motion ≠ .atSpeed ∧
          (s.chan p).motion ≠ .offSpeed))) : applySetMotion m s = { s with motionSettings := m } := by
  let t : State := { s with motionSettings := m }
  have runups (p : Proj) : runupMeets p t = t := by
    obtain ⟨below, -, -⟩ := h p
    exact runupMeets_of_below below
  have gaps (p : Proj) : gapMeets p t = t := by
    obtain ⟨-, -, clear⟩ := h p
    exact gapMeets_of_clear clear
  have persistences (p : Proj) : persistenceMeets p t = t := by
    obtain ⟨-, below, -⟩ := h p
    exact persistenceMeets_of_below below
  show forEach Proj.all persistenceMeets (forEach Proj.all gapMeets (forEach Proj.all runupMeets t)) = t
  rw [forEach_id _ _ t runups, forEach_id _ _ t gaps, forEach_id _ _ t persistences]

theorem ends_setMotion {m : MotionSettings} {s : State} (hf : lineFree s .house) (hm : motionOk m = true) :
    ends (.setMotion .house m) s (applySetMotion m (reply .house (.done 0x19) s)) :=
  ends_of_passed (o := .setMotion m) rfl hf (by simp)
    (judgeOrder_done (by simp) (by simp) rfl (by simp [checkOrder, checkSetMotion, hm]) rfl) rfl rfl

/-- Settles O24: valid settings pass the check; what the end of the event leaves alone holds them and the one reply. -/
theorem setMotionTakesTheSettings : Obligations.SetMotionTakesTheSettings := by
  intro m s hf g1 g2 r1 r2 b1 b2 p1 p2
  have valid : motionOk m = true := by simp [motionOk, within, *]
  have ended := ends_setMotion hf valid
  refine ⟨?_, fun below => ?_⟩
  · obtain ⟨t, ht, -, still, -⟩ := ended
    refine ⟨t, ht, ?_, lines_of_replied hf ?_⟩
    · rw [settings_of_base (still_base still), applySetMotion_settings]
    · rw [still, applySetMotion_kept]
  · rwa [applySetMotion_of_below (s := reply .house (.done 0x19) s) below] at ended

end Sys2Proof.Machine

end

/-! # Proofs: a film that stops (O21)

The break of a RUN-OFF projector examines arming (log 33). Where the next program item names the reel it still holds, with the
active film already past the motor cue, the same event arms the projector as incoming again: its motor is turned on and its
context committed, so neither stays as O21 says. -/

section

namespace Sys2Proof.Machine

/-! ## The end of an event with every port shutter down -/

/-- No up switch reports, so no dowser output is open and no start completes (R42, R47). -/
def portsDown (s : State) : Prop := ∀ q, s.fire.up q = false

theorem portsDown_of_base {s t : State} (e : t.still.base = s.still.base) (h : portsDown s) : portsDown t := by
  have fire : t.fire = s.fire := (congrArg (fun x : State => x.fire) e :)
  intro q
  rw [fire]
  exact h q

theorem dowserOpen_of_portsDown {s : State} (h : portsDown s) (p : Proj) : dowserOpen s p = false := by
  simp [dowserOpen, h (portOf p)]

theorem motorOn_contexts (p : Proj) (s : State) : (motorOn p s).contexts = s.contexts := by
  unfold motorOn
  dsimp only
  split_ifs
  · rfl
  · rw [film_contexts (setMotion_film _ _ _)]
    rfl
  · rfl
  · rfl

theorem strikeWait_contexts (p : Proj) (s : State) : (strikeWait p s).contexts = s.contexts := by
  have running : (setRunning p s).contexts = s.contexts := film_contexts (setRunning_film p s)
  unfold strikeWait
  dsimp only
  split_ifs
  · rw [motorOn_contexts, modSeq_contexts, running]
  · exact running
  · rw [motorOn_contexts, modSeq_contexts]
  · rfl

theorem startStep_contexts {s : State} (h : portsDown s) (n : Screen) : (startStep n s).contexts = s.contexts := by
  unfold startStep
  split
  · split_ifs
    · rfl
    · split
      · exact strikeWait_contexts _ s
      · simp [runWait, dowserOpen_of_portsDown h]
  · rfl

theorem screenSteps_contexts {s : State} (h : portsDown s) : (screenSteps s).contexts = s.contexts := by
  have steps : portsDown (screenSteps s) ∧ (screenSteps s).contexts = s.contexts := by
    refine forEach_keeps _ _ (fun t => portsDown t ∧ t.contexts = s.contexts) (fun n t ht => ?_) ⟨h, rfl⟩
    obtain ⟨down, contexts⟩ := ht
    have relit : (relight ⟨n, .b⟩ (relight ⟨n, .a⟩ t)).film = t.film := by simp
    have stillDown : portsDown (relight ⟨n, .b⟩ (relight ⟨n, .a⟩ t)) := portsDown_of_base (by simp) down
    refine ⟨portsDown_of_base (by simp [screenStep]) down, ?_⟩
    unfold screenStep
    rw [film_contexts (recordStep_film _ _), startStep_contexts stillDown, film_contexts relit, contexts]
  exact steps.2

theorem settleBudget_contexts {s : State} (k : Nat) (h : portsDown s) : (settleBudget k s).contexts = s.contexts := by
  induction k generalizing s with
  | zero => rfl
  | succ k ih =>
    have examined : portsDown (examineBudget s) := portsDown_of_base (by simp) h
    have stepped : portsDown (screenSteps (examineBudget s)) := portsDown_of_base (by simp) h
    have round : (screenSteps (examineBudget s)).contexts = s.contexts := by
      rw [screenSteps_contexts examined, film_contexts (examineBudget_film s)]
    unfold settleBudget
    dsimp only
    split_ifs
    · rw [ih stepped, round]
    · exact round

/-- With every port shutter down the end of an event commits no context: only a completed start arms a projector there. -/
theorem settle_contexts {s : State} (h : portsDown s) : (settle s).contexts = s.contexts := by
  have stepped : portsDown (screenSteps s) := portsDown_of_base (by simp) h
  unfold settle
  dsimp only
  split_ifs
  · have ended : (judgeLights ((lateStrikes (settleBudget 8 (screenSteps s))).modBudget
        (fun b => { b with examine := false }))).film = (settleBudget 8 (screenSteps s)).film := by simp
    rw [film_contexts ended, settleBudget_contexts 8 stepped, screenSteps_contexts h]
  · rw [film_contexts (judgeLights_film _), screenSteps_contexts h]

/-! ## The counterexample -/

/-- A reel of 2,000 frames: P 1,900, Xco 1,876, Xmc 1,708. -/
def shortReel : ReelRecord := ⟨[], .n1, .f35, 2000, 100, 100, 24, 168, .count, 12, none, []⟩

/-- 1A holds slot 1, not committed. -/
def heldContext : Context := ⟨1, shortReel, false, false⟩

/-- Screen 1 SHOWING slot 2 on 1B at frame 1,800, with slot 1 to follow; 1A runs off with slot 1, at the end of its break
window. -/
def runOffWithNextReel : State :=
  { State.reset with
    programs := State.reset.programs.set .n1 [.reel 1, .reel 2, .reel 1],
    contexts := State.reset.contexts.set .n1 ⟨some heldContext, some ⟨2, shortReel, true, false⟩⟩,
    channels := State.reset.channels.set .n1
      ⟨{ Channel.reset with age := 2500, motion := .atSpeed }, { Channel.reset with frames := 1800, motion := .atSpeed }⟩,
    seqs := State.reset.seqs.set .n1
      { Sequencer.reset with
        showState := .showing, pointer := 2, roles := ⟨.runOff .switched, .active⟩, motor := ⟨true, true⟩ } }

/-- The break arms 1A again, which turns on its motor and commits its context (R53, R58). -/
theorem breakNow_runOffWithNextReel :
    motorIsOn (breakNow ⟨.n1, .a⟩ runOffWithNextReel) ⟨.n1, .a⟩ = true ∧
      (breakNow ⟨.n1, .a⟩ runOffWithNextReel).ctx ⟨.n1, .a⟩ = some { heldContext with committed := true } := by
  decide +kernel

/-- Refutes O21, in its clause for a RUN-OFF projector below P: the break leaves 1A's motor on and its context COMMITTED. Since
the end of an event commits no context with every port shutter down, no other state that this event could be said to end from has
the context as it was. -/
theorem not_filmThatStopsIsNoticed : ¬ Obligations.FilmThatStopsIsNoticed := by
  intro holds
  obtain ⟨-, -, breaks, -⟩ := holds ⟨.n1, .a⟩ runOffWithNextReel rfl
  obtain ⟨-, below⟩ := breaks (by decide) (Or.inl rfl) rfl heldContext rfl
  obtain ⟨u, ⟨t, answered, ended, still, -⟩, -, -, -, runOff⟩ := below (by decide)
  obtain ⟨-, -, kept, -⟩ := runOff .switched rfl
  have event : t = settle (breakNow ⟨.n1, .a⟩ runOffWithNextReel) := by
    have e : exec (.breakWindow ⟨.n1, .a⟩) runOffWithNextReel =
        .next (settle (breakNow ⟨.n1, .a⟩ runOffWithNextReel)) :=
      congrArg Host.Outcome.next (event_running (breakNow ⟨.n1, .a⟩) runOffWithNextReel rfl)
    cases answered.symm.trans e
    rfl
  have down : portsDown (breakNow ⟨.n1, .a⟩ runOffWithNextReel) :=
    portsDown_of_base (breakNow_base _ _) (fun q => by obtain ⟨n, k⟩ := q; cases n <;> cases k <;> rfl)
  have uDown : portsDown u := portsDown_of_base (by rw [← still, event, settle_still]) down
  have contexts : (breakNow ⟨.n1, .a⟩ runOffWithNextReel).contexts = u.contexts := by
    rw [← settle_contexts down, ← settle_contexts uDown, ← event, ended]
  obtain ⟨-, committed⟩ := breakNow_runOffWithNextReel
  have same : (breakNow ⟨.n1, .a⟩ runOffWithNextReel).ctx ⟨.n1, .a⟩ = some heldContext := by
    have h : (breakNow ⟨.n1, .a⟩ runOffWithNextReel).ctx ⟨.n1, .a⟩ = u.ctx ⟨.n1, .a⟩ := by
      simp only [State.ctx, contexts]
    exact h.trans kept
  rw [committed] at same
  exact absurd same (by decide)

end Sys2Proof.Machine

end

/-! # Proofs: what leaves the Sequencers alone

The lines, the lights, the lamps and the channels' own operations write no Sequencer. -/

section

namespace Sys2Proof.Machine

/-! ## Lines and lights -/

@[simp] theorem notify_seqs (l : Line) (b : NoticeBody) (s : State) : (notify l b s).seqs = s.seqs := rfl
@[simp] theorem notifyScreen_seqs (n : Screen) (b : NoticeBody) (s : State) : (notifyScreen n b s).seqs = s.seqs := rfl
@[simp] theorem notifyScreenAndHouse_seqs (n : Screen) (b : NoticeBody) (s : State) :
    (notifyScreenAndHouse n b s).seqs = s.seqs := rfl
@[simp] theorem notifyAll_seqs (b : NoticeBody) (s : State) : (notifyAll b s).seqs = s.seqs :=
  forEach_frame _ _ State.seqs (fun l t => notify_seqs l b t) s
@[simp] theorem reply_seqs (l : Line) (r : Reply) (s : State) : (reply l r s).seqs = s.seqs := rfl

@[simp] theorem everyCircuit_seqs (f : Circuit → Circuit) (s : State) : (everyCircuit f s).seqs = s.seqs := rfl
@[simp] theorem programTakes_seqs (n : Screen) (k : Nat) (s : State) : (programTakes n k s).seqs = s.seqs := rfl
@[simp] theorem faultTakes_seqs (n : Screen) (s : State) : (faultTakes n s).seqs = s.seqs := rfl
@[simp] theorem removeClaims_seqs (n : Screen) (w : Winner) (s : State) : (removeClaims n w s).seqs = s.seqs := rfl
@[simp] theorem setLocalHolder_seqs (v : Bool) (n : Screen) (s : State) : (setLocalHolder v n s).seqs = s.seqs := rfl
@[simp] theorem setBoothHolder_seqs (v : Bool) (s : State) : (setBoothHolder v s).seqs = s.seqs :=
  forEach_frame _ _ State.seqs (fun _ _ => modCirc_seqs _ _ _) s

@[simp] theorem startFade_seqs (c : Circ) (s : State) : (startFade c s).seqs = s.seqs := by
  unfold startFade
  dsimp only
  split <;> rfl

@[simp] theorem judgeLights_seqs (s : State) : (judgeLights s).seqs = s.seqs :=
  forEach_frame _ _ State.seqs (fun c t => by
    unfold judgeCircuit
    rw [modCirc_seqs]
    split_ifs
    · exact startFade_seqs c t
    · rfl) s

@[simp] theorem lightMarks_seqs (p : Proj) (s : State) : (lightMarks p s).seqs = s.seqs := by
  unfold lightMarks
  split
  · exact forEach_frame _ _ State.seqs (fun m t => by unfold actOnMark; split <;> rfl) s
  · rfl

/-! ## Channels and contexts -/

@[simp] theorem commit_seqs (p : Proj) (s : State) : (commit p s).seqs = s.seqs := by
  unfold commit
  split <;> rfl

@[simp] theorem channelFrame_seqs (p : Proj) (s : State) : (channelFrame p s).seqs = s.seqs := by
  have examined (t : State) : (examineMotion p t).seqs = t.seqs := by
    unfold examineMotion
    split
    · rfl
    · dsimp only
      split_ifs <;> simp [setMotion_seqs]
  unfold channelFrame
  dsimp only
  split_ifs
  · rw [examined]; rfl
  · rfl

@[simp] theorem channelThread_seqs (p : Proj) (s : State) : (channelThread p s).seqs = s.seqs := by
  simp [channelThread, setMotion_seqs]

@[simp] theorem channelUnthread_seqs (p : Proj) (s : State) : (channelUnthread p s).seqs = s.seqs := by
  simp [channelUnthread, setMotion_seqs]

@[simp] theorem channelResume_seqs (p : Proj) (s : State) : (channelResume p s).seqs = s.seqs := by
  unfold channelResume clearRing
  split <;> simp [setMotion_seqs]

/-! ## Lamps and the budget -/

@[simp] theorem askExamine_seqs (s : State) : (askExamine s).seqs = s.seqs := rfl

@[simp] theorem newEntry_seqs (p : Proj) (d : BoothTime) (held : Bool) (s : State) : (newEntry p d held s).seqs = s.seqs := rfl

@[simp] theorem delayedQuench_seqs (p : Proj) (s : State) : (delayedQuench p s).seqs = s.seqs := by
  unfold delayedQuench
  split <;> try split_ifs
  all_goals simp

@[simp] theorem setRunning_seqs (p : Proj) (s : State) : (setRunning p s).seqs = s.seqs := by
  unfold setRunning
  split <;> rfl

@[simp] theorem reviewCurrent_seqs (p : Proj) (s : State) : (reviewCurrent p s).seqs = s.seqs := by
  unfold reviewCurrent
  dsimp only
  split
  · split_ifs <;> rfl
  · rfl

@[simp] theorem withStubCheck_seqs (p : Proj) (f : Lamp → Lamp) (s : State) : (withStubCheck p f s).seqs = s.seqs := by
  unfold withStubCheck
  dsimp only
  split_ifs <;> rfl

@[simp] theorem keepForecast_seqs (p : Proj) (f : Forecast) (s : State) : (keepForecast p f s).seqs = s.seqs := by
  unfold keepForecast
  dsimp only
  split <;> rfl

@[simp] theorem singleForecast_seqs (p : Proj) (s : State) : (singleForecast p s).seqs = s.seqs := by
  unfold singleForecast
  split <;> simp

@[simp] theorem economyChoice_seqs (p : Proj) (s : State) : (economyChoice p s).seqs = s.seqs := by
  unfold economyChoice
  split
  · simp
  · dsimp only
    split_ifs <;> simp [chooseWarm]

@[simp] theorem lateStrike_seqs (p : Proj) (s : State) : (lateStrike p s).seqs = s.seqs := by
  unfold lateStrike
  split
  · split_ifs <;> rfl
  · rfl

@[simp] theorem lateStrikes_seqs (s : State) : (lateStrikes s).seqs = s.seqs := forEach_frame _ _ State.seqs lateStrike_seqs s

@[simp] theorem restoreBudget_seqs (s : State) : (restoreBudget s).seqs = s.seqs := by
  unfold restoreBudget
  split_ifs <;> simp

@[simp] theorem feedInterval_seqs (p : Proj) (s : State) : (feedInterval p s).seqs = s.seqs := by
  unfold feedInterval feedStep
  split_ifs <;> simp

@[simp] theorem quenchingEnds_seqs (p : Proj) (s : State) : (quenchingEnds p s).seqs = s.seqs := by
  unfold quenchingEnds
  dsimp only
  split <;> rfl

@[simp] theorem fireLamp_seqs (p : Proj) (s : State) : (fireLamp p s).seqs = s.seqs := by
  simp [fireLamp]

end Sys2Proof.Machine

end

/-! # Proofs: the dowser demands of a screen (O32)

A demand is set only with the other one of the screen cleared first (`demandOnly`), or where it is a relight hold already; every
other write of a demand clears it. `demands` is what of the Sequencers those writes touch. -/

section

namespace Sys2Proof.Machine

/-- The dowser demands of the screens (R40). -/
def demands (q : Quad Sequencer) : Quad (Pair Demand) := q.map Sequencer.demand

theorem seq_demand {s t : State} (e : demands t.seqs = demands s.seqs) (n : Screen) : (t.seq n).demand = (s.seq n).demand := by
  have entry := congrArg (fun d => d.get n) e
  simpa [demands, State.seq] using entry

/-- The invariant reads the demands alone. -/
theorem demandsOk_of_demands {s t : State} (e : demands t.seqs = demands s.seqs) (h : demandsOk s) : demandsOk t := by
  intro n
  unfold oneDemand
  rw [seq_demand e n]
  exact h n

theorem demandsOk_of_seqs {s t : State} (e : t.seqs = s.seqs) (h : demandsOk s) : demandsOk t :=
  demandsOk_of_demands (by rw [e]) h

/-! ## What writes no demand -/

@[simp] theorem modSeq_demands (s : State) (n : Screen) (f : Sequencer → Sequencer) (h : ∀ q, (f q).demand = q.demand) :
    demands (s.modSeq n f).seqs = demands s.seqs := by
  refine Quad.ext_get (fun m => ?_)
  have entry (t : State) : (demands t.seqs).get m = (t.seq m).demand := by simp [demands, State.seq]
  rw [entry, entry, seq_modSeq]
  split_ifs with hm
  · rw [hm, h]
  · rfl

@[simp] theorem modRecord_demands (n : Screen) (f : Changeover → Changeover) (s : State) :
    demands (modRecord n f s).seqs = demands s.seqs := modSeq_demands _ _ _ (fun _ => rfl)

@[simp] theorem setRole_demands (p : Proj) (r : Role) (s : State) : demands (setRole p r s).seqs = demands s.seqs :=
  modSeq_demands _ _ _ (fun _ => rfl)

@[simp] theorem setSound_demands (n : Screen) (x : Sound) (s : State) : demands (setSound n x s).seqs = demands s.seqs :=
  modSeq_demands _ _ _ (fun _ => rfl)

@[simp] theorem motorOn_demands (p : Proj) (s : State) : demands (motorOn p s).seqs = demands s.seqs := by
  unfold motorOn
  dsimp only
  split_ifs <;> simp [setMotion_seqs]

@[simp] theorem motorOff_demands (p : Proj) (s : State) : demands (motorOff p s).seqs = demands s.seqs := by
  unfold motorOff
  dsimp only
  split_ifs <;> simp [setMotion_seqs]

@[simp] theorem recordToNoneSparing_demands (n : Screen) (x : Option Side) (s : State) :
    demands (recordToNoneSparing n x s).seqs = demands s.seqs := by
  unfold recordToNoneSparing
  split
  · rfl
  · dsimp only
    split_ifs <;> simp [undoIncoming]

@[simp] theorem recordToNone_demands (n : Screen) (s : State) : demands (recordToNone n s).seqs = demands s.seqs :=
  recordToNoneSparing_demands n none s

@[simp] theorem lampUnavailable_demands (p : Proj) (s : State) : demands (lampUnavailable p s).seqs = demands s.seqs := by
  unfold lampUnavailable
  dsimp only
  split_ifs
  · rfl
  · split
    · split_ifs <;> simp
    · rfl

@[simp] theorem raiseRequest_demands (p : Proj) (x : Target) (d : BoothTime) (s : State) :
    demands (raiseRequest p x d s).seqs = demands s.seqs := by
  unfold raiseRequest
  split_ifs <;> simp

@[simp] theorem askRunning_demands (p : Proj) (s : State) : demands (askRunning p s).seqs = demands s.seqs := by
  unfold askRunning
  split <;> simp

@[simp] theorem strikeAction_demands (n : Screen) (s : State) : demands (strikeAction n s).seqs = demands s.seqs := by
  unfold strikeAction
  split
  · rfl
  · dsimp only
    split <;> try split_ifs
    all_goals simp

@[simp] theorem strikeIfReached_demands (n : Screen) (s : State) : demands (strikeIfReached n s).seqs = demands s.seqs := by
  unfold strikeIfReached
  split
  · split_ifs <;> simp
  · rfl

@[simp] theorem warmChosen_demands (p : Proj) (s : State) : demands (warmChosen p s).seqs = demands s.seqs := by
  unfold warmChosen
  split
  · split_ifs <;> simp
  · rfl

@[simp] theorem takeMotorCue_demands (n : Screen) (c : CueTake) (s : State) :
    demands (takeMotorCue n c s).seqs = demands s.seqs := by
  unfold takeMotorCue
  dsimp only
  split
  · simp
  · split_ifs <;> simp

@[simp] theorem examineArming_demands (n : Screen) (s : State) : demands (examineArming n s).seqs = demands s.seqs := by
  unfold examineArming
  split
  · rfl
  · dsimp only
    split_ifs <;> simp

@[simp] theorem motorCueByCount_demands (n : Screen) (p : Proj) (s : State) :
    demands (motorCueByCount n p s).seqs = demands s.seqs := by
  unfold motorCueByCount
  split
  · split_ifs <;> simp
  · rfl

@[simp] theorem motorCheck_demands (n : Screen) (p : Proj) (s : State) : demands (motorCheck n p s).seqs = demands s.seqs := by
  unfold motorCheck
  split
  · dsimp only
    split_ifs <;> simp
  · rfl

@[simp] theorem changeCheck_demands (n : Screen) (p : Proj) (s : State) :
    demands (changeCheck n p s).seqs = demands s.seqs := by
  unfold changeCheck
  split
  · dsimp only
    split_ifs <;> simp
  · rfl

@[simp] theorem pulseChecked_demands (n : Screen) (r : Changeover) (w k : Nat) (s : State) :
    demands (pulseChecked n r w k s).seqs = demands s.seqs := by
  unfold pulseChecked
  dsimp only
  split_ifs <;> simp

@[simp] theorem haltScreen_demands (n : Screen) (r : HaltReason) (p : Option Proj) (s : State) :
    demands (haltScreen n r p s).seqs = demands s.seqs := by
  have halted (q : Sequencer) : (q.halted r p).demand = q.demand := by
    unfold Sequencer.halted
    dsimp only
    split_ifs <;> rfl
  unfold haltScreen
  split_ifs <;> simp [halted]

@[simp] theorem dropIncoming_demands (p : Proj) (s : State) : demands (dropIncoming p s).seqs = demands s.seqs := by
  unfold dropIncoming
  split_ifs <;> simp

@[simp] theorem emptyContext_demands (p : Proj) (s : State) : demands (emptyContext p s).seqs = demands s.seqs := by
  unfold emptyContext
  split <;> simp

@[simp] theorem beginRecord_demands (p : Proj) (k : StartKind) (s : State) :
    demands (beginRecord p k s).seqs = demands s.seqs := by
  simp [beginRecord]

@[simp] theorem beginStart_demands (p : Proj) (k : StartKind) (s : State) :
    demands (beginStart p k s).seqs = demands s.seqs := by
  unfold beginStart
  dsimp only
  split_ifs <;> simp

@[simp] theorem examinePending_demands (n : Screen) (s : State) : demands (examinePending n s).seqs = demands s.seqs := by
  unfold examinePending
  split_ifs
  · split <;> simp
  · rfl

@[simp] theorem examineThreading_demands (n : Screen) (s : State) :
    demands (examineThreading n s).seqs = demands s.seqs := by
  simp [examineThreading]

@[simp] theorem expireInterval_demands (n : Screen) (s : State) : demands (expireInterval n s).seqs = demands s.seqs := by
  unfold expireInterval
  split
  · simp
  · dsimp only
    split <;> simp

@[simp] theorem incomingFault_demands (p : Proj) (f : IncomingFault) (s : State) :
    demands (incomingFault p f s).seqs = demands s.seqs := by
  unfold incomingFault
  split
  · split_ifs
    · rfl
    · split <;> simp
  · rfl

@[simp] theorem endSwitched_demands (n : Screen) (s : State) : demands (endSwitched n s).seqs = demands s.seqs := by
  unfold endSwitched
  split
  · split_ifs <;> simp
  · rfl

@[simp] theorem onRunout_demands (p : Proj) (s : State) : demands (onRunout p s).seqs = demands s.seqs := by
  unfold onRunout
  split <;> simp

@[simp] theorem onLit_demands (p : Proj) (s : State) : demands (onLit p s).seqs = demands s.seqs := by
  unfold onLit
  split_ifs <;> simp

@[simp] theorem lightLamp_demands (p : Proj) (s : State) : demands (lightLamp p s).seqs = demands s.seqs := by
  unfold lightLamp
  dsimp only
  split_ifs <;> simp

@[simp] theorem reclaim_demands (p : Proj) (h : Option Proj) (s : State) : demands (reclaim p h s).seqs = demands s.seqs := by
  have reclaimed (t : State) : demands (onReclaim p t).seqs = demands t.seqs := by
    unfold onReclaim
    split_ifs <;> simp
  have sent (d : BoothTime) (t : State) : (notifyReclaimed p d h t).seqs = t.seqs := by
    unfold notifyReclaimed
    dsimp only
    split <;> try split_ifs
    all_goals rfl
  simp [reclaim, reclaimed, sent]

@[simp] theorem overdraftReclaim_demands (k : Nat) (s : State) : demands (overdraftReclaim k s).seqs = demands s.seqs := by
  induction k generalizing s with
  | zero => rfl
  | succ k ih =>
    unfold overdraftReclaim
    split_ifs
    · rfl
    · split
      · simp [ih]
      · rfl

@[simp] theorem enterOverdraft_demands (s : State) : demands (enterOverdraft s).seqs = demands s.seqs := by
  simp [enterOverdraft]

@[simp] theorem startStep_demands (n : Screen) (s : State) : demands (startStep n s).seqs = demands s.seqs := by
  have waits (p : Proj) : demands (strikeWait p s).seqs = demands s.seqs := by
    unfold strikeWait
    dsimp only
    split_ifs <;> simp
  have runs (p : Proj) (k : StartKind) : demands (runWait p k s).seqs = demands s.seqs := by
    unfold runWait completeStart
    split_ifs <;> simp
  unfold startStep
  split
  · split_ifs
    · rfl
    · split
      · exact waits _
      · exact runs _ _
  · rfl

/-! ## The writes of a demand -/

theorem modSeq_demandsOk {s : State} (n : Screen) (f : Sequencer → Sequencer) (hf : oneDemand (s.seq n) → oneDemand (f (s.seq n)))
    (h : demandsOk s) : demandsOk (s.modSeq n f) := by
  intro m
  rw [seq_modSeq]
  split_ifs
  · exact hf (h n)
  · exact h m

/-- With one demand cleared, at most the other is set. -/
theorem clearDemand_demandsOk {s : State} (p : Proj) (h : demandsOk s) : demandsOk (setDemand p .clear s) := by
  refine modSeq_demandsOk _ _ (fun _ => ?_) h
  unfold oneDemand
  cases p.side <;> simp [Pair.set]

/-- A demand that is not clear has the other clear, so any value may take its place. -/
theorem setDemand_demandsOk {s : State} (p : Proj) (d : Demand) (set : (s.seq p.screen).demand.get p.side ≠ .clear)
    (h : demandsOk s) : demandsOk (setDemand p d s) := by
  refine modSeq_demandsOk _ _ (fun one => ?_) h
  unfold oneDemand at one ⊢
  cases hx : p.side <;> simp_all [Pair.set, Pair.get]

/-- Demand is set for one projector with the other one cleared first (R42). -/
theorem demandOnly_demandsOk {s : State} (p : Proj) (h : demandsOk s) : demandsOk (demandOnly p s) := by
  intro m
  obtain ⟨n, x⟩ := p
  by_cases hm : m = n
  · subst hm
    cases x <;> simp [demandOnly, setDemand, oneDemand, Proj.other, Side.other, Pair.set]
  · simpa [demandOnly, setDemand, Proj.other, hm] using h m

theorem stopFilm_demandsOk {s : State} (p : Proj) (h : demandsOk s) : demandsOk (stopFilm p s) := by
  refine demandsOk_of_demands ?_ (clearDemand_demandsOk p h)
  unfold stopFilm
  dsimp only
  split_ifs
  · split <;> simp
  · rfl

/-! ## Sequencers -/

theorem switchOver_demandsOk {s : State} (n : Screen) (late : Bool) (h : demandsOk s) : demandsOk (switchOver n late s) := by
  unfold switchOver
  split
  · exact h
  · rename_i r _
    have set : demandsOk (demandOnly ⟨n, r.incoming⟩ (setRunning ⟨n, r.incoming⟩ s)) :=
      demandOnly_demandsOk _ (demandsOk_of_seqs (setRunning_seqs _ _) h)
    exact demandsOk_of_demands (by simp) set

theorem takeChangeCue_demandsOk {s : State} (n : Screen) (c : CueTake) (h : demandsOk s) :
    demandsOk (takeChangeCue n c s) := by
  have cued : demandsOk (modRecord n (fun r => { r with changeCue := some c }) s) := demandsOk_of_demands (by simp) h
  unfold takeChangeCue
  dsimp only
  split
  · exact cued
  · split
    · exact switchOver_demandsOk n false cued
    all_goals exact demandsOk_of_demands (by simp) cued

theorem recordFrame_demandsOk {s : State} (n : Screen) (p : Proj) (h : demandsOk s) : demandsOk (recordFrame n p s) := by
  have taken {t : State} (ht : demandsOk t) : demandsOk (changeCueByCount n p t) := by
    unfold changeCueByCount
    split
    · split_ifs
      · exact takeChangeCue_demandsOk n _ ht
      · exact ht
    · exact ht
  unfold recordFrame
  split
  · split_ifs
    · exact demandsOk_of_demands (changeCheck_demands _ _ _) h
    · exact demandsOk_of_demands (changeCheck_demands _ _ _) (taken (demandsOk_of_demands (by simp) h))
    · exact h
  · exact h

theorem recordPulse_demandsOk {s : State} (p : Proj) (k : Nat) (h : demandsOk s) : demandsOk (recordPulse p k s) := by
  have sense (n : Screen) (r : Changeover) (w : Nat) : demandsOk (pulseSense n r w k s) := by
    unfold pulseSense
    split_ifs
    · exact demandsOk_of_demands (takeMotorCue_demands _ _ _) h
    · exact takeChangeCue_demandsOk n _ h
    · exact h
    · exact demandsOk_of_demands (modRecord_demands _ _ _) h
  unfold recordPulse
  split
  · split_ifs
    · dsimp only
      split
      · exact h
      · exact h
      · exact demandsOk_of_demands (by split_ifs <;> simp) h
      · exact sense _ _ _
      · exact demandsOk_of_demands (pulseChecked_demands _ _ _ _ _) h
    · exact h
  · exact h

theorem haltFilm_demandsOk {s : State} (r : HaltReason) (p : Proj) (h : demandsOk s) : demandsOk (haltFilm r p s) := by
  unfold haltFilm
  split_ifs
  · exact h
  · have halted : demandsOk (haltScreen p.screen r (some p) s) := demandsOk_of_demands (haltScreen_demands _ _ _ _) h
    exact demandsOk_of_demands (by simp) (stopFilm_demandsOk p halted)

theorem haltLamp_demandsOk {s : State} (r : HaltReason) (p : Proj) (h : demandsOk s) : demandsOk (haltLamp r p s) := by
  have halted : demandsOk (haltScreen p.screen r (some p) s) := demandsOk_of_demands (haltScreen_demands _ _ _ _) h
  unfold haltLamp
  dsimp only
  split_ifs
  · exact h
  · refine demandsOk_of_demands (recordToNone_demands _ _) ?_
    split
    · exact stopFilm_demandsOk _ halted
    · exact halted

/-- Both films of a screen stopped after its halt (R67). -/
theorem stopBoth_demandsOk {s : State} (n : Screen) (r : HaltReason) (p : Option Proj) (h : demandsOk s) :
    demandsOk (stopFilm ⟨n, .b⟩ (stopFilm ⟨n, .a⟩ (haltScreen n r p s))) :=
  stopFilm_demandsOk _ (stopFilm_demandsOk _ (demandsOk_of_demands (haltScreen_demands _ _ _ _) h))

theorem haltFire_demandsOk {s : State} (n : Screen) (h : demandsOk s) : demandsOk (haltFire n s) :=
  demandsOk_of_demands (recordToNone_demands _ _) (stopBoth_demandsOk n .fire none h)

theorem haltLocalFire_demandsOk {s : State} (p : Proj) (h : demandsOk s) : demandsOk (haltLocalFire p s) := by
  have stopped := stopBoth_demandsOk p.screen .localFire (some p) h
  unfold haltLocalFire
  dsimp only
  split_ifs
  · exact h
  · refine demandsOk_of_demands (recordToNone_demands _ _) (demandsOk_of_seqs ?_ stopped)
    split <;> try split_ifs
    all_goals simp

theorem reelEnds_demandsOk {s : State} (p : Proj) (h : demandsOk s) : demandsOk (reelEnds p s) := by
  have closed : demandsOk (closing p s) := demandsOk_of_demands (by simp [closing]) (clearDemand_demandsOk p h)
  unfold reelEnds
  dsimp only
  split
  · exact demandsOk_of_demands (by simp) closed
  · exact demandsOk_of_demands (by simp) closed
  · have missed : demandsOk (modRecord p.screen (fun r => if r.st = .switched then r else { r with st := .missed })
        (haltScreen p.screen .missedChangeover (some p) s)) := demandsOk_of_demands (by simp) h
    exact demandsOk_of_demands (by simp [haltMissed]) (clearDemand_demandsOk p missed)

theorem sequencerFrame_demandsOk {s : State} (p : Proj) (h : demandsOk s) : demandsOk (sequencerFrame p s) := by
  have pair {t : State} (ht : demandsOk t) : demandsOk (examinePair p t) := by
    unfold examinePair
    split
    · split_ifs
      · exact demandOnly_demandsOk p ht
      · exact ht
    · exact ht
  have ended {t : State} (ht : demandsOk t) : demandsOk (endIfReached p t) := by
    unfold endIfReached
    split
    · split_ifs
      · exact reelEnds_demandsOk p ht
      · exact ht
    · exact ht
  unfold sequencerFrame
  dsimp only
  split
  · exact pair (demandsOk_of_seqs (by split_ifs <;> simp) h)
  · split_ifs
    · exact ended (recordFrame_demandsOk _ _ (demandsOk_of_seqs (lightMarks_seqs _ _) h))
    · exact h
  · exact recordFrame_demandsOk _ _ h
  · exact h
  · exact h

theorem onBreak_demandsOk {s : State} (p : Proj) (h : demandsOk s) : demandsOk (onBreak p s) := by
  unfold onBreak
  split
  · exact haltFilm_demandsOk _ p h
  · exact haltFilm_demandsOk _ p h
  · exact demandsOk_of_demands (incomingFault_demands _ _ _) h
  · exact demandsOk_of_demands (by simp) h
  · exact h

theorem onStall_demandsOk {s : State} (p : Proj) (h : demandsOk s) : demandsOk (onStall p s) := by
  unfold onStall
  split
  · exact haltFilm_demandsOk _ p h
  · exact demandsOk_of_demands (incomingFault_demands _ _ _) h
  · exact h

theorem failStrike_demandsOk {s : State} (p : Proj) (c : FaultCause) (h : demandsOk s) : demandsOk (failStrike p c s) := by
  have failed : demandsOk (notifyScreen p.screen (.strikeFailed p c) (faultLamp p c s)) := h
  unfold failStrike onStrikeFailed
  split
  · exact haltLamp_demandsOk _ p failed
  · exact haltLamp_demandsOk _ p failed
  · split_ifs <;> exact failed

theorem beginAttempt_demandsOk {s : State} (p : Proj) (h : demandsOk s) : demandsOk (beginAttempt p s) := by
  unfold beginAttempt
  split_ifs
  · exact failStrike_demandsOk p _ h
  · exact h

theorem failAttempt_demandsOk {s : State} (p : Proj) (c : FaultCause) (h : demandsOk s) : demandsOk (failAttempt p c s) := by
  unfold failAttempt
  split_ifs
  · exact h
  · exact failStrike_demandsOk p c h

/-- An arc-out puts a relight hold in the place of a set demand (R68). -/
theorem onArcOut_demandsOk {s : State} (p : Proj) (wasRunning : Bool) (h : demandsOk s) :
    demandsOk (onArcOut p wasRunning s) := by
  have held : demandsOk (if wasRunning ∧ (s.seq p.screen).demand.get p.side = .set then setDemand p .relightHold s else s) := by
    split_ifs with set
    · exact setDemand_demandsOk p _ (by simp [set.2]) h
    · exact h
  refine demandsOk_of_demands ?_ held
  unfold onArcOut
  dsimp only
  split_ifs <;> simp

theorem arcOut_demandsOk {s : State} (p : Proj) (h : demandsOk s) : demandsOk (arcOut p s) := by
  unfold arcOut
  dsimp only
  split_ifs
  · exact onArcOut_demandsOk p _ (demandsOk_of_seqs (by simp) h)
  · exact onArcOut_demandsOk p _ (demandsOk_of_seqs (by simp) h)
  · exact failStrike_demandsOk p _ h
  · exact failStrike_demandsOk p _ h
  · exact haltLamp_demandsOk _ p h
  · exact onArcOut_demandsOk p _ (demandsOk_of_seqs (by simp) h)

/-! ## The end of an event -/

theorem examineQueue_demandsOk {s : State} (k : Nat) (h : demandsOk s) : demandsOk (examineQueue k s) := by
  induction k generalizing s with
  | zero => rw [examineQueue]; exact h
  | succ k ih =>
    cases hq : s.budget.queue with
    | nil => rw [examineQueue.eq_def]; simpa only [hq] using h
    | cons e rest =>
      rw [examineQueue.eq_def]
      simp only [hq]
      split_ifs
      · exact h
      · exact ih (beginAttempt_demandsOk _ h)
      · split
        · exact ih (demandsOk_of_demands (reclaim_demands _ _ _) h)
        · exact h
      · exact h

theorem examineBudget_demandsOk {s : State} (h : demandsOk s) : demandsOk (examineBudget s) :=
  examineQueue_demandsOk 32 (demandsOk_of_seqs (restoreBudget_seqs s) h)

/-- A relight hold becomes a set demand again (R68). -/
theorem relight_demandsOk {s : State} (p : Proj) (h : demandsOk s) : demandsOk (relight p s) := by
  unfold relight
  split_ifs with held
  · exact setDemand_demandsOk p _ (by simp [held.1]) h
  · exact h

theorem recordStep_demandsOk {s : State} (n : Screen) (h : demandsOk s) : demandsOk (recordStep n s) := by
  unfold recordStep
  split
  · exact h
  · dsimp only
    split
    · exact demandsOk_of_demands (modRecord_demands _ _ _) h
    · exact demandsOk_of_demands (modRecord_demands _ _ _) h
    · split_ifs
      · exact switchOver_demandsOk n true h
      · exact h
    · exact h

theorem screenSteps_demandsOk {s : State} (h : demandsOk s) : demandsOk (screenSteps s) :=
  forEach_keeps _ _ demandsOk (fun n _ ht => recordStep_demandsOk n
    (demandsOk_of_demands (startStep_demands n _) (relight_demandsOk _ (relight_demandsOk _ ht)))) h

theorem settleBudget_demandsOk {s : State} (k : Nat) (h : demandsOk s) : demandsOk (settleBudget k s) := by
  induction k generalizing s with
  | zero => exact h
  | succ k ih =>
    have round := screenSteps_demandsOk (examineBudget_demandsOk h)
    unfold settleBudget
    dsimp only
    split_ifs
    · exact ih round
    · exact round

/-- The end of an event keeps the demands. -/
theorem settle_demandsOk {s : State} (h : demandsOk s) : demandsOk (settle s) := by
  have stepped := screenSteps_demandsOk h
  unfold settle
  dsimp only
  split_ifs
  · exact demandsOk_of_seqs (by simp) (settleBudget_demandsOk 8 stepped)
  · exact demandsOk_of_seqs (judgeLights_seqs _) stepped

theorem event_demandsOk {f : State → State} {s : State} (hf : demandsOk s → demandsOk (f s)) (h : demandsOk s) :
    demandsOk (event f s) := by
  unfold event
  split_ifs
  · exact settle_demandsOk (hf h)
  · exact h

end Sys2Proof.Machine

end

/-! # Proofs: the events, the orders, the clock and the supplies keep the dowser demands (O32) -/

section

namespace Sys2Proof.Machine

/-! ## Fire -/

theorem boothFire_demandsOk {s : State} (h : demandsOk s) : demandsOk (boothFire s) := by
  have entered : demandsOk (forEach Proj.all fireLamp (notifyAll (.fire s.boothTime s.fire.sources)
      (s.modFire (fun u => u.enter s.boothTime)))) :=
    demandsOk_of_seqs ((forEach_frame _ _ State.seqs fireLamp_seqs _).trans (by simp)) h
  exact demandsOk_of_seqs (setBoothHolder_seqs _ _) (forEach_keeps _ _ demandsOk (fun n _ ht => haltFire_demandsOk n ht) entered)

theorem sourceRise_demandsOk {s : State} (x : Source) (h : demandsOk s) : demandsOk (sourceRise x s) := by
  unfold sourceRise recordSource
  dsimp only
  split_ifs
  · exact h
  · split
    · exact demandsOk_of_seqs (notifyAll_seqs _ _) h
    · exact h
  · exact h
  · exact boothFire_demandsOk h

theorem sourceFollows_demandsOk {s : State} (i : FireInput) (v : Bool) (h : demandsOk s) :
    demandsOk (sourceFollows i v s) := by
  unfold sourceFollows
  split_ifs
  · exact sourceRise_demandsOk _ h
  · exact h

theorem flameRise_demandsOk {s : State} (p : Proj) (h : demandsOk s) : demandsOk (flameRise p s) :=
  haltLocalFire_demandsOk p (demandsOk_of_seqs (by simp) h)

theorem flameFall_demandsOk {s : State} (p : Proj) (h : demandsOk s) : demandsOk (flameFall p s) := by
  unfold flameFall
  dsimp only
  split_ifs <;> exact h

theorem upChange_demandsOk {s : State} (q : Port) (v : Bool) (h : demandsOk s) : demandsOk (upChange q v s) := by
  unfold upChange portDrops
  dsimp only
  split_ifs
  · exact h
  · split
    · split_ifs
      · exact haltFilm_demandsOk _ _ h
      · exact h
    · exact h
  · exact h

theorem firstScan_demandsOk {s : State} (i : ScanInputs) (h : demandsOk s) : demandsOk (firstScan i s) := by
  have sampled (t : State) : (scanSamples i t).seqs = t.seqs :=
    forEach_frame _ _ State.seqs (fun _ _ => modLamp_seqs _ _ _) t
  have flames {t : State} (ht : demandsOk t) : demandsOk (scanFlames i t) :=
    forEach_keeps _ _ demandsOk (fun p u hu => by split_ifs <;> [exact flameRise_demandsOk p hu; exact hu]) ht
  have sources {t : State} (ht : demandsOk t) : demandsOk (scanSources i t) := by
    unfold scanSources
    dsimp only
    split_ifs
    · exact forEach_keeps _ _ demandsOk (fun k _ hu => sourceFollows_demandsOk k _ hu) ht
    · exact boothFire_demandsOk ht
    · exact ht
  exact sources (flames (demandsOk_of_seqs (sampled _) h))

/-! ## Film events -/

theorem perforation_demandsOk {s : State} (p : Proj) (d : Nat) (h : demandsOk s) : demandsOk (perforation p d s) := by
  unfold perforation
  split_ifs
  · exact h
  · exact sequencerFrame_demandsOk p (demandsOk_of_seqs (by simp) h)

theorem cuePulse_demandsOk {s : State} (p : Proj) (h : demandsOk s) : demandsOk (cuePulse p s) := by
  unfold cuePulse
  dsimp only
  split_ifs
  · exact h
  · exact recordPulse_demandsOk p _ h

theorem breakReached_demandsOk {s : State} (p : Proj) (h : demandsOk s) : demandsOk (breakReached p s) := by
  have moved (m : Motion) : demandsOk (setMotion p m (clearRing p s)) := demandsOk_of_seqs (setMotion_seqs _ _ _) h
  unfold breakReached
  dsimp only
  split_ifs
  · exact demandsOk_of_demands (onRunout_demands _ _) (moved _)
  · exact onBreak_demandsOk p (moved _)
  · exact h

theorem breakNow_demandsOk {s : State} (p : Proj) (h : demandsOk s) : demandsOk (breakNow p s) := by
  unfold breakNow
  split_ifs
  · exact breakReached_demandsOk p h
  · exact h

theorem coastNow_demandsOk {s : State} (p : Proj) (h : demandsOk s) : demandsOk (coastNow p s) := by
  have coasted {t : State} (ht : demandsOk t) :
      demandsOk (coastReached p (t.modChan p (fun c => { c with age := coastUnits }))) := by
    unfold coastReached
    split_ifs
    · exact demandsOk_of_seqs (setMotion_seqs _ _ _) ht
    · exact ht
  unfold coastNow
  dsimp only
  split_ifs
  · exact coasted (breakNow_demandsOk p h)
  · exact coasted h
  · exact h

theorem runupReached_demandsOk {s : State} (p : Proj) (h : demandsOk s) : demandsOk (runupReached p s) := by
  unfold runupReached
  split_ifs
  · exact onStall_demandsOk p (demandsOk_of_seqs (setMotion_seqs _ _ _) h)
  · exact h

/-! ## Lamp events and booth time -/

theorem touchSample_demandsOk {s : State} (p : Proj) (v : Nat) (h : demandsOk s) : demandsOk (touchSample p v s) := by
  unfold touchSample touchFeed
  dsimp only
  split_ifs
  · exact h
  · exact failAttempt_demandsOk p _ h
  · exact h
  · exact demandsOk_of_seqs (withStubCheck_seqs _ _ _) h

theorem drawEnd_demandsOk {s : State} (p : Proj) (v : Nat) (h : demandsOk s) : demandsOk (drawEnd p v s) := by
  unfold drawEnd standbyInOverdraft
  dsimp only
  split_ifs
  · exact demandsOk_of_demands (by simp) h
  · exact demandsOk_of_demands (by simp) h
  · exact demandsOk_of_demands (by simp) h
  · exact failAttempt_demandsOk p _ h

theorem litSample_demandsOk {s : State} (p : Proj) (v : Nat) (h : demandsOk s) : demandsOk (litSample p v s) := by
  unfold litSample
  dsimp only
  split_ifs
  · exact arcOut_demandsOk p h
  · exact h
  · exact arcOut_demandsOk p h
  · exact h

theorem waitEnds_demandsOk {s : State} (c : Instr) (h : demandsOk s) : demandsOk (waitEnds c s) := by
  refine demandsOk_of_demands ?_ h
  unfold waitEnds
  split <;> simp

theorem advanceBoothTime_demandsOk {s : State} (h : demandsOk s) : demandsOk (advanceBoothTime s) := by
  refine demandsOk_of_demands (Quad.ext_get (fun n => ?_)) h
  simp only [demands, advanceBoothTime, everyCircuit, Quad.get_map]
  unfold Sequencer.intervalStep
  split_ifs <;> rfl

theorem advanceWithWaits_demandsOk {s : State} (h : demandsOk s) : demandsOk (advanceWithWaits s) := by
  refine forEach_keeps _ _ demandsOk (fun c t ht => ?_) (settle_demandsOk (advanceBoothTime_demandsOk h))
  unfold takeWait
  split_ifs
  · exact settle_demandsOk (waitEnds_demandsOk c ht)
  · exact ht

/-! ## Orders -/

theorem refreshContext_demandsOk {s : State} (p : Proj) (k : Nat) (c : Context) (r : ReelRecord) (h : demandsOk s) :
    demandsOk (refreshContext p k c r s) := by
  have edited (b : NoticeBody) (t : State) : (notifyEdit r.owner p b t).seqs = t.seqs := by
    unfold notifyEdit
    dsimp only
    split_ifs <;> rfl
  refine demandsOk_of_demands ?_ h
  unfold refreshContext
  dsimp only
  split_ifs <;> simp [edited]

theorem applyStoreReel_demandsOk {s : State} (l : Line) (k o : Nat) (f : ReelFields) (h : demandsOk s) :
    demandsOk (applyStoreReel l k o f s) := by
  have edited (p : Proj) (r : ReelRecord) {t : State} (ht : demandsOk t) : demandsOk (editReaches p k r t) := by
    unfold editReaches markStale notifyEdit
    dsimp only
    split <;> try split_ifs
    · exact ht
    · exact ht
    · exact refreshContext_demandsOk p k _ r ht
    · exact ht
  unfold applyStoreReel
  split
  · exact h
  · dsimp only
    split
    · exact edited _ _ h
    · exact h

theorem applyStoreProgram_demandsOk {s : State} (n : Nat) (items : List RawItem) (h : demandsOk s) :
    demandsOk (applyStoreProgram n items s) := by
  unfold applyStoreProgram
  split
  · refine demandsOk_of_demands (examineArming_demands _ _) ?_
    split_ifs
    · exact demandsOk_of_demands (modSeq_demands _ _ _ (fun _ => rfl)) h
    · exact h
  · exact h

@[simp] theorem applyThread_demands (p k : Nat) (s : State) : demands (applyThread p k s).seqs = demands s.seqs := by
  have forecast (x : Proj) (t : State) : demands (threadForecast x t).seqs = demands t.seqs := by
    unfold threadForecast
    split_ifs <;> simp
  unfold applyThread
  split
  · simp [threadReel, forecast]
  · rfl

@[simp] theorem applyUnthread_demands (p : Nat) (s : State) : demands (applyUnthread p s).seqs = demands s.seqs := by
  unfold applyUnthread unthreadReel
  split <;> try split
  all_goals simp

@[simp] theorem cancelStart_demands (n : Screen) (s : State) : demands (cancelStart n s).seqs = demands s.seqs := by
  unfold cancelStart
  dsimp only
  split <;> simp

@[simp] theorem idled_demands (n : Screen) (x : Show) (s : State) :
    demands (s.modSeq n (fun q => q.idled x)).seqs = demands s.seqs := modSeq_demands _ _ _ (fun _ => rfl)

theorem darkScreen_demandsOk {s : State} (n : Screen) (h : demandsOk s) : demandsOk (darkScreen n s) :=
  demandsOk_of_demands (by simp [darkScreen]) (clearDemand_demandsOk ⟨n, .b⟩ (clearDemand_demandsOk ⟨n, .a⟩ h))

theorem applyStop_demandsOk {s : State} (l : Line) (n : Nat) (h : demandsOk s) : demandsOk (applyStop l n s) := by
  have told (m : Screen) (t : State) : (notifyStopped l m t).seqs = t.seqs := by
    unfold notifyStopped
    split_ifs <;> rfl
  unfold applyStop
  split
  · rename_i m _
    exact demandsOk_of_demands (by simp [stopShow, told]) (darkScreen_demandsOk m h)
  · exact h

theorem applyClose_demandsOk {s : State} (n : Nat) (h : demandsOk s) : demandsOk (applyClose n s) := by
  unfold applyClose
  split
  · rename_i m _
    have undone : demandsOk (recordToNone m (cancelStart m s)) := demandsOk_of_demands (by simp) h
    exact demandsOk_of_demands (by simp [closeShow]) (darkScreen_demandsOk m undone)
  · exact h

@[simp] theorem applyResume_demands (n : Nat) (s : State) : demands (applyResume n s).seqs = demands s.seqs := by
  have swapped (m : Screen) (x : Side) (t : State) : demands (swapRoles m x t).seqs = demands t.seqs := by
    unfold swapRoles
    dsimp only
    split_ifs <;> simp
  unfold applyResume
  split
  · split
    · simp [resumeReel, swapped]
    · simp [resumeState]
  · rfl

theorem applyChangeNow_demandsOk {s : State} (n : Nat) (h : demandsOk s) : demandsOk (applyChangeNow n s) := by
  unfold applyChangeNow
  split
  · split
    · split_ifs
      · exact switchOver_demandsOk _ false (demandsOk_of_demands (modRecord_demands _ _ _) h)
      · refine demandsOk_of_demands ?_ h
        unfold restartHeldMotor
        dsimp only
        split_ifs <;> simp
    · exact h
  · exact h

@[simp] theorem applyQuench_demands (p : Nat) (s : State) : demands (applyQuench p s).seqs = demands s.seqs := by
  unfold applyQuench quenchByOrder
  split
  · dsimp only
    split_ifs <;> simp
  · rfl

@[simp] theorem applyTrim_demands (p k : Nat) (s : State) : demands (applyTrim p k s).seqs = demands s.seqs := by
  unfold applyTrim trimLamp
  split
  · dsimp only
    split <;> simp
  · rfl

@[simp] theorem applySetCapacity_demands (k : Nat) (s : State) : demands (applySetCapacity k s).seqs = demands s.seqs := by
  unfold applySetCapacity
  dsimp only
  split_ifs <;> simp

@[simp] theorem applySetLamp_seqs (p : Nat) (x : LampSettings) (s : State) : (applySetLamp p x s).seqs = s.seqs := by
  unfold applySetLamp takeRunCurrent
  split
  · dsimp only
    split <;> try split_ifs
    all_goals simp
  · rfl

@[simp] theorem applyStrike_seqs (p r : Nat) (s : State) : (applyStrike p r s).seqs = s.seqs := by
  unfold applyStrike
  split <;> simp

@[simp] theorem applySetSurge_seqs (k : Nat) (s : State) : (applySetSurge k s).seqs = s.seqs := by
  unfold applySetSurge
  dsimp only
  split_ifs <;> rfl

@[simp] theorem applySetReclaim_seqs (k g : Nat) (s : State) : (applySetReclaim k g s).seqs = s.seqs := by
  unfold applySetReclaim
  dsimp only
  split_ifs <;> rfl

@[simp] theorem applyLights_seqs (n : Nat) (form : LightsForm) (s : State) : (applyLights n form s).seqs = s.seqs := by
  unfold applyLights
  split
  · exact forEach_frame _ _ State.seqs (fun m t => by unfold manualTakes; split <;> rfl) s
  · rfl

@[simp] theorem applyLightsRelease_seqs (n : Nat) (s : State) : (applyLightsRelease n s).seqs = s.seqs := by
  unfold applyLightsRelease
  split
  · exact forEach_frame _ _ State.seqs (fun m t => removeClaims_seqs m .manual t) s
  · rfl

@[simp] theorem applySetRest_seqs (c k : Nat) (s : State) : (applySetRest c k s).seqs = s.seqs := by
  unfold applySetRest restTakes
  split
  · dsimp only
    split <;> simp
  · rfl

@[simp] theorem applyClearFire_seqs (s : State) : (applyClearFire s).seqs = s.seqs := by
  unfold applyClearFire notifyCleared modOpenEntry
  dsimp only
  split <;> simp

@[simp] theorem applyRehang_seqs (n : Nat) (s : State) : (applyRehang n s).seqs = s.seqs := by
  unfold applyRehang
  split <;> rfl

theorem applySetMotion_demandsOk {s : State} (m : MotionSettings) (h : demandsOk s) : demandsOk (applySetMotion m s) := by
  have replaced : demandsOk { s with motionSettings := m } := h
  refine forEach_keeps _ _ demandsOk (fun p t ht => ?_)
    (forEach_keeps _ _ demandsOk (fun p t ht => ?_) (forEach_keeps _ _ demandsOk (fun p t ht => ?_) replaced))
  · unfold persistenceMeets persistenceReached
    split
    · split_ifs
      · exact sourceRise_demandsOk _ ht
      · exact ht
    · exact ht
  · unfold gapMeets
    split_ifs
    · exact breakReached_demandsOk p ht
    · exact ht
  · unfold runupMeets
    split
    · split_ifs
      · exact runupReached_demandsOk p ht
      · exact ht
    · exact ht

theorem applyOrder_demandsOk {s : State} (l : Line) (o : Order) (h : demandsOk s) : demandsOk (applyOrder l o s) := by
  cases o <;> dsimp only [applyOrder]
  case storeReel => exact applyStoreReel_demandsOk _ _ _ _ h
  case storeProgram => exact applyStoreProgram_demandsOk _ _ h
  case openScreen =>
    unfold applyOpen
    split
    · exact demandsOk_of_demands (by simp [openShow]) h
    · exact h
  case start =>
    unfold applyStart
    split <;> try split
    · exact demandsOk_of_demands (beginStart_demands _ _ _) h
    all_goals exact h
  case stop => exact applyStop_demandsOk _ _ h
  case close => exact applyClose_demandsOk _ h
  case changeNow => exact applyChangeNow_demandsOk _ h
  case setMotion m => exact applySetMotion_demandsOk m h
  case fireAssert => exact sourceRise_demandsOk _ h
  case fireRelease | deleteReel | storeScene | setFloor | read | unknown | miscounted => exact h
  all_goals exact demandsOk_of_demands (by simp) h

theorem takeOrder_demandsOk {s : State} (l : Line) (o : Order) (h : demandsOk s) : demandsOk (takeOrder l o s) := by
  unfold takeOrder
  split
  · refine demandsOk_of_seqs ?_ h
    unfold takeRead clearOwnStatus
    split <;> try split_ifs
    all_goals rfl
  · dsimp only
    split_ifs
    · exact applyOrder_demandsOk l _ h
    · exact h

theorem takeAll_demandsOk {s : State} (l : Line) (h : demandsOk s) : demandsOk (takeAll l s) := by
  have one {t : State} (ht : demandsOk t) : demandsOk (takeOne l t) := by
    unfold takeOne
    split
    · exact ht
    · split_ifs
      · exact settle_demandsOk (takeOrder_demandsOk l _ ht)
      · exact ht
  exact one (one h)

theorem arrive_demandsOk {s : State} (l : Line) (o : Order) (h : demandsOk s) : demandsOk (arrive l o s) := by
  unfold arrive
  split_ifs
  · exact takeAll_demandsOk l h
  · exact h
  · exact h

/-! ## The bytes of a line -/

@[simp] theorem frameTimeOut_seqs (l : Line) (s : State) : (frameTimeOut l s).seqs = s.seqs := by
  unfold frameTimeOut
  split <;> rfl

@[simp] theorem gapTimeOut_seqs (l : Line) (s : State) : (gapTimeOut l s).seqs = s.seqs := by
  unfold gapTimeOut
  split <;> rfl

@[simp] theorem byteFails_seqs (l : Line) (s : State) : (byteFails l s).seqs = s.seqs := by
  unfold byteFails
  split <;> rfl

@[simp] theorem lineBreaks_seqs (l : Line) (s : State) : (lineBreaks l s).seqs = s.seqs := rfl

theorem wholeFrame_demandsOk {s : State} (l : Line) (m : Option Partial) (got : List Byte) (h : demandsOk s) :
    demandsOk (wholeFrame l m got s) := by
  unfold wholeFrame soundFrame
  split_ifs
  · split
    · dsimp only
      split_ifs
      · exact h
      · exact h
      · exact arrive_demandsOk l _ h
    · exact h
  · exact h

theorem feedBytes_demandsOk {s : State} (l : Line) (bytes : List Byte) (h : demandsOk s) : demandsOk (feedBytes l bytes s) := by
  have fed (b : Byte) {t : State} (ht : demandsOk t) : demandsOk (feedByte l b t) := by
    unfold feedByte
    split
    · split_ifs <;> exact ht
    · unfold frameByte
      split
      · exact ht
      · split_ifs
        · exact ht
        · exact ht
        · exact wholeFrame_demandsOk l _ _ ht
    · split_ifs <;> exact ht
  unfold feedBytes
  induction bytes generalizing s with
  | nil => exact h
  | cons b bs ih => exact ih (fed b h)

theorem messageSent_demandsOk {s : State} (l : Line) (h : demandsOk s) : demandsOk (messageSent l s) := by
  unfold messageSent
  split
  · exact takeAll_demandsOk l h
  · exact h

theorem whileRunning_demandsOk {f : State → State} {s : State} (hf : demandsOk s → demandsOk (f s)) (h : demandsOk s) :
    demandsOk (whileRunning f s) := by
  unfold whileRunning
  split_ifs
  · exact hf h
  · exact h

/-! ## The passing of time -/

theorem channelLimits_demandsOk {s : State} (p : Proj) (h : demandsOk s) : demandsOk (channelLimits p s) := by
  have coast {t : State} (ht : demandsOk t) : demandsOk (if (s.chan p).age = coastUnits then settle (coastNow p t) else t) := by
    split_ifs
    · exact settle_demandsOk (coastNow_demandsOk p ht)
    · exact ht
  unfold channelLimits
  refine coast ?_
  split_ifs
  · exact settle_demandsOk (breakNow_demandsOk p h)
  · exact h

theorem runupTick_demandsOk {s : State} (p : Proj) (h : demandsOk s) : demandsOk (runupTick p s) := by
  unfold runupTick
  split
  · exact h
  · dsimp only
    split_ifs
    · exact settle_demandsOk (runupReached_demandsOk p h)
    · exact h

theorem persistTick_demandsOk {s : State} (p : Proj) (h : demandsOk s) : demandsOk (persistTick p s) := by
  unfold persistTick persistenceReached
  split
  · exact h
  · dsimp only
    split_ifs
    · exact settle_demandsOk (sourceRise_demandsOk _ h)
    · exact h

theorem lampTick_demandsOk {s : State} (p : Proj) (h : demandsOk s) : demandsOk (lampTick p s) := by
  have strike : demandsOk (strikeTick p s) := by
    unfold strikeTick
    dsimp only
    split_ifs
    · exact settle_demandsOk (beginAttempt_demandsOk p h)
    · exact h
  have feed : demandsOk (feedTick p s) := by
    unfold feedTick
    dsimp only
    split_ifs
    · exact settle_demandsOk (demandsOk_of_seqs (feedInterval_seqs _ _) h)
    · exact h
  have forecast {t : State} (ht : demandsOk t) : demandsOk (forecastTick p t) := by
    unfold forecastTick
    dsimp only
    split_ifs
    · exact settle_demandsOk (demandsOk_of_seqs (singleForecast_seqs _ _) ht)
    · exact ht
  unfold lampTick
  split_ifs
  · exact forecast feed
  · exact strike
  · exact h

theorem lineTick_demandsOk {s : State} (l : Line) (h : demandsOk s) : demandsOk (lineTick l s) := by
  refine demandsOk_of_seqs ?_ h
  unfold lineTick
  dsimp only
  split <;> try split_ifs
  all_goals simp

theorem boothTick_demandsOk {s : State} (h : demandsOk s) : demandsOk (boothTick s) := by
  have lined : demandsOk (forEach Line.all lineTick { s with stampSub := 0 }) :=
    forEach_keeps _ _ demandsOk (fun l _ ht => lineTick_demandsOk l ht) h
  have timed := forEach_keeps Proj.all (fun p x => lampTick p (persistTick p (runupTick p x))) demandsOk
    (fun p _ ht => lampTick_demandsOk p (persistTick_demandsOk p (runupTick_demandsOk p ht))) lined
  have counted {t : State} (k : Nat) (ht : demandsOk t) : demandsOk { t with tickCount := k } := ht
  unfold boothTick
  dsimp only
  split_ifs
  · exact advanceWithWaits_demandsOk timed
  · exact counted _ timed

theorem idle_demandsOk {s : State} (h : demandsOk s) : demandsOk (idle s) := by
  have limits : demandsOk (forEach Proj.all channelLimits (stampAdvance s)) :=
    forEach_keeps _ _ demandsOk (fun p _ ht => channelLimits_demandsOk p ht) h
  unfold idle
  dsimp only
  split_ifs
  · exact boothTick_demandsOk limits
  · exact limits
  · exact h

/-! ## Supplies and resets -/

/-- The reset values clear every demand. -/
theorem demandsOk_of_reset {t : State} (h : t.seqs = State.reset.seqs) : demandsOk t :=
  demandsOk_of_seqs h (fun n => Or.inl (by cases n <;> rfl))

theorem sgoodFalls_demandsOk {s : State} (vsb : Bool) (h : demandsOk s) : demandsOk (sgoodFalls vsb s) := by
  unfold sgoodFalls
  split
  · exact h
  · exact demandsOk_of_reset rfl

theorem sgoodRises_demandsOk {s : State} (vsb : Bool) (h : demandsOk s) : demandsOk (sgoodRises vsb s) := by
  have restored (t : State) : (if t.storeValid then t.keptReset else t.powerOn).seqs = State.reset.seqs := by
    split_ifs <;> rfl
  unfold sgoodRises
  split
  · exact h
  · exact demandsOk_of_reset (restored _)

theorem vsbLost_demandsOk {s : State} (h : demandsOk s) : demandsOk (vsbLost s) := by
  unfold vsbLost
  split <;> exact h

theorem resetRises_demandsOk {s : State} (h : demandsOk s) : demandsOk (resetRises s) := by
  unfold resetRises
  split_ifs
  · exact h
  · split
    · exact demandsOk_of_reset rfl
    · exact h

/-! ## Every step -/

/-- Every command keeps the demands: the orders and the rows of a line by the orders they complete, the supplies by their reset
values, and the rows of an event by the demands it writes. -/
theorem exec_demandsOk (c : Instr) {s : State} (h : demandsOk s) : ∃ t, exec c s = .next t ∧ demandsOk t := by
  have guarded {f : State → State} {b : State → Prop} [∀ t, Decidable (b t)] (hf : demandsOk s → demandsOk (f s)) :
      demandsOk (event (fun t => if b t then f t else t) s) :=
    event_demandsOk (fun hs => by split_ifs <;> [exact hf hs; exact hs]) h
  cases hc : orderOfInstr c with
  | some lo => exact ⟨_, exec_order (l := lo.1) (o := lo.2) hc s, arrive_demandsOk _ _ h⟩
  | none =>
    cases c <;> try (cases hc; done)
    all_goals refine ⟨_, rfl, ?_⟩
    case frameReceived l bytes => exact whileRunning_demandsOk (feedBytes_demandsOk l bytes) h
    case messageSent l => exact whileRunning_demandsOk (messageSent_demandsOk l) h
    case frameTimeLimit | gapTimeLimit | lineBreak | byteError =>
      exact whileRunning_demandsOk (demandsOk_of_seqs (by simp)) h
    case perforationPulse p =>
      refine event_demandsOk (fun hs => ?_) h
      split
      · exact perforation_demandsOk p _ hs
      · exact hs
    case cuePulse p => exact guarded (cuePulse_demandsOk p)
    case breakWindow p => exact event_demandsOk (breakNow_demandsOk p) h
    case coastLimit p => exact event_demandsOk (coastNow_demandsOk p) h
    case runupLimit p => exact guarded (runupReached_demandsOk p)
    case touchSample p v => exact guarded (touchSample_demandsOk p v)
    case drawEnd p v => exact guarded (drawEnd_demandsOk p v)
    case coolOffEnd p => exact guarded (beginAttempt_demandsOk p)
    case currentSample p v => exact guarded (litSample_demandsOk p v)
    case fireSourceInput i v => exact event_demandsOk (sourceFollows_demandsOk i v) h
    case gateFlameRise p =>
      refine event_demandsOk (fun hs => ?_) h
      split_ifs
      · exact hs
      · exact flameRise_demandsOk p hs
    case gateFlameFall p => exact guarded (flameFall_demandsOk p)
    case persistence p => exact guarded (fun hs => sourceRise_demandsOk _ hs)
    case upSwitchChange q v => exact event_demandsOk (upChange_demandsOk q v) h
    case firstScan i => exact guarded (firstScan_demandsOk i)
    case boothTimeAdvance =>
      split_ifs
      · exact advanceWithWaits_demandsOk h
      · exact h
    case sgoodFall vsb => exact sgoodFalls_demandsOk vsb h
    case sgoodRise vsb => exact sgoodRises_demandsOk vsb h
    case vsbLoss => exact vsbLost_demandsOk h
    case panelReset => exact resetRises_demandsOk h
    case resetFall => exact h
    case strikeLate p => exact event_demandsOk (demandsOk_of_seqs (lateStrike_seqs p s)) h
    case regulation p v => exact guarded (fun hs => hs)
    case leadPoint => exact guarded (fun hs => hs)
    -- the waits of the lamps and of the intervals
    all_goals exact guarded (demandsOk_of_demands (by simp))

/-! ## The obligation -/

/-- What an open dowser output says of the demand, the lamp, the shutters, the fire and the speed (R42, R144). -/
theorem dowserOpen_iff (s : State) (p : Proj) : dowserOpen s p = true ↔
    s.running = true ∧ (s.seq p.screen).demand.get p.side = .set ∧ (s.lamp p).st = .running ∧ gatePermission s p = true ∧
      s.fire.on = false ∧ s.fire.marks.get p.screen = false ∧ s.fire.up (portOf p) = true := by
  have lit : (s.lamp p).st = .running → (s.lamp p).lit = true := fun e => by simp [Lamp.lit, e]
  simp only [dowserOpen, gateShutter, Bool.and_eq_true, beq_iff_eq, Bool.not_eq_true']
  tauto

theorem gatePermission_iff (s : State) (p : Proj) : gatePermission s p = true ↔
    ∃ v, speedOf (s.chan p).ring = some v ∧ s.motionSettings.gateThreshold ≤ v := by
  unfold gatePermission
  cases speedOf (s.chan p).ring <;> simp

/-- Settles O32: the step lemma by cases on the front of the queue; the two dowsers of a screen would need both demands set. -/
theorem oneDowserAtMost : Obligations.OneDowserAtMost := by
  refine ⟨fun s t h e => ?_, fun s n h => ?_, fun s p opened => ?_⟩
  · unfold step at e
    split at e
    · cases e
      exact idle_demandsOk h
    · rename_i c rest _
      obtain ⟨u, hu, ok⟩ := exec_demandsOk c (s := { s with pending := rest }) h
      cases hu.symm.trans e
      exact ok
  · by_contra both
    rw [not_or, Bool.not_eq_false, Bool.not_eq_false, dowserOpen_iff, dowserOpen_iff] at both
    obtain ⟨⟨-, setA, -⟩, -, setB, -⟩ := both
    rcases h n with clear | clear
    · exact absurd (clear.symm.trans setA) (by decide)
    · exact absurd (clear.symm.trans setB) (by decide)
  · obtain ⟨-, -, lit, permitted, off, unmarked, up⟩ := (dowserOpen_iff s p).1 opened
    exact ⟨lit, up, off, unmarked, (gatePermission_iff s p).1 permitted⟩

end Sys2Proof.Machine

end

/-! # Proofs: the rules the show orders share

The reply of an order that passes, one screen's Sequencer after a record, a start or a show is put away, and what becomes of a
lamp that is being put out. -/

section

namespace Sys2Proof.Machine

/-! ## An order that passes -/

section

variable {c : Instr} {l : Line} {o : Order} {s : State} {k : Nat} {f : State → State} (h : orderOfInstr c = some (l, o))
  (hf : lineFree s l) (hn : ∀ i k, o ≠ .read i k) (hp : privileged l o = true) (hc : checkOrder l o s = none)
  (hk : o.kind = k) (acts : ∀ t, applyOrder l o t = f t)

include h hf hn hp hc hk acts

/-- An order that passes and is not to be answered ACCEPTED is answered DONE, and its block acts (R157, R158). -/
theorem ends_of_done (ha : acceptsOrder o s = false) : ends c s (f (reply l (.done k) s)) := by
  refine ends_of_passed h hf hn ?_ rfl (acts _)
  rw [← hk]
  refine judgeOrder_done ?_ ?_ hp hc ha
  · rintro k rfl
    cases hc
  · rintro k rfl
    cases hc

/-- An order that passes and is to be answered ACCEPTED (R157, R158). -/
theorem ends_of_accepted (ha : acceptsOrder o s = true) : ends c s (f (reply l (.accepted k) s)) := by
  refine ends_of_passed h hf hn ?_ rfl (acts _)
  unfold judgeOrder
  split
  · cases hc
  · cases hc
  · simp [hp, hc, ha, hk]

end

theorem ownOnly_screenNumber (n : Screen) : ownOnly (.screen n) (screenOf (screenNumber n)) = true := by
  simp [ownOnly, isLineOf]

theorem ownOrHouse_screenNumber {l : Line} {n : Screen} (h : l = .house ∨ l = .screen n) :
    ownOrHouse l (screenOf (screenNumber n)) = true := by
  obtain rfl | rfl := h <;> simp [ownOrHouse, ownOnly, isLineOf, isHouse]

theorem boothTime_of_base {s t : State} (h : t.still.base = s.still.base) : t.boothTime = s.boothTime :=
  (congrArg State.boothTime h :)

/-! ## The PROGRAM claims of an auditorium that is not CLOSED -/

theorem programTakes_of_open {n : Screen} {s : State} (h : (s.seq n).showState ≠ .closed) (k : Nat) :
    programTakes n k s = takesScene n (s.scene k) s := by
  have opened : isOpen s n = true := by simpa [isOpen] using h
  have opened' (v : Circuit) (c : Circ) : isOpen (s.setCirc c v) n = true := opened
  simp [programTakes, placeBoth, placeClaim, takesScene, modCirc_eq, Circuit.put, flooredTarget, opened']

/-! ## The Sequencer of a screen whose show is put away -/

/-- What the return of the record to NONE makes of a Sequencer (R65): the incoming projector, unless it is spared or the
record is SWITCHED, is IDLE with its motor off. -/
def Sequencer.dropped (q : Sequencer) (spare : Option Side) : Sequencer :=
  match q.changeover with
  | none => q
  | some r =>
    if r.st = .switched ∨ spare = some r.incoming then { q with changeover := none }
    else { q with changeover := none, motor := q.motor.set r.incoming false, roles := q.roles.set r.incoming .idle }

theorem recordToNoneSparing_seq (n : Screen) (spare : Option Side) (s : State) (m : Screen) :
    (recordToNoneSparing n spare s).seq m = if m = n then (s.seq n).dropped spare else s.seq m := by
  unfold recordToNoneSparing Sequencer.dropped
  by_cases hm : m = n
  · subst hm
    cases hr : (s.seq m).changeover with
    | none => simp
    | some r =>
      by_cases kept : r.st = .switched ∨ spare = some r.incoming <;> simp [kept, undoIncoming_seq]
  · cases hr : (s.seq n).changeover with
    | none => simp [hm]
    | some r =>
      by_cases kept : r.st = .switched ∨ spare = some r.incoming <;> simp [kept, undoIncoming_seq, hm]

/-- What a cancelled start leaves of a Sequencer (R44, R51). -/
def Sequencer.unstarted (q : Sequencer) : Sequencer := { q with startRec := none, reelPending := false, interval := none }

theorem cancelStart_seq (n : Screen) (s : State) (m : Screen) :
    (cancelStart n s).seq m = if m = n then (s.seq n).unstarted else s.seq m := by
  have withdrawn (p : Proj) (k : Screen) : (withdrawRequest p s).seq k = s.seq k := seq_of_seqs (by simp) k
  unfold cancelStart
  split <;> simp [withdrawn, Sequencer.unstarted]

theorem Pair.set_both {α : Type} (t : Pair α) (v : α) : (t.set .a v).set .b v = Pair.fill v := rfl

theorem Pair.fill_set {α : Type} (x : Side) (v : α) : (Pair.fill v).set x v = Pair.fill v := by cases x <;> rfl

/-- Both demands clear, sound MUTED, both motors off (R44, R51). -/
def Sequencer.dark (q : Sequencer) : Sequencer :=
  { q with demand := Pair.fill .clear, sound := .muted, motor := Pair.fill false }

theorem darkScreen_seq (n : Screen) (s : State) (m : Screen) :
    (darkScreen n s).seq m = if m = n then (s.seq n).dark else s.seq m := by
  unfold darkScreen setSound setDemand
  by_cases hm : m = n
  · subst hm
    simp [motorOff_seq, Pair.set_both, Sequencer.dark]
  · simp [motorOff_seq, hm]

/-- A Sequencer put away, by STOP's order of doing it or by CLOSE's: all but its pointer is at its reset value. -/
theorem Sequencer.putAway (q : Sequencer) (x : Show) :
    (q.dark.unstarted.dropped none).idled x = { Sequencer.reset with showState := x, pointer := q.pointer } ∧
      (q.unstarted.dropped none).dark.idled x = { Sequencer.reset with showState := x, pointer := q.pointer } := by
  cases hr : q.changeover with
  | none => simp [Sequencer.dark, Sequencer.unstarted, Sequencer.dropped, Sequencer.idled, Sequencer.reset, hr]
  | some r =>
    by_cases kept : r.st = .switched <;>
      simp [Sequencer.dark, Sequencer.unstarted, Sequencer.dropped, Sequencer.idled, Sequencer.reset, hr, kept, Pair.fill_set]

@[simp] theorem darkScreen_lamps (n : Screen) (s : State) : (darkScreen n s).lamps = s.lamps := by
  simp [darkScreen, setSound, setDemand]

/-! ## A lamp that is put out -/

/-- A lamp after a quench (R88): a lamp in use is QUENCHING, a QUEUED one DARK. -/
def Lamp.out (now : BoothTime) (l : Lamp) : Lamp :=
  match l.st with
  | .striking | .standby | .running => l.quenched now
  | .queued => { l with st := .dark, target := none }
  | .quenching | .dark | .fault => l

/-- A lamp after its request has left the queue (R78, R113). -/
def Lamp.withdrawn (l : Lamp) : Lamp :=
  match l.st with
  | .queued => { l with st := .dark, target := none }
  | _ => { l with target := none }

theorem Lamp.out_of_inUse {l : Lamp} (h : l.inUse = true) (now : BoothTime) : l.out now = l.quenched now := by
  unfold Lamp.inUse at h
  unfold Lamp.out
  cases e : l.st <;> simp_all

theorem Lamp.out_of_queued {l : Lamp} (h : l.st = .queued) (now : BoothTime) :
    l.out now = { l with st := .dark, target := none } := by
  simp [Lamp.out, h]

theorem withdrawRequest_lamp_of_ne {p q : Proj} (h : q ≠ p) (s : State) : (withdrawRequest p s).lamp q = s.lamp q := by
  unfold withdrawRequest withdrawEntry askExamine
  split
  · rfl
  · dsimp only
    split_ifs <;> simp [h, State.modBudget] <;> rfl

theorem withdrawRequest_lamp (p : Proj) (s : State) :
    (withdrawRequest p s).lamp p = s.lamp p ∨ (withdrawRequest p s).lamp p = (s.lamp p).withdrawn := by
  have entry : (withdrawEntry p s).lamp p = s.lamp p := by
    unfold withdrawEntry askExamine
    dsimp only
    split_ifs <;> rfl
  unfold withdrawRequest
  split
  · exact Or.inl rfl
  · right
    rw [lamp_modLamp, if_pos rfl, entry]
    rfl

theorem quenchLamp_lamp_of_ne {p q : Proj} (h : q ≠ p) (s : State) : (quenchLamp p s).lamp q = s.lamp q := by
  unfold quenchLamp askExamine
  split <;> simp [h, withdrawRequest_lamp_of_ne]

theorem quenchLamp_lamp (p : Proj) (s : State) : (quenchLamp p s).lamp p = (s.lamp p).out s.boothTime := by
  unfold quenchLamp askExamine
  cases e : (s.lamp p).st <;> simp [Lamp.out, e]
  obtain h | h := withdrawRequest_lamp p s <;> simp [h, Lamp.withdrawn, e]

end Sys2Proof.Machine

end

/-! # Proofs: OPEN, CLOSE and STOP (O25, O27) -/

section

namespace Sys2Proof.Machine

/-! ## A lamp on its way out -/

/-- However often its request is withdrawn and it is quenched, the lamp comes out as `v`. -/
def Lamp.leadsTo (l : Lamp) (now : BoothTime) (v : Lamp) : Prop :=
  l.out now = v ∧ ({ l with target := none } : Lamp).out now = v

theorem Lamp.out_out (l : Lamp) (now : BoothTime) : (l.out now).out now = l.out now := by
  cases st : l.st <;> simp [Lamp.out, st, Lamp.quenched]

theorem Lamp.out_untargeted (l : Lamp) (now : BoothTime) :
    ({ ({ l with target := none } : Lamp).out now with target := none } : Lamp) = ({ l with target := none } : Lamp).out now := by
  cases st : l.st <;> simp [Lamp.out, Lamp.quenched]

theorem Lamp.withdrawn_eq (l : Lamp) (now : BoothTime) : l.withdrawn = { l with target := none } ∨ l.withdrawn = l.out now := by
  cases st : l.st <;> simp [Lamp.out, st, Lamp.withdrawn]

/-- A lamp in use comes out QUENCHING. -/
theorem Lamp.leadsTo_of_inUse {l : Lamp} (h : l.inUse = true) (now : BoothTime) : l.leadsTo now (l.quenched now) :=
  ⟨Lamp.out_of_inUse h _, Lamp.out_of_inUse (l := { l with target := none }) h _⟩

/-- A QUEUED lamp comes out DARK. -/
theorem Lamp.leadsTo_of_queued {l : Lamp} (h : l.st = .queued) (now : BoothTime) :
    l.leadsTo now { l with st := .dark, target := none } :=
  ⟨Lamp.out_of_queued h _, Lamp.out_of_queued (l := { l with target := none }) h _⟩

/-- A lamp that is out stays so. -/
theorem Lamp.leadsTo_out {l v : Lamp} {now : BoothTime} (h : l.leadsTo now v) : (l.out now).leadsTo now v := by
  obtain ⟨e, clear⟩ := h
  have still : v.out now = v := by rw [← e, Lamp.out_out]
  have untargeted : ({ v with target := none } : Lamp) = v := by rw [← clear, Lamp.out_untargeted]
  rw [e]
  exact ⟨still, by rw [untargeted, still]⟩

theorem Lamp.leadsTo_withdrawn {l v : Lamp} {now : BoothTime} (h : l.leadsTo now v) : l.withdrawn.leadsTo now v := by
  obtain e | e := l.withdrawn_eq now
  · rw [e]
    exact ⟨h.2, h.2⟩
  · rw [e]
    exact Lamp.leadsTo_out h

/-- The lamp of `p`, on its way to `v`, as the operations of one event find it. -/
def leadsOut (v : Lamp) (p : Proj) (s : State) : Prop := (s.lamp p).leadsTo s.boothTime v

theorem leadsOut_of_lamps {v : Lamp} {p : Proj} {s t : State} (hl : t.lamps = s.lamps) (hb : t.still.base = s.still.base)
    (h : leadsOut v p s) : leadsOut v p t := by
  unfold leadsOut
  rw [lamp_of_lamps hl, boothTime_of_base hb]
  exact h

theorem withdrawRequest_leadsOut {v : Lamp} {p : Proj} {s : State} (q : Proj) (h : leadsOut v p s) :
    leadsOut v p (withdrawRequest q s) := by
  have time : (withdrawRequest q s).boothTime = s.boothTime := boothTime_of_base (by simp)
  unfold leadsOut
  rw [time]
  by_cases hq : p = q
  · subst hq
    obtain e | e := withdrawRequest_lamp p s <;> rw [e]
    · exact h
    · exact Lamp.leadsTo_withdrawn h
  · rw [withdrawRequest_lamp_of_ne hq]
    exact h

theorem quenchLamp_leadsOut {v : Lamp} {p : Proj} {s : State} (q : Proj) (h : leadsOut v p s) :
    leadsOut v p (quenchLamp q s) := by
  have time : (quenchLamp q s).boothTime = s.boothTime := boothTime_of_base (by simp)
  unfold leadsOut
  rw [time]
  by_cases hq : p = q
  · subst hq
    rw [quenchLamp_lamp]
    exact Lamp.leadsTo_out h
  · rw [quenchLamp_lamp_of_ne hq]
    exact h

/-! ## What every part of a screen's putting away keeps -/

section

variable {P : State → Prop} {n : Screen}
  (same : ∀ s t : State, t.lamps = s.lamps → t.still.base = s.still.base → P s → P t)
  (withdraws : ∀ x s, P s → P (withdrawRequest ⟨n, x⟩ s)) (quenches : ∀ x s, P s → P (quenchLamp ⟨n, x⟩ s))

include same withdraws quenches

theorem recordToNone_lamps_keep {s : State} (h : P s) : P (recordToNone n s) := by
  refine recordToNone_keeps n h (fun x => ?_) (fun t ht => same t _ (modSeq_lamps _ _ _) (modSeq_base _ _ _) ht)
  have quenched : P (quenchLamp ⟨n, x⟩ (withdrawRequest ⟨n, x⟩ s)) := quenches x _ (withdraws x s h)
  exact same _ _ (by simp [undoIncoming, setRole]) (by simp [undoIncoming]) quenched

omit quenches in
theorem cancelStart_lamps_keep {s : State} (h : P s) : P (cancelStart n s) := by
  unfold cancelStart
  dsimp only
  split
  · exact same _ _ (modSeq_lamps _ _ _) (modSeq_base _ _ _) (withdraws _ s h)
  · exact same _ _ (modSeq_lamps _ _ _) (modSeq_base _ _ _) h

end

/-! ## STOP (R51) -/

@[simp] theorem notifyStopped_lamps (l : Line) (n : Screen) (s : State) : (notifyStopped l n s).lamps = s.lamps := by
  unfold notifyStopped
  split_ifs <;> rfl

@[simp] theorem notifyStopped_seqs (l : Line) (n : Screen) (s : State) : (notifyStopped l n s).seqs = s.seqs := by
  unfold notifyStopped
  split_ifs <;> rfl

theorem notifyStopped_circ (l : Line) (n : Screen) (s : State) (c : Circ) : (notifyStopped l n s).circ c = s.circ c := by
  unfold notifyStopped
  split_ifs <;> rfl

@[simp] theorem programTakes_lamps (n : Screen) (k : Nat) (s : State) : (programTakes n k s).lamps = s.lamps := rfl

/-- The screen as STOP has it before the lamps are quenched. -/
def stopUndone (n : Screen) (s : State) : State := recordToNone n (cancelStart n (darkScreen n s))

theorem stopShow_lamp (l : Line) (n : Screen) (s : State) (p : Proj) :
    (stopShow l n s).lamp p = (quenchLamp ⟨n, .b⟩ (quenchLamp ⟨n, .a⟩ (stopUndone n s))).lamp p :=
  lamp_of_lamps (by simp [stopShow, stopUndone]) p

theorem stopShow_lamp_out {l : Line} {n : Screen} {s : State} {x : Side} {v : Lamp} (h : leadsOut v ⟨n, x⟩ s) :
    (stopShow l n s).lamp ⟨n, x⟩ = v := by
  have dark : leadsOut v ⟨n, x⟩ (darkScreen n s) := leadsOut_of_lamps (darkScreen_lamps n s) (by simp) h
  have led : leadsOut v ⟨n, x⟩ (stopUndone n s) :=
    recordToNone_lamps_keep (fun _ _ => leadsOut_of_lamps) (fun y _ => withdrawRequest_leadsOut ⟨n, y⟩)
      (fun y _ => quenchLamp_leadsOut ⟨n, y⟩)
      (cancelStart_lamps_keep (fun _ _ => leadsOut_of_lamps) (fun y _ => withdrawRequest_leadsOut ⟨n, y⟩) dark)
  rw [stopShow_lamp]
  cases x with
  | a => rw [quenchLamp_lamp_of_ne (by simp), quenchLamp_lamp, led.1]
  | b => rw [quenchLamp_lamp, (quenchLamp_leadsOut ⟨n, .a⟩ led).1]

theorem stopShow_lamp_of_ne {l : Line} {n : Screen} {s : State} {p : Proj} (h : p.screen ≠ n) :
    (stopShow l n s).lamp p = s.lamp p := by
  have ne (x : Side) : p ≠ ⟨n, x⟩ := fun e => h (congrArg Proj.screen e)
  have kept : (stopUndone n s).lamp p = s.lamp p :=
    recordToNone_lamps_keep (P := fun t => t.lamp p = s.lamp p) (fun _ _ hl _ => (lamp_of_lamps hl p).trans)
      (fun y t => (withdrawRequest_lamp_of_ne (ne y) t).trans) (fun y t => (quenchLamp_lamp_of_ne (ne y) t).trans)
      (cancelStart_lamps_keep (P := fun t => t.lamp p = s.lamp p) (fun _ _ hl _ => (lamp_of_lamps hl p).trans)
        (fun y t => (withdrawRequest_lamp_of_ne (ne y) t).trans) (lamp_of_lamps (darkScreen_lamps n s) p))
  rw [stopShow_lamp, quenchLamp_lamp_of_ne (ne .b), quenchLamp_lamp_of_ne (ne .a), kept]

theorem stopUndone_seq (n : Screen) (s : State) (m : Screen) :
    (stopUndone n s).seq m = if m = n then (s.seq n).dark.unstarted.dropped none else s.seq m := by
  unfold stopUndone recordToNone
  by_cases hm : m = n <;> simp [recordToNoneSparing_seq, cancelStart_seq, darkScreen_seq, hm]

/-- The Sequencers after a STOP. -/
theorem stopShow_seq (l : Line) (n : Screen) (s : State) (m : Screen) : (stopShow l n s).seq m =
    if m = n then { Sequencer.reset with showState := .ended, pointer := (s.seq n).pointer } else s.seq m := by
  have quenched (k : Screen) : (quenchLamp ⟨n, .b⟩ (quenchLamp ⟨n, .a⟩ (stopUndone n s))).seq k = (stopUndone n s).seq k :=
    seq_of_seqs (by simp) k
  have shown : (stopShow l n s).seq m =
      ((quenchLamp ⟨n, .b⟩ (quenchLamp ⟨n, .a⟩ (stopUndone n s))).modSeq n (fun q => q.idled .ended)).seq m :=
    seq_of_seqs (by simp [stopShow, stopUndone]) m
  rw [shown, seq_modSeq, quenched, quenched, stopUndone_seq, stopUndone_seq, if_pos rfl, ((s.seq n).putAway .ended).1]
  split_ifs <;> rfl

/-- The lights after a STOP: scene END (R40, R51). -/
theorem stopShow_program (l : Line) (n : Screen) (s : State) :
    ((stopShow l n s).circ ⟨n, .house⟩).program = some ⟨(s.scene 5).house, .time (s.scene 5).fade, true⟩ ∧
      ((stopShow l n s).circ ⟨n, .aisle⟩).program =
        some ⟨max (s.scene 5).aisle s.floor, .time (s.scene 5).fade, true⟩ := by
  have lit (t : State) (ht : (t.seq n).showState ≠ .closed) (e : t.still.base = s.still.base) :
      ((notifyStopped l n (programTakes n 5 t)).circ ⟨n, .house⟩).program =
          some ⟨(s.scene 5).house, .time (s.scene 5).fade, true⟩ ∧
        ((notifyStopped l n (programTakes n 5 t)).circ ⟨n, .aisle⟩).program =
          some ⟨max (s.scene 5).aisle s.floor, .time (s.scene 5).fade, true⟩ := by
    have scene : t.scene 5 = s.scene 5 := (congrArg (fun b => State.scene b 5) e :)
    have floor : t.floor = s.floor := (congrArg State.floor e :)
    rw [notifyStopped_circ, notifyStopped_circ, programTakes_of_open ht, scene, ← floor]
    simp [takesScene]
  refine lit _ ?_ (by simp)
  simp [Sequencer.idled]

/-- Settles O27: the Sequencer is put away, both lamps are led out whatever was undone before, scene END governs. -/
theorem stopEndsTheShow : Obligations.StopEndsTheShow := by
  intro l n s hf hl hs
  have check : checkOrder l (.stop (screenNumber n)) s = none := by simp [checkOrder, checkStop, hs]
  have stopped : ends (.stop l (screenNumber n)) s (stopShow l n (reply l (.done 0x0A) s)) :=
    ends_of_done rfl hf (by simp) (ownOrHouse_screenNumber hl) check rfl (fun t => by simp [applyOrder, applyStop]) rfl
  obtain ⟨house, aisle⟩ := stopShow_program l n (reply l (.done 0x0A) s)
  refine ⟨_, stopped, ?_, fun x => ⟨fun used => ?_, fun queued => ?_⟩, house, aisle, fun m hm => ?_, fun p hp => ?_, ?_⟩
  · rw [stopShow_seq, if_pos rfl]
    rfl
  · exact stopShow_lamp_out (Lamp.leadsTo_of_inUse used _)
  · exact stopShow_lamp_out (Lamp.leadsTo_of_queued queued _)
  · rw [stopShow_seq, if_neg hm]
    rfl
  · exact stopShow_lamp_of_ne hp
  · exact (stopShow_base _ _ _).trans (base_reply _ _ _)

/-! ## OPEN (R43) -/

theorem openShow_eq (n : Screen) (s : State) : openShow n s =
    takesScene n (s.scene 1) (s.setSeq n { s.seq n with pointer := 1, showState := .ready }) := by
  unfold openShow
  rw [programTakes_of_open (by simp)]
  rfl

theorem ends_open {n : Screen} {s : State} (hf : lineFree s (.screen n)) (fire : s.fire.on = false)
    (closed : (s.seq n).showState = .closed) (program : s.programs.get n ≠ []) :
    ends (.openScreen (.screen n) (screenNumber n)) s (openShow n (reply (.screen n) (.done 0x08) s)) := by
  have check : checkOrder (.screen n) (.openScreen (screenNumber n)) s = none := by
    simp [checkOrder, checkOpen, fire, closed, program]
  exact ends_of_done rfl hf (by simp) (ownOnly_screenNumber n) check rfl (fun t => by simp [applyOrder, applyOpen]) rfl

/-! ## CLOSE (R44) -/

/-- The claims of a circuit that CLOSE takes away. -/
abbrev Circuit.unclaimed (c : Circuit) : Prop := c.fault = none ∧ c.program = none

theorem startFade_unclaimed {s : State} (c d : Circ) (h : (s.circ d).unclaimed) : ((startFade c s).circ d).unclaimed := by
  unfold startFade
  dsimp only
  split <;> (rw [circ_modCirc]; split_ifs with e <;> [exact e ▸ h; exact h])

theorem judgeCircuit_unclaimed {s : State} (c d : Circ) (h : (s.circ d).unclaimed) :
    ((judgeCircuit c s).circ d).unclaimed := by
  have settled {t : State} (ht : (t.circ d).unclaimed) : ((t.modCirc c Circuit.settled).circ d).unclaimed := by
    rw [circ_modCirc]
    split_ifs with e
    · obtain ⟨fault, program⟩ := e ▸ ht
      exact ⟨by simp [Circuit.settled, fault], by simp [Circuit.settled, program]⟩
    · exact ht
  unfold judgeCircuit
  split_ifs
  · exact settled (startFade_unclaimed c d h)
  · exact settled h

theorem judgeLights_unclaimed {s : State} (d : Circ) (h : (s.circ d).unclaimed) : ((judgeLights s).circ d).unclaimed :=
  forEach_keeps _ _ (fun t => (t.circ d).unclaimed) (fun c _ ht => judgeCircuit_unclaimed c d ht) h

theorem removeClaims_unclaimed (n : Screen) (k : CircKind) (s : State) :
    ((removeClaims n .fault (removeClaims n .program s)).circ ⟨n, k⟩).unclaimed := by
  cases k <;> simp [removeClaims, Circuit.put]

theorem closeShow_unclaimed (n : Screen) (k : CircKind) (s : State) : ((closeShow n s).circ ⟨n, k⟩).unclaimed := by
  unfold closeShow
  dsimp only
  rw [modSeq_circ]
  exact judgeLights_unclaimed _ (removeClaims_unclaimed n k _)

/-- The Sequencers after a CLOSE. -/
theorem closeShow_seq (n : Screen) (s : State) (m : Screen) : (closeShow n s).seq m =
    if m = n then { Sequencer.reset with pointer := (s.seq n).pointer } else s.seq m := by
  have judged (t : State) (k : Screen) : (judgeLights (removeClaims n .fault (removeClaims n .program t))).seq k = t.seq k :=
    seq_of_seqs (by simp) k
  unfold closeShow recordToNone
  dsimp only
  rw [seq_modSeq, judged, judged, darkScreen_seq, darkScreen_seq, recordToNoneSparing_seq, recordToNoneSparing_seq,
    cancelStart_seq, cancelStart_seq, if_pos rfl, if_pos rfl, if_pos rfl, ((s.seq n).putAway .closed).2]
  split_ifs <;> rfl

theorem ends_close {n : Screen} {s : State} (hf : lineFree s (.screen n))
    (hs : (s.seq n).showState = .ready ∨ (s.seq n).showState = .ended ∨ (s.seq n).showState = .halted)
    (a : (s.lamp ⟨n, .a⟩).inUse = false) (b : (s.lamp ⟨n, .b⟩).inUse = false) :
    ends (.close (.screen n) (screenNumber n)) s (closeShow n (reply (.screen n) (.done 0x0B) s)) := by
  have check : checkOrder (.screen n) (.close (screenNumber n)) s = none := by
    obtain h | h | h := hs <;> simp [checkOrder, checkClose, h, a, b]
  exact ends_of_done rfl hf (by simp) (ownOnly_screenNumber n) check rfl (fun t => by simp [applyOrder, applyClose]) rfl

/-- Settles O25, by the rule of each of the two orders: OPEN is one write of the Sequencer and a scene; after CLOSE the
Sequencer is put away and the circuits have lost their claims. -/
theorem openAndClose : Obligations.OpenAndClose := by
  intro n s hf
  refine ⟨fun fire closed program => ?_, fun hs a b => ?_⟩
  · have opened := ends_open hf fire closed program
    rw [openShow_eq] at opened
    exact opened
  · refine ⟨_, ends_close hf hs a b, ?_, fun k => closeShow_unclaimed n k _, fun m hm => ?_, ?_⟩
    · rw [closeShow_seq, if_pos rfl]
      rfl
    · rw [closeShow_seq, if_neg hm]
      rfl
    · exact (closeShow_base _ _).trans (base_reply _ _ _)

end Sys2Proof.Machine

end

/-! # Proofs: START (O26) -/

section

namespace Sys2Proof.Machine

/-! ## Two writes of one Sequencer -/

theorem Quad.set_set {α : Type} (t : Quad α) (n : Screen) (v w : α) : (t.set n v).set n w = t.set n w := by cases n <;> rfl

theorem setSeq_setSeq (s : State) (n : Screen) (v w : Sequencer) : (s.setSeq n v).setSeq n w = s.setSeq n w := by
  simp [State.setSeq, Quad.set_set]

/-! ## A lamp asked to burn at running current, by its state (R46, R78, R85) -/

theorem askRunning_of_lit {p : Proj} {s : State} (h : (s.lamp p).st = .standby ∨ (s.lamp p).st = .running) :
    askRunning p s = s.setLamp p { s.lamp p with st := .running, quenchDue := none } := by
  obtain h | h := h <;> simp [askRunning, setRunning, h, modLamp_eq]

theorem askRunning_of_striking {p : Proj} {s : State} (h : (s.lamp p).st = .striking) :
    askRunning p s = s.setLamp p { s.lamp p with target := some .running } := by
  simp [askRunning, setRunning, h, modLamp_eq]

/-- A DARK lamp above its margin and with no entry is QUEUED, with a new entry 60 s from now. -/
theorem askRunning_of_dark {p : Proj} {s : State} (h : (s.lamp p).st = .dark) (carbon : (s.lamp p).stubMark = false)
    (fire : s.fire.on = false) (entry : entryOf s p = none) :
    askRunning p s =
      { s.setLamp p { s.lamp p with st := .queued, target := some .running } with
        budget := { s.budget with
          queue := insertEntry ⟨p, after s.boothTime 600, s.budget.nextSeq, false, false⟩ s.budget.queue,
          nextSeq := s.budget.nextSeq + 1, examine := true } } := by
  have entry' (v : Lamp) : entryOf (s.setLamp p v) p = none := entry
  simp [askRunning, raiseRequest, requestDropped, strikeRequest, budgetRequest, h, carbon, fire, entry', modLamp_eq]
  rfl

/-! ## A start sequence begins (R46) -/

@[simp] theorem takesScene_lamp (n : Screen) (x : Scene) (s : State) (p : Proj) : (takesScene n x s).lamp p = s.lamp p := rfl
@[simp] theorem takesScene_fire (n : Screen) (x : Scene) (s : State) : (takesScene n x s).fire = s.fire := rfl
@[simp] theorem takesScene_budget (n : Screen) (x : Scene) (s : State) : (takesScene n x s).budget = s.budget := rfl
@[simp] theorem takesScene_boothTime (n : Screen) (x : Scene) (s : State) : (takesScene n x s).boothTime = s.boothTime := rfl
@[simp] theorem takesScene_seqs (n : Screen) (x : Scene) (s : State) : (takesScene n x s).seqs = s.seqs := rfl
@[simp] theorem boothTime_reply (l : Line) (r : Reply) (s : State) : (reply l r s).boothTime = s.boothTime := rfl

theorem commit_of_ctx {p : Proj} {s : State} {c : Context} (h : s.ctx p = some c) :
    commit p s = s.setCtx p (some { c with committed := true }) := by
  simp [commit, h]

theorem beginRecord_eq {p : Proj} {s : State} {c : Context} (k : StartKind) (h : s.ctx p = some c) :
    beginRecord p k s =
      (s.setSeq p.screen
        { s.seq p.screen with
          startRec := some ⟨p.side, k, .strikeWait, false⟩, roles := (s.seq p.screen).roles.set p.side .starting }).setCtx p
        (some { c with committed := true }) := by
  unfold beginRecord setRole
  rw [modSeq_eq, modSeq_eq, setSeq_setSeq, seq_setSeq, if_pos rfl]
  exact commit_of_ctx h

/-- The Sequencer of a screen whose start sequence has begun: from an INTERVAL the interval ends and the pointer moves on. -/
abbrev Sequencer.startBegun (q : Sequencer) (x : Side) (k : StartKind) : Sequencer :=
  { q with
    startRec := some ⟨x, k, .strikeWait, false⟩, roles := q.roles.set x .starting,
    pointer := if q.showState = .interval then q.pointer + 1 else q.pointer,
    interval := if q.showState = .interval then none else q.interval,
    reelPending := if q.showState = .interval then false else q.reelPending }

theorem beginStart_eq {n : Screen} {x : Side} {s : State} {c : Context} (k : StartKind) (h : s.ctx ⟨n, x⟩ = some c)
    (opened : (s.seq n).showState ≠ .closed) :
    beginStart ⟨n, x⟩ k s = askRunning ⟨n, x⟩ (takesScene n (s.scene 2)
      ((s.setSeq n ((s.seq n).startBegun x k)).setCtx ⟨n, x⟩ (some { c with committed := true }))) := by
  unfold beginStart
  dsimp only
  congr 1
  by_cases hi : (s.seq n).showState = .interval
  · rw [if_pos hi, modSeq_eq, beginRecord_eq (c := c) k (by exact h), programTakes_of_open (by simp [hi]), setSeq_setSeq, seq_setSeq,
      if_pos rfl, Sequencer.startBegun]
    simp only [hi, if_true]
    rfl
  · rw [if_neg hi, beginRecord_eq (c := c) k h, programTakes_of_open (by simpa using opened), Sequencer.startBegun]
    simp only [hi, if_false]
    rfl

/-- The projector that holds the slot, where the other one does not (R45, R49). -/
theorem reelSide_of_holder {n : Screen} {x : Side} {s : State} {k : Nat} {c : Context} (h : s.ctx ⟨n, x⟩ = some c)
    (slot : c.slot = k) (frames : (s.chan ⟨n, x⟩).frames < c.reel.lastPicture)
    (other : ∀ c', s.ctx ⟨n, x.other⟩ = some c' → c'.slot ≠ k) : reelSide s n k = some x := by
  unfold reelSide
  cases x with
  | a => simp [Side.all, h, slot, frames]
  | b =>
    cases ha : s.ctx ⟨n, .a⟩ with
    | none => simp [Side.all, List.find?, ha, h, slot, frames]
    | some c' => simp [Side.all, List.find?, ha, other c' ha, h, slot, frames]

theorem stubMark_eq_false {l : Lamp} (h : l.settings.margin < l.carbon) : l.stubMark = false := by
  simpa [Lamp.stubMark] using h

/-! ## START (R45) -/

/-- The projector a START names when its lamp is fit. -/
theorem startSide_eq {n : Screen} {x : Side} {s : State} {k : Nat} (item : reelItem s n = some k)
    (side : reelSide s n k = some x) (fault : (s.lamp ⟨n, x⟩).st ≠ .fault)
    (carbon : (s.lamp ⟨n, x⟩).st = .dark → (s.lamp ⟨n, x⟩).stubMark = false) : startSide s n = .ok x := by
  unfold startSide
  simp only [item, Option.bind_some, side]
  cases st : (s.lamp ⟨n, x⟩).st with
  | fault => exact absurd st fault
  | dark => simp [carbon st]
  | queued | striking | standby | running | quenching => rfl

theorem ends_start {n : Screen} {x : Side} {s : State} (hf : lineFree s (.screen n)) (fire : s.fire.on = false)
    (may : mayStart (s.seq n) = true) (side : startSide s n = .ok x) :
    ends (.start (.screen n) (screenNumber n)) s (beginStart ⟨n, x⟩ .start (reply (.screen n) (.accepted 0x09) s)) := by
  have check : checkOrder (.screen n) (.start (screenNumber n)) s = none := by
    simp [checkOrder, checkStart, fire, may, side]
  have acts (t : State) (ht : startSide t n = .ok x) :
      applyOrder (.screen n) (.start (screenNumber n)) t = beginStart ⟨n, x⟩ .start t := by
    simp [applyOrder, applyStart, ht]
  rw [← acts (reply (.screen n) (.accepted 0x09) s) side]
  exact ends_of_accepted rfl hf (by simp) (ownOnly_screenNumber n) check rfl (fun _ => rfl) rfl

/-- Settles O26: START's checks pass and name the projector, what begins is one write of the Sequencer, the context and the
scene, and the lamp is asked by its state. -/
theorem startBeginsTheStart : Obligations.StartBeginsTheStart := by
  intro n x k c s hf fire hs start item ctx slot frames other fault carbon
  have opened : (s.seq n).showState ≠ .closed := by obtain h | h := hs <;> simp [h]
  have may : mayStart (s.seq n) = true := by obtain h | h := hs <;> simp [mayStart, h, start]
  have reel : reelItem s n = some k := by
    unfold reelItem
    dsimp only
    rw [item]
  have side := startSide_eq reel (reelSide_of_holder ctx slot frames other) fault (fun dark => stubMark_eq_false (carbon dark))
  intro q q' v
  have lamp : v.lamp ⟨n, x⟩ = s.lamp ⟨n, x⟩ := by simp [v]
  have onFire : v.fire.on = false := by simpa [v] using fire
  have budget : v.budget = s.budget := by simp [v]
  have time : v.boothTime = s.boothTime := by simp [v]
  have begun : ends (.start (.screen n) (screenNumber n)) s (askRunning ⟨n, x⟩ v) := by
    have e := beginStart_eq (s := reply (.screen n) (.accepted 0x09) s) .start ctx opened
    exact e ▸ ends_start hf fire may side
  refine ⟨begun, fun lit => ?_, fun striking => ?_, fun dark entry => ?_⟩
  · rw [askRunning_of_lit (by rwa [lamp]), lamp]
  · rw [askRunning_of_striking (by rwa [lamp]), lamp]
  · have noEntry : entryOf v ⟨n, x⟩ = none := by rwa [entryOf, budget]
    rw [askRunning_of_dark (by rwa [lamp]) (by rw [lamp]; exact stubMark_eq_false (carbon dark)) onFire noEntry, lamp, budget,
      time]

end Sys2Proof.Machine

end

/-! # Proofs: the end of an interval (O30) -/

section

namespace Sys2Proof.Machine

/-! ## A fit lamp is asked without a word to the Sequencer -/

theorem requestDropped_eq (l : Lamp) : requestDropped l = lampUnfit l := by
  unfold requestDropped lampUnfit
  cases l.st <;> rfl

theorem askRunning_seqs_of_fit {p : Proj} {s : State} (h : lampUnfit (s.lamp p) = false) :
    (askRunning p s).seqs = s.seqs := by
  unfold askRunning raiseRequest
  rw [requestDropped_eq, h]
  split <;> simp

/-- What begins a start sequence leaves the Sequencer of the screen as R46 sets it. -/
theorem beginStart_seq {n : Screen} {x : Side} {s : State} {c : Context} (k : StartKind) (h : s.ctx ⟨n, x⟩ = some c)
    (opened : (s.seq n).showState ≠ .closed) (fit : lampUnfit (s.lamp ⟨n, x⟩) = false) :
    (beginStart ⟨n, x⟩ k s).seq n = (s.seq n).startBegun x k := by
  rw [beginStart_eq k h opened, seq_of_seqs (askRunning_seqs_of_fit (by simpa using fit)), seq_of_seqs (takesScene_seqs _ _ _)]
  simp

/-- The projector found to hold the reel has a context. -/
theorem ctx_of_reelSide {n : Screen} {x : Side} {s : State} {k : Nat} (h : reelSide s n k = some x) :
    ∃ c, s.ctx ⟨n, x⟩ = some c := by
  have found := List.find?_some h
  cases hc : s.ctx ⟨n, x⟩ with
  | none => simp [hc] at found
  | some c => exact ⟨c, rfl⟩

/-! ## The expiry -/

section

variable {n : Screen} {k : Nat} {s : State} (item : reelItem s n = some k)

include item

theorem expireInterval_of_no_side (side : reelSide s n k = none) : expireInterval n s =
    notifyScreen n (.reelNotThreaded n) (s.setSeq n { s.seq n with reelPending := true }) := by
  simp [expireInterval, readyToStart, item, side, modSeq_eq]

theorem expireInterval_of_unfit {x : Side} (side : reelSide s n k = some x) (unfit : lampUnfit (s.lamp ⟨n, x⟩) = true) :
    expireInterval n s = notifyScreen n (.lampUnavailable n) (s.setSeq n { s.seq n with reelPending := true }) := by
  simp [expireInterval, readyToStart, item, side, unfit, modSeq_eq]

theorem expireInterval_of_fit {x : Side} (side : reelSide s n k = some x) (fit : lampUnfit (s.lamp ⟨n, x⟩) = false) :
    expireInterval n s = beginStart ⟨n, x⟩ .interval s := by
  simp [expireInterval, readyToStart, item, side, fit]

end

theorem ends_intervalExpiry {n : Screen} {s : State} (hr : s.running = true) (due : intervalDue s n = true) :
    ends (.intervalExpiry n) s (expireInterval n s) := by
  have e := ends_of_event (c := .intervalExpiry n) (s := s) rfl hr
  rwa [if_pos due] at e

/-- Settles O30: the expiry is taken as its event, and what it does turns on the projector found and on its lamp. -/
theorem intervalExpiryStartsTheReel : Obligations.IntervalExpiryStartsTheReel := by
  intro n k s hr shown ended pending start item
  have due : intervalDue s n = true := by simp [intervalDue, shown, ended, pending, start]
  have reel : reelItem s n = some k := by simp [reelItem, shown, item]
  have expires := ends_intervalExpiry hr due
  refine ⟨fun side => ?_, fun x side => ⟨fun unfit => ?_, fun fit => ⟨_, expires, ?_⟩⟩⟩
  · rwa [expireInterval_of_no_side reel side] at expires
  · rwa [expireInterval_of_unfit reel side unfit] at expires
  · obtain ⟨c, ctx⟩ := ctx_of_reelSide side
    rw [expireInterval_of_fit reel side fit, beginStart_seq .interval ctx (by simp [shown]) fit]
    simp [Sequencer.role, Pair.get_set, shown]

end Sys2Proof.Machine

end

/-! # Proofs: REHANG and the up switches (O54) -/

section

namespace Sys2Proof.Machine

/-! ## REHANG (R149) -/

theorem applyRehang_eq (n : Screen) (s : State) : applyRehang (screenNumber n) s =
    ({ s with
        fire := { s.fire with holds := s.fire.holds.set n (Trio.fill true), marks := s.fire.marks.set n false } }.setCirc
      ⟨n, .house⟩ { s.circ ⟨n, .house⟩ with fireLocal := false }).setCirc
      ⟨n, .aisle⟩ { s.circ ⟨n, .aisle⟩ with fireLocal := false } := by
  simp [applyRehang, setLocalHolder, modCirc_eq, FireUnit.rehung, FireUnit.setHolds, State.modFire]
  rfl

theorem ends_rehang {l : Line} {n : Screen} {s : State} (hf : lineFree s l) (hl : l = .house ∨ l = .screen n)
    (fire : s.fire.on = false) (a : s.fire.flame ⟨n, .a⟩ = false) (b : s.fire.flame ⟨n, .b⟩ = false) :
    ends (.rehang l (screenNumber n)) s (applyRehang (screenNumber n) (reply l (.done 0x1D) s)) := by
  have check : checkOrder l (.rehang (screenNumber n)) s = none := by simp [checkOrder, checkRehang, screenFlame, fire, a, b]
  exact ends_of_done rfl hf (by simp) (ownOrHouse_screenNumber hl) check rfl (fun _ => rfl) rfl

/-! ## Up switches (R148) -/

theorem projOfPort_portOf (p : Proj) : projOfPort (portOf p) = some p := by
  obtain ⟨n, x⟩ := p
  cases x <;> rfl

theorem portOf_of_projOfPort {p : Proj} {q : Port} (h : projOfPort q = some p) : portOf p = q := by
  obtain ⟨n, k⟩ := q
  cases k <;> simp [projOfPort] at h <;> subst h <;> rfl

theorem activeOpen_iff (s : State) (p : Proj) :
    activeOpen s p = true ↔ (s.seq p.screen).role p.side = .active ∧ dowserOpen s p = true := by
  simp [activeOpen]

section

variable {q : Port} {v : Bool} {s : State} (changes : s.fire.up q ≠ v)

include changes

/-- A switch that rises, or falls with its hold released, is taken and nothing more. -/
theorem upChange_of_quiet (h : v = true ∨ s.fire.hold q = false) :
    upChange q v s = { s with fire := s.fire.setUp q v } := by
  obtain h | h := h <;> simp [upChange, changes, h, State.modFire]
  simp [← h, changes]

theorem upChange_of_drop (falls : v = false) (hold : s.fire.hold q = true) :
    upChange q v s = portDrops q s { s with fire := s.fire.setUp q v } := by
  simp [upChange, falls, hold, State.modFire]
  simp [← falls, changes]

end

/-- The drop of a port whose projector is not ACTIVE is told, and halts nothing. -/
theorem portDrops_of_inactive {q : Port} {s : State} (h : ∀ p, portOf p = q → (s.seq p.screen).role p.side ≠ .active)
    (t : State) : portDrops q s t = notifyScreenAndHouse q.screen (.portDown q) t := by
  unfold portDrops
  cases hp : projOfPort q with
  | none => rfl
  | some p =>
    have inactive : activeOpen s p = false := by simp [activeOpen, h p (portOf_of_projOfPort hp)]
    simp [inactive]

theorem portDrops_of_active {p : Proj} {s : State} (active : (s.seq p.screen).role p.side = .active)
    (opened : dowserOpen s p = true) (t : State) : portDrops (portOf p) s t =
      haltFilm .portDown p (notifyScreenAndHouse p.screen (.portDown (portOf p)) t) := by
  simp [portDrops, projOfPort_portOf, (activeOpen_iff s p).2 ⟨active, opened⟩]
  rfl

/-- Settles O54: REHANG is two writes; a switch is taken by its branch, and the halt of an ACTIVE projector is that of a
film. -/
theorem rehangAndUpSwitches : Obligations.RehangAndUpSwitches := by
  refine ⟨fun s l n hf hl fire a b => ?_, fun s q v hr changes => ?_⟩
  · have rehung := ends_rehang hf hl fire a b
    rwa [applyRehang_eq] at rehung
  · have taken : ends (.upSwitchChange q v) s (upChange q v s) := ends_of_event rfl hr
    refine ⟨fun quiet => ?_, fun falls hold inactive => ?_, fun falls hold p port active opened shows => ?_⟩
    · rwa [upChange_of_quiet changes quiet] at taken
    · rw [upChange_of_drop changes falls hold, portDrops_of_inactive inactive] at taken
      exact taken
    · subst port
      rw [upChange_of_drop changes falls hold, portDrops_of_active active opened] at taken
      refine ⟨_, taken, ?_⟩
      have halted (t : State) (ht : (t.seq p.screen).showState = .showing) :
          ((haltFilm .portDown p t).seq p.screen).showState = .halted ∧
            ((haltFilm .portDown p t).seq p.screen).haltReason = some .portDown ∧
            motorIsOn (haltFilm .portDown p t) p = false ∧ ((haltFilm .portDown p t).lamp p).inUse = false := by
        obtain ⟨off, shown, out⟩ := haltFilm_halted (r := .portDown) (p := p) (s := t) (by simp [ht])
        obtain ⟨state, reason, _⟩ : _ ∧ _ ∧ _ := by simpa using shown
        exact ⟨state, reason, off, out⟩
      exact halted _ shows

end Sys2Proof.Machine

end

/-! # Proofs: CHANGE NOW (O29) -/

section

namespace Sys2Proof.Machine

/-! ## A motor turned on (R28) -/

theorem motorOn_seq (p : Proj) (s : State) (n : Screen) : (motorOn p s).seq n =
    if n = p.screen then { s.seq n with motor := (s.seq n).motor.set p.side true } else s.seq n := by
  have moved (m : Motion) (t : State) : (setMotion p m t).seq n = t.seq n := seq_of_seqs (setMotion_seqs p m t) n
  have already : motorIsOn s p = true → (s.seq p.screen).motor.set p.side true = (s.seq p.screen).motor := by
    intro e
    refine Pair.ext_get (fun x => ?_)
    rw [Pair.get_set]
    split_ifs with hx
    · rw [hx]
      exact e.symm
    · rfl
  unfold motorOn
  dsimp only
  by_cases on : motorIsOn s p = true
  · rw [if_pos on]
    split_ifs with hn
    · rw [hn, already on]
    · rfl
  · rw [if_neg on]
    split_ifs <;> simp_all

theorem motorOn_lamps (p : Proj) (s : State) : (motorOn p s).lamps = s.lamps := by
  unfold motorOn
  dsimp only
  split_ifs <;> simp [setMotion_lamps]

theorem modRecord_seq {n : Screen} {s : State} {r : Changeover} (f : Changeover → Changeover)
    (h : (s.seq n).changeover = some r) : (modRecord n f s).seq n = { s.seq n with changeover := some (f r) } := by
  simp [modRecord, h]

/-! ## The switch (R60, R61) -/

theorem delayedQuench_lamp_of_ne {p q : Proj} (h : q ≠ p) (s : State) : (delayedQuench p s).lamp q = s.lamp q := by
  unfold delayedQuench
  split <;> try split_ifs
  all_goals simp [h, quenchLamp_lamp_of_ne, withdrawRequest_lamp_of_ne]

/-- A lit lamp with a quench delay and no quench due gets its quench due (R89). -/
theorem delayedQuench_due {p : Proj} {s : State} (lit : (s.lamp p).lit = true) (delay : (s.lamp p).settings.quenchDelay ≠ 0)
    (free : (s.lamp p).quenchDue = none) : ((delayedQuench p s).lamp p).quenchDue =
      some (after s.boothTime (10 * (s.lamp p).settings.quenchDelay)) := by
  unfold delayedQuench
  unfold Lamp.lit at lit
  cases st : (s.lamp p).st <;> simp_all [keepEarlier]

/-- The offset a switch records: how far the incoming film is past its head (R60). -/
def switchOffset (s : State) (p : Proj) : Int :=
  ((s.chan p).frames : Int) - ((match s.ctx p with
    | some c => c.reel.head
    | none => 0 : Nat) : Int)

theorem switchOffset_of_ctx {s : State} {p : Proj} {c : Context} (h : s.ctx p = some c) :
    switchOffset s p = ((s.chan p).frames : Int) - (c.reel.head : Int) := by
  simp [switchOffset, h]

/-- The notice of a switch (R60, R62). -/
def switchNotice (late : Bool) (offset : Int) (r : Changeover) : NoticeBody :=
  if late then .lateChangeover offset r.motorCue r.changeCue else .changeover offset r.motorCue r.changeCue

/-- The Sequencer after the switch of a record (R60). -/
abbrev Sequencer.switched (q : Sequencer) (r : Changeover) (offset : Int) : Sequencer :=
  { q with
    pointer := q.pointer + 1, roles := (q.roles.set r.incoming .active).set r.incoming.other (.runOff .switched),
    demand := (q.demand.set r.incoming.other .clear).set r.incoming .set, sound := soundOf r.incoming,
    changeover := some { r with st := .switched, offset := some offset } }

section

variable {n : Screen} {r : Changeover} {s : State} (late : Bool) (h : (s.seq n).changeover = some r)

include h

theorem switchOver_eq : switchOver n late s = delayedQuench ⟨n, r.incoming.other⟩
    (notifyScreen n (switchNotice late (switchOffset s ⟨n, r.incoming⟩) r)
      ((setRunning ⟨n, r.incoming⟩ s).setSeq n ((s.seq n).switched r (switchOffset s ⟨n, r.incoming⟩)))) := by
  have ran (m : Screen) : (setRunning ⟨n, r.incoming⟩ s).seq m = s.seq m := seq_of_seqs (by simp) m
  unfold switchOver switchOffset
  cases hc : s.ctx ⟨n, r.incoming⟩ <;>
    simp only [h, hc, demandOnly, setDemand, setSound, modRecord, setRole, modSeq_eq, setSeq_setSeq, seq_setSeq, if_true, ran,
      Sequencer.setRole, Option.map_some, Proj.other] <;>
    rfl

theorem switchOver_seq : (switchOver n late s).seq n = (s.seq n).switched r (switchOffset s ⟨n, r.incoming⟩) := by
  rw [switchOver_eq late h, seq_of_seqs (delayedQuench_seqs _ _), seq_of_seqs (notifyScreen_seqs _ _ _), seq_setSeq, if_pos rfl]

/-- The incoming lamp, if lit, burns at running current after the switch (R60, R85). -/
theorem switchOver_incoming_lamp (lit : (s.lamp ⟨n, r.incoming⟩).lit = true) :
    ((switchOver n late s).lamp ⟨n, r.incoming⟩).st = .running := by
  have ne : (⟨n, r.incoming⟩ : Proj) ≠ ⟨n, r.incoming.other⟩ := by cases r.incoming <;> simp [Side.other]
  have told (b : NoticeBody) (t : State) (q : Proj) : (notifyScreen n b t).lamp q = t.lamp q := rfl
  unfold Lamp.lit at lit
  rw [switchOver_eq late h, delayedQuench_lamp_of_ne ne, told, setSeq_lamp]
  unfold setRunning
  cases st : (s.lamp ⟨n, r.incoming⟩).st <;> simp_all

/-- The outgoing lamp has its delayed quench (R61, R89). -/
theorem switchOver_outgoing_due (lit : (s.lamp ⟨n, r.incoming.other⟩).lit = true)
    (delay : (s.lamp ⟨n, r.incoming.other⟩).settings.quenchDelay ≠ 0) (free : (s.lamp ⟨n, r.incoming.other⟩).quenchDue = none) :
    ((switchOver n late s).lamp ⟨n, r.incoming.other⟩).quenchDue =
      some (after s.boothTime (10 * (s.lamp ⟨n, r.incoming.other⟩).settings.quenchDelay)) := by
  have ne : (⟨n, r.incoming.other⟩ : Proj) ≠ ⟨n, r.incoming⟩ := by cases r.incoming <;> simp [Side.other]
  have ran : (setRunning ⟨n, r.incoming⟩ s).lamp ⟨n, r.incoming.other⟩ = s.lamp ⟨n, r.incoming.other⟩ := by
    unfold setRunning
    split <;> simp [ne]
  have time : (setRunning ⟨n, r.incoming⟩ s).boothTime = s.boothTime := boothTime_of_base (by simp)
  have due {t : State} (lamp : t.lamp ⟨n, r.incoming.other⟩ = s.lamp ⟨n, r.incoming.other⟩) (now : t.boothTime = s.boothTime) :
      ((delayedQuench ⟨n, r.incoming.other⟩ t).lamp ⟨n, r.incoming.other⟩).quenchDue =
        some (after s.boothTime (10 * (s.lamp ⟨n, r.incoming.other⟩).settings.quenchDelay)) := by
    rw [delayedQuench_due (by rwa [lamp]) (by rwa [lamp]) (by rwa [lamp]), lamp, now]
  rw [switchOver_eq late h]
  exact due ran time

end

/-! ## The two ways of CHANGE NOW (R64) -/

theorem ends_changeNow {n : Screen} {r : Changeover} {s : State} {reply' : Reply} (hf : lineFree s (.screen n))
    (fire : s.fire.on = false) (shown : (s.seq n).showState = .showing) (record : (s.seq n).changeover = some r)
    (h : reply' = .done 0x0D ∧ r.st = .ready ∨ reply' = .accepted 0x0D ∧ r.st = .armed ∧ r.restartHeld = true) :
    ends (.changeNow (.screen n) (screenNumber n)) s
      (applyChangeNow (screenNumber n) (reply (.screen n) reply' s)) := by
  obtain ⟨rfl, ready⟩ | ⟨rfl, armed, held⟩ := h
  · have check : checkOrder (.screen n) (.changeNow (screenNumber n)) s = none := by
      simp [checkOrder, checkChangeNow, fire, shown, recordReady, record, ready]
    exact ends_of_done rfl hf (by simp) (ownOnly_screenNumber n) check rfl (fun _ => rfl)
      (by simp [acceptsOrder, changeNowAccepts, recordReady, record, ready])
  · have check : checkOrder (.screen n) (.changeNow (screenNumber n)) s = none := by
      simp [checkOrder, checkChangeNow, fire, shown, recordReady, recordHeld, record, armed, held]
    exact ends_of_accepted rfl hf (by simp) (ownOnly_screenNumber n) check rfl (fun _ => rfl)
      (by simp [acceptsOrder, changeNowAccepts, recordReady, record, armed])

/-- A record whose changeover cue was taken by hand at the outgoing F (R64). -/
abbrev Changeover.byHand (r : Changeover) (frame : Nat) : Changeover := { r with changeCue := some ⟨.order, frame⟩ }

section

variable {n : Screen} {r : Changeover} {s : State} (record : (s.seq n).changeover = some r)

include record

theorem byHand_seq (k : Nat) : (modRecord n (fun x => x.byHand k) s).seq n =
    { s.seq n with changeover := some (r.byHand k) } := modRecord_seq (fun x => x.byHand k) record

theorem switchByHand_seq : (switchByHand n r s).seq n =
    (s.seq n).switched (r.byHand (s.chan ⟨n, r.incoming.other⟩).frames) (switchOffset s ⟨n, r.incoming⟩) := by
  have cued := byHand_seq record (s.chan ⟨n, r.incoming.other⟩).frames
  have now := switchOver_seq (r := r.byHand (s.chan ⟨n, r.incoming.other⟩).frames) false (by rw [cued])
  rw [cued] at now
  exact now

theorem switchByHand_incoming_lamp (lit : (s.lamp ⟨n, r.incoming⟩).lit = true) :
    ((switchByHand n r s).lamp ⟨n, r.incoming⟩).st = .running :=
  switchOver_incoming_lamp (r := r.byHand (s.chan ⟨n, r.incoming.other⟩).frames) false (by rw [byHand_seq record]) lit

theorem switchByHand_outgoing_due (lit : (s.lamp ⟨n, r.incoming.other⟩).lit = true)
    (delay : (s.lamp ⟨n, r.incoming.other⟩).settings.quenchDelay ≠ 0) (free : (s.lamp ⟨n, r.incoming.other⟩).quenchDue = none) :
    ((switchByHand n r s).lamp ⟨n, r.incoming.other⟩).quenchDue =
      some (after s.boothTime (10 * (s.lamp ⟨n, r.incoming.other⟩).settings.quenchDelay)) :=
  switchOver_outgoing_due (r := r.byHand (s.chan ⟨n, r.incoming.other⟩).frames) false (by rw [byHand_seq record]) lit delay free

end

theorem applyChangeNow_of_ready {n : Screen} {r : Changeover} {s : State} (record : (s.seq n).changeover = some r)
    (ready : r.st = .ready) : applyChangeNow (screenNumber n) s = switchByHand n r s := by
  simp [applyChangeNow, record, ready]

theorem applyChangeNow_of_held {n : Screen} {r : Changeover} {s : State} (record : (s.seq n).changeover = some r)
    (armed : r.st = .armed) : applyChangeNow (screenNumber n) s = restartHeldMotor n r s := by
  simp [applyChangeNow, record, armed]

/-- The Sequencer is told of a dropped request in a record that prepares its changeover, with no start going on (R55). -/
theorem lampUnavailable_seq_of_record {n : Screen} {r : Changeover} {s : State} (start : (s.seq n).startRec = none)
    (h : (s.seq n).changeover = some r) (st : r.st ≠ .switched) :
    (lampUnavailable ⟨n, r.incoming⟩ s).seq n = { s.seq n with changeover := some { r with unavailable := true } } := by
  have told (b : NoticeBody) (t : State) : (notifyScreen n b t).seq n = t.seq n := rfl
  simp [lampUnavailable, Sequencer.startsUnfrozen, start, h, st, told, modRecord_seq]

/-- A held motor restarts (R64): a DARK lamp is asked for, and one at or below its margin is unavailable. -/
theorem restartHeldMotor_seq {n : Screen} {r : Changeover} {s : State} (start : (s.seq n).startRec = none)
    (h : (s.seq n).changeover = some r) :
    (restartHeldMotor n r s).seq n =
      { s.seq n with
        motor := (s.seq n).motor.set r.incoming true,
        changeover := some
          { r with
            st := .rolling, restartHeld := false,
            unavailable := r.unavailable ||
              ((s.lamp ⟨n, r.incoming⟩).st == .dark && (s.lamp ⟨n, r.incoming⟩).stubMark) } } := by
  have on : ((motorOn ⟨n, r.incoming⟩ s).seq n).changeover = some r := by simpa [motorOn_seq] using h
  have lamp (f : Changeover → Changeover) : (modRecord n f (motorOn ⟨n, r.incoming⟩ s)).lamp ⟨n, r.incoming⟩ =
      s.lamp ⟨n, r.incoming⟩ := lamp_of_lamps (motorOn_lamps _ _) _
  have rolls := modRecord_seq (fun r => { r with restartHeld := false, st := .rolling }) on
  unfold restartHeldMotor
  dsimp only
  rw [lamp]
  by_cases dark : (s.lamp ⟨n, r.incoming⟩).st = .dark
  · rw [if_pos dark]
    unfold raiseRequest requestDropped
    rw [lamp, dark]
    dsimp only
    by_cases stub : (s.lamp ⟨n, r.incoming⟩).stubMark = true
    · rw [if_pos stub]
      have told := lampUnavailable_seq_of_record (n := n) (r := { r with restartHeld := false, st := .rolling })
        (s := modRecord n (fun r => { r with restartHeld := false, st := .rolling }) (motorOn ⟨n, r.incoming⟩ s))
        (by rw [rolls]; simpa [motorOn_seq] using start) (by rw [rolls]) (by simp)
      rw [told, rolls]
      simp [motorOn_seq, stub]
    · rw [if_neg stub, seq_of_seqs (strikeRequest_seqs _ _ _ _), rolls]
      simp [motorOn_seq, stub]
  · rw [if_neg dark, rolls]
    simp [motorOn_seq, dark]

/-- Settles O29: the switch by hand is a switch with its changeover cue recorded as ORDER; the held motor restarts by the
lamp's state. -/
theorem changeNowSwitchesOrRestarts : Obligations.ChangeNowSwitchesOrRestarts := by
  intro n r s hf fire shown record
  refine ⟨fun ready c ctx lit => ?_, fun armed held start => ?_⟩
  · have taken := ends_changeNow hf fire shown record (.inl ⟨rfl, ready⟩)
    rw [applyChangeNow_of_ready (by exact record) ready] at taken
    have replied : ((reply (.screen n) (.done 0x0D) s).seq n).changeover = some r := record
    refine ⟨_, taken, (switchByHand_seq replied).trans ?_, switchByHand_incoming_lamp replied lit,
      switchByHand_outgoing_due replied, ?_⟩
    · rw [switchOffset_of_ctx (c := c) (by exact ctx)]
      rfl
    · exact (still_base (switchByHand_still _ _ _)).trans (base_reply _ _ _)
  · have taken := ends_changeNow hf fire shown record (.inr ⟨rfl, armed, held⟩)
    rw [applyChangeNow_of_held (by exact record) armed] at taken
    refine ⟨_, taken, ?_, ?_, ?_⟩
    · exact restartHeldMotor_seq start record
    · exact (still_base (restartHeldMotor_still _ _ _)).trans (base_reply _ _ _)
    · exact lines_of_replied hf (by simp)

end Sys2Proof.Machine

end

/-! # Proofs: RESUME (O28) -/

section

namespace Sys2Proof.Machine

/-! ## The FAULT claims of every circuit -/

def faults (c : PerCirc Circuit) : PerCirc (Option Claim) := c.map (Duo.map Circuit.fault)

theorem circ_fault {s t : State} (h : faults t.circuits = faults s.circuits) (c : Circ) : (t.circ c).fault = (s.circ c).fault := by
  have entry := congrArg (fun q => (q.get c.screen).get c.kind) h
  simpa [faults, State.circ] using entry

@[simp] theorem everyCircuit_faults (f : Circuit → Circuit) (h : ∀ c, (f c).fault = c.fault) (s : State) :
    faults (everyCircuit f s).circuits = faults s.circuits := by
  refine Quad.ext_get (fun n => Duo.ext_get (fun k => ?_))
  simp [faults, everyCircuit, h]

theorem Circuit.markFilm_fault (c : Circuit) (p : Proj) : (c.markFilm p).fault = c.fault := by
  unfold Circuit.markFilm
  split
  · rfl
  · split
    · rfl
    · split_ifs <;> rfl

@[simp] theorem setMotion_faults (p : Proj) (m : Motion) (s : State) :
    faults (setMotion p m s).circuits = faults s.circuits := by
  have marked (t : State) : faults (everyCircuit (fun c => c.markFilm p) t).circuits = faults t.circuits :=
    everyCircuit_faults _ (fun c => c.markFilm_fault p) t
  unfold setMotion
  dsimp only
  split_ifs
  · rfl
  · rfl
  · exact marked _

@[simp] theorem motorOff_faults (p : Proj) (s : State) : faults (motorOff p s).circuits = faults s.circuits := by
  unfold motorOff
  dsimp only
  split_ifs <;> simp

@[simp] theorem withdrawRequest_circuits (p : Proj) (s : State) : (withdrawRequest p s).circuits = s.circuits := by
  unfold withdrawRequest withdrawEntry askExamine
  split
  · rfl
  · dsimp only
    split_ifs <;> rfl

@[simp] theorem quenchLamp_circuits (p : Proj) (s : State) : (quenchLamp p s).circuits = s.circuits := by
  unfold quenchLamp askExamine
  split <;> simp

@[simp] theorem undoIncoming_faults (p : Proj) (s : State) : faults (undoIncoming p s).circuits = faults s.circuits := by
  simp [undoIncoming, setRole]

@[simp] theorem recordToNoneSparing_faults (n : Screen) (x : Option Side) (s : State) :
    faults (recordToNoneSparing n x s).circuits = faults s.circuits := by
  unfold recordToNoneSparing
  split
  · rfl
  · dsimp only
    split_ifs <;> simp

@[simp] theorem reviewCurrent_circuits (p : Proj) (s : State) : (reviewCurrent p s).circuits = s.circuits := by
  unfold reviewCurrent
  dsimp only
  split
  · split_ifs <;> rfl
  · rfl

@[simp] theorem emptyContext_faults (p : Proj) (s : State) : faults (emptyContext p s).circuits = faults s.circuits := by
  unfold emptyContext dropIncoming recordToNone channelUnthread
  split
  · rfl
  · split_ifs <;> simp

@[simp] theorem swapRoles_faults (n : Screen) (x : Side) (s : State) : faults (swapRoles n x s).circuits = faults s.circuits := by
  unfold swapRoles setRole
  dsimp only
  split_ifs <;> simp

@[simp] theorem channelResume_faults (p : Proj) (s : State) : faults (channelResume p s).circuits = faults s.circuits := by
  unfold channelResume clearRing
  split <;> simp

@[simp] theorem beginRecord_circuits (p : Proj) (k : StartKind) (s : State) : (beginRecord p k s).circuits = s.circuits := by
  unfold beginRecord commit
  split <;> rfl

@[simp] theorem beginRecord_lamps (p : Proj) (k : StartKind) (s : State) : (beginRecord p k s).lamps = s.lamps := by
  unfold beginRecord commit
  split <;> rfl

/-! ## A lamp asked for: what stays -/

@[simp] theorem budgetRequest_circuits (p : Proj) (d : BoothTime) (s : State) : (budgetRequest p d s).circuits = s.circuits := by
  unfold budgetRequest
  split_ifs
  · rfl
  · split <;> try split_ifs
    all_goals rfl

@[simp] theorem strikeRequest_circuits (p : Proj) (x : Target) (d : BoothTime) (s : State) :
    (strikeRequest p x d s).circuits = s.circuits := by
  unfold strikeRequest
  by_cases h : s.fire.on
  · rw [if_pos h]
  · rw [if_neg h]
    cases (s.lamp p).st <;> dsimp only
    case dark => split_ifs <;> simp
    all_goals simp

/-- A fit lamp asked for: the circuits and the channels stay. -/
theorem askRunning_of_fit_keeps {p : Proj} {s : State} (h : lampUnfit (s.lamp p) = false) :
    (askRunning p s).circuits = s.circuits ∧ (askRunning p s).channels = s.channels := by
  have ran : (setRunning p s).circuits = s.circuits ∧ (setRunning p s).channels = s.channels := by
    unfold setRunning
    split <;> simp
  unfold askRunning raiseRequest
  rw [requestDropped_eq, h]
  split <;> simp [ran]

/-! ## The restart projector keeps its channel and its lamp while the other one is put away -/

/-- The channel and the lamp of a projector. -/
def seat (p : Proj) (s : State) : Channel × Lamp := (s.chan p, s.lamp p)

section

variable {p q : Proj} (h : p ≠ q)

include h

theorem motorOff_seat_of_ne (s : State) : seat p (motorOff q s) = seat p s := by
  unfold seat motorOff
  dsimp only
  split_ifs <;> simp [h, lamp_of_lamps (setMotion_lamps _ _ _)]

theorem quenchLamp_seat_of_ne (s : State) : seat p (quenchLamp q s) = seat p s := by
  simp [seat, quenchLamp_lamp_of_ne h, chan_of_channels (quenchLamp_channels q s)]

theorem withdrawRequest_seat_of_ne (s : State) : seat p (withdrawRequest q s) = seat p s := by
  simp [seat, withdrawRequest_lamp_of_ne h, chan_of_channels (withdrawRequest_channels q s)]

theorem undoIncoming_seat_of_ne (s : State) : seat p (undoIncoming q s) = seat p s := by
  have roled (t : State) : seat p (setRole q .idle t) = seat p t := rfl
  rw [undoIncoming, roled, motorOff_seat_of_ne h, quenchLamp_seat_of_ne h, withdrawRequest_seat_of_ne h]

theorem reviewCurrent_seat_of_ne (s : State) : seat p (reviewCurrent q s) = seat p s := by
  unfold seat reviewCurrent askExamine
  dsimp only
  split
  · split_ifs <;> simp [h, notifyScreen, notify]
  · rfl

theorem channelUnthread_seat_of_ne (s : State) : seat p (channelUnthread q s) = seat p s := by
  simp [seat, channelUnthread, h, lamp_of_lamps (setMotion_lamps _ _ _)]

end

/-- The record returns to NONE without a change to a projector that it spares (R65, R70). -/
theorem recordToNoneSparing_seat {n : Screen} {x : Side} {spare : Option Side} {s : State}
    (h : spare = some x ∨ ∀ r, (s.seq n).changeover = some r → r.st ≠ .switched → r.incoming ≠ x) :
    seat ⟨n, x⟩ (recordToNoneSparing n spare s) = seat ⟨n, x⟩ s := by
  have dropped (f : Sequencer → Sequencer) (t : State) : seat ⟨n, x⟩ (t.modSeq n f) = seat ⟨n, x⟩ t := rfl
  unfold recordToNoneSparing
  cases hr : (s.seq n).changeover with
  | none => rfl
  | some r =>
    dsimp only
    rw [dropped]
    split_ifs with kept
    · rfl
    · refine undoIncoming_seat_of_ne (fun e => ?_) s
      have same : x = r.incoming := congrArg Proj.side e
      obtain ⟨st, spared⟩ := not_or.1 kept
      obtain h | h := h
      · exact spared (h.trans (congrArg some same))
      · exact h r hr st same.symm

/-- A context is emptied without a change to the screen's other projector (R15). -/
theorem emptyContext_seat_of_other (n : Screen) (x : Side) (s : State) :
    seat ⟨n, x⟩ (emptyContext ⟨n, x.other⟩ s) = seat ⟨n, x⟩ s := by
  have ne : (⟨n, x⟩ : Proj) ≠ ⟨n, x.other⟩ := by cases x <;> simp [Side.other]
  have cleared (t : State) (v : Option Context) : seat ⟨n, x⟩ (t.setCtx ⟨n, x.other⟩ v) = seat ⟨n, x⟩ t := rfl
  have dropped (t : State) : seat ⟨n, x⟩ (dropIncoming ⟨n, x.other⟩ t) = seat ⟨n, x⟩ t := by
    unfold dropIncoming
    split_ifs with incoming
    · refine recordToNoneSparing_seat (Or.inr (fun r hr st => ?_))
      simp only [isIncoming, hr] at incoming
      have named : r.incoming = x.other := by simp_all
      rw [named]
      cases x <;> simp [Side.other]
    · rfl
  unfold emptyContext
  split
  · rfl
  · rw [reviewCurrent_seat_of_ne ne, dropped, channelUnthread_seat_of_ne ne, cleared]

theorem swapRoles_seat (n : Screen) (x : Side) (s : State) : seat ⟨n, x⟩ (swapRoles n x s) = seat ⟨n, x⟩ s := by
  have moved (f : Sequencer → Sequencer) (t : State) : seat ⟨n, x⟩ (t.modSeq n f) = seat ⟨n, x⟩ t := rfl
  have roled (r : Role) (t : State) : seat ⟨n, x⟩ (setRole ⟨n, x.other⟩ r t) = seat ⟨n, x⟩ t := rfl
  unfold swapRoles
  dsimp only
  split_ifs
  · rw [roled, moved]
  · rw [roled, emptyContext_seat_of_other, moved]
  · rfl

/-! ## The Sequencer while a RESUME undoes what the halt left -/

/-- The show state and the pointer. -/
abbrev Sequencer.place (q : Sequencer) : Show × Nat := (q.showState, q.pointer)

theorem dropped_place (q : Sequencer) (x : Option Side) : (q.dropped x).place = q.place := by
  unfold Sequencer.dropped
  split
  · rfl
  · split_ifs <;> rfl

theorem dropped_changeover (q : Sequencer) (x : Option Side) : (q.dropped x).changeover = none := by
  unfold Sequencer.dropped
  split
  · assumption
  · split_ifs <;> rfl

theorem emptyContext_place (p : Proj) (s : State) : ((emptyContext p s).seq p.screen).place = (s.seq p.screen).place := by
  have dropped (t : State) : ((dropIncoming p t).seq p.screen).place = (t.seq p.screen).place := by
    unfold dropIncoming recordToNone
    split_ifs
    · rw [recordToNoneSparing_seq, if_pos rfl, dropped_place]
    · rfl
  unfold emptyContext
  split
  · rfl
  · rw [seq_of_seqs (reviewCurrent_seqs _ _), dropped, seq_of_seqs (channelUnthread_seqs _ _), setCtx_seq]

theorem swapRoles_place (n : Screen) (x : Side) (s : State) : ((swapRoles n x s).seq n).place =
    ((s.seq n).showState, if (s.seq n).firstMissed then (s.seq n).pointer + 1 else (s.seq n).pointer) := by
  have roled (r : Role) (t : State) : ((setRole ⟨n, x.other⟩ r t).seq n).place = (t.seq n).place := by
    simp [setRole, Sequencer.setRole]
  have emptied (t : State) : ((emptyContext ⟨n, x.other⟩ t).seq n).place = (t.seq n).place := emptyContext_place ⟨n, x.other⟩ t
  unfold swapRoles
  dsimp only
  split_ifs
  · rw [roled]
    simp
  · rw [roled, emptied]
    simp
  · rfl

theorem beginRecord_seq (p : Proj) (k : StartKind) (s : State) : (beginRecord p k s).seq p.screen =
    { s.seq p.screen with
      startRec := some ⟨p.side, k, .strikeWait, false⟩, roles := (s.seq p.screen).roles.set p.side .starting } := by
  unfold beginRecord setRole
  rw [seq_of_seqs (commit_seqs _ _)]
  simp [Sequencer.setRole]

/-! ## The restart projector starts (R70) -/

/-- The state in which the restart projector's start begins. -/
def resumeCleared (n : Screen) (x : Side) (s : State) : State :=
  recordToNoneSparing n (some x) (swapRoles n x (removeClaims n .fault s))

theorem resumeCleared_seat (n : Screen) (x : Side) (s : State) : seat ⟨n, x⟩ (resumeCleared n x s) = seat ⟨n, x⟩ s := by
  have unclaimed : seat ⟨n, x⟩ (removeClaims n .fault s) = seat ⟨n, x⟩ s := rfl
  rw [resumeCleared, recordToNoneSparing_seat (Or.inl rfl), swapRoles_seat, unclaimed]

theorem resumeCleared_place (n : Screen) (x : Side) (s : State) : ((resumeCleared n x s).seq n).place =
    ((s.seq n).showState, if (s.seq n).firstMissed then (s.seq n).pointer + 1 else (s.seq n).pointer) := by
  rw [resumeCleared, recordToNoneSparing_seq, if_pos rfl, dropped_place, swapRoles_place]
  rfl

theorem resumeCleared_changeover (n : Screen) (x : Side) (s : State) : ((resumeCleared n x s).seq n).changeover = none := by
  rw [resumeCleared, recordToNoneSparing_seq, if_pos rfl, dropped_changeover]

theorem resumeCleared_fault (n : Screen) (x : Side) (k : CircKind) (s : State) : ((resumeCleared n x s).circ ⟨n, k⟩).fault = none := by
  have kept : faults (resumeCleared n x s).circuits = faults (removeClaims n .fault s).circuits := by simp [resumeCleared]
  rw [circ_fault kept]
  cases k <;> simp [removeClaims, Circuit.put]

theorem channelResume_lamps (p : Proj) (s : State) : (channelResume p s).lamps = s.lamps := by
  unfold channelResume clearRing
  split <;> simp [setMotion_lamps]

theorem channelResume_chan {p : Proj} {s : State} (h : (s.chan p).motion = .stoppedBreak ∨ (s.chan p).motion = .stoppedStall) :
    (channelResume p s).chan p = { (s.chan p).clearRing with motion := .still } := by
  unfold channelResume clearRing
  obtain h | h := h <;> simp [h]

section

variable {n : Screen} {x : Side} {s : State} (fit : lampUnfit (s.lamp ⟨n, x⟩) = false)

include fit

theorem resumeReel_keeps :
    (resumeReel n x s).seqs = (beginRecord ⟨n, x⟩ .resume (channelResume ⟨n, x⟩ (resumeCleared n x s))).seqs ∧
      (resumeReel n x s).circuits = (channelResume ⟨n, x⟩ (resumeCleared n x s)).circuits ∧
      (resumeReel n x s).channels = (channelResume ⟨n, x⟩ (resumeCleared n x s)).channels := by
  have lamp : (beginRecord ⟨n, x⟩ .resume (channelResume ⟨n, x⟩ (resumeCleared n x s))).lamp ⟨n, x⟩ = s.lamp ⟨n, x⟩ := by
    rw [lamp_of_lamps (beginRecord_lamps _ _ _), lamp_of_lamps (channelResume_lamps _ _)]
    exact congrArg Prod.snd (resumeCleared_seat n x s)
  have fit' : lampUnfit ((beginRecord ⟨n, x⟩ .resume (channelResume ⟨n, x⟩ (resumeCleared n x s))).lamp ⟨n, x⟩) = false := by
    rwa [lamp]
  obtain ⟨circuits, channels⟩ := askRunning_of_fit_keeps fit'
  refine ⟨askRunning_seqs_of_fit fit', circuits.trans (beginRecord_circuits _ _ _), channels.trans ?_⟩
  simp [beginRecord, setRole]

theorem resumeReel_seq : (resumeReel n x s).seq n =
    { (resumeCleared n x s).seq n with
      startRec := some ⟨x, .resume, .strikeWait, false⟩, roles := ((resumeCleared n x s).seq n).roles.set x .starting } := by
  obtain ⟨seqs, _, _⟩ := resumeReel_keeps fit
  have begun := beginRecord_seq ⟨n, x⟩ .resume (channelResume ⟨n, x⟩ (resumeCleared n x s))
  rw [seq_of_seqs (channelResume_seqs _ _)] at begun
  exact (seq_of_seqs seqs n).trans begun

theorem resumeReel_fault (k : CircKind) : ((resumeReel n x s).circ ⟨n, k⟩).fault = none := by
  obtain ⟨_, circuits, _⟩ := resumeReel_keeps fit
  have kept : faults (resumeReel n x s).circuits = faults (resumeCleared n x s).circuits := by rw [circuits, channelResume_faults]
  rw [circ_fault kept, resumeCleared_fault]

theorem resumeReel_chan (h : (s.chan ⟨n, x⟩).motion = .stoppedBreak ∨ (s.chan ⟨n, x⟩).motion = .stoppedStall) :
    ((resumeReel n x s).chan ⟨n, x⟩).motion = .still ∧ ((resumeReel n x s).chan ⟨n, x⟩).ring = [] := by
  obtain ⟨_, _, channels⟩ := resumeReel_keeps fit
  have same : (resumeCleared n x s).chan ⟨n, x⟩ = s.chan ⟨n, x⟩ := congrArg Prod.fst (resumeCleared_seat n x s)
  rw [chan_of_channels channels, channelResume_chan (by rwa [same])]
  exact ⟨rfl, rfl⟩

end

/-! ## RESUME (R70) -/

theorem lampUnfit_eq_false {l : Lamp} (fault : l.st ≠ .fault) (carbon : l.st = .dark → l.settings.margin < l.carbon) :
    lampUnfit l = false := by
  unfold lampUnfit
  cases st : l.st with
  | fault => exact absurd st fault
  | dark => exact stubMark_eq_false (carbon st)
  | queued | striking | standby | running | quenching => rfl

theorem restartLamp_of_fit {l : Lamp} (h : lampUnfit l = false) : restartLamp l = none := by
  unfold lampUnfit at h
  unfold restartLamp
  cases st : l.st <;> simp_all

theorem resuming_eq_false {q : Sequencer} (h : ∀ r, q.startRec = some r → r.kind = .resume → r.frozen = true) :
    resuming q = false := by
  unfold resuming
  split
  · rename_i r hr
    by_cases k : r.kind = .resume <;> simp [k, h r hr]
  · rfl

section

variable {n : Screen} {s : State} (hf : lineFree s (.screen n)) (fire : s.fire.on = false) (mark : s.fire.marks.get n = false)
  (shown : (s.seq n).showState = .halted) (start : resuming (s.seq n) = false)

include hf fire mark shown start

theorem ends_resume_state (restart : (s.seq n).restart = none) :
    ends (.resume (.screen n) (screenNumber n)) s (resumeState n (reply (.screen n) (.done 0x0C) s)) := by
  have check : checkOrder (.screen n) (.resume (screenNumber n)) s = none := by
    simp [checkOrder, checkResume, fire, mark, shown, start, restart]
  have acts (t : State) (ht : (t.seq n).restart = none) :
      applyOrder (.screen n) (.resume (screenNumber n)) t = resumeState n t := by
    simp [applyOrder, applyResume, ht]
  rw [← acts (reply (.screen n) (.done 0x0C) s) restart]
  exact ends_of_done rfl hf (by simp) (ownOnly_screenNumber n) check rfl (fun _ => rfl)
    (by simp [acceptsOrder, resumeAccepts, restart])

theorem ends_resume_reel {x : Side} (restart : (s.seq n).restart = some x) (ready : restartReady s n x = true)
    (fit : lampUnfit (s.lamp ⟨n, x⟩) = false) :
    ends (.resume (.screen n) (screenNumber n)) s (resumeReel n x (reply (.screen n) (.accepted 0x0C) s)) := by
  have check : checkOrder (.screen n) (.resume (screenNumber n)) s = none := by
    simp [checkOrder, checkResume, fire, mark, shown, start, restart, ready, restartLamp_of_fit fit]
  have acts (t : State) (ht : (t.seq n).restart = some x) :
      applyOrder (.screen n) (.resume (screenNumber n)) t = resumeReel n x t := by
    simp [applyOrder, applyResume, ht]
  rw [← acts (reply (.screen n) (.accepted 0x0C) s) restart]
  exact ends_of_accepted rfl hf (by simp) (ownOnly_screenNumber n) check rfl (fun _ => rfl)
    (by simp [acceptsOrder, resumeAccepts, restart])

end

/-- Settles O28: with no restart projector RESUME is `resumeState`; with one, everything undone before its start concerns the
other projector, so it starts with its lamp and channel as they were. -/
theorem resumeTakesTheShowUp : Obligations.ResumeTakesTheShowUp := by
  intro n s hf fire mark shown start
  have free := resuming_eq_false start
  refine ⟨fun restart from' halted => ?_, fun x c restart ctx frames missed fault carbon => ?_⟩
  · have resumed := ends_resume_state hf fire mark shown free restart
    have back : (s.seq n).haltedFrom.getD .halted = from' := by rw [halted]; rfl
    subst back
    exact resumed
  · have fit := lampUnfit_eq_false fault carbon
    have ready : restartReady s n x = true := by
      cases first : (s.seq n).firstMissed <;> simp_all [restartReady]
    have resumed := ends_resume_reel hf fire mark shown free restart ready fit
    have replied : lampUnfit ((reply (.screen n) (.accepted 0x0C) s).lamp ⟨n, x⟩) = false := fit
    have seq := resumeReel_seq replied
    obtain ⟨showState, pointer⟩ := Prod.mk.inj (resumeCleared_place n x (reply (.screen n) (.accepted 0x0C) s))
    refine ⟨_, resumed, ?_, ?_, ?_, ?_, ?_, resumeReel_fault replied, resumeReel_chan replied, lines_of_replied hf (by simp)⟩
    · rw [seq]
    · rw [seq]
      simp [Sequencer.role, Pair.get_set]
    · rw [seq]
      exact showState.trans shown
    · rw [seq]
      exact resumeCleared_changeover _ _ _
    · rw [seq]
      exact pointer

end Sys2Proof.Machine

end

/-! # Proofs: a record takes its cues (O31) -/

section

namespace Sys2Proof.Machine

/-! ## What the Sequencer reads of a film -/

/-- The reel in a projector's context, if any, and its frame count. -/
def mounted (s : State) (p : Proj) : Option ReelRecord × Nat := ((s.ctx p).map Context.reel, (s.chan p).frames)

theorem mounted_of_loaded {s t : State} (h : t.still.loaded = s.still.loaded) (p : Proj) : mounted t p = mounted s p := by
  have reel (c : Option Context) : (c.map Context.still).map Context.reel = c.map Context.reel := by cases c <;> rfl
  have contexts : (t.ctx p).map Context.reel = (s.ctx p).map Context.reel := by
    rw [← reel, loaded_ctx h, reel]
  have frames : (t.chan p).frames = (s.chan p).frames := (congrArg Channel.frames (loaded_chan h p) :)
  rw [mounted, contexts, frames, mounted]

theorem mounted_of_still {s t : State} (h : t.still = s.still) (p : Proj) : mounted t p = mounted s p :=
  mounted_of_loaded (congrArg Still.loaded h) p

section

variable {s : State} {p : Proj} {reel : ReelRecord} {g : Nat} (h : mounted s p = (some reel, g))

include h

theorem frames_of_mounted : (s.chan p).frames = g := (Prod.mk.inj h).2

theorem ctx_of_mounted : ∃ c, s.ctx p = some c ∧ c.reel = reel := Option.map_eq_some_iff.1 (Prod.mk.inj h).1

theorem cueRules_of_mounted : cueRules s p = (reel.mode, reel.window) := by
  obtain ⟨c, ctx, rfl⟩ := ctx_of_mounted h
  simp [cueRules, ctx]

theorem lastPicture_of_mounted : s.lastPicture p = some reel.lastPicture := by
  obtain ⟨c, ctx, rfl⟩ := ctx_of_mounted h
  simp [State.lastPicture, ctx]

theorem switchOffset_of_mounted : switchOffset s p = (g : Int) - (reel.head : Int) := by
  obtain ⟨c, ctx, rfl⟩ := ctx_of_mounted h
  rw [switchOffset_of_ctx ctx, frames_of_mounted h]

/-- A film before its last picture ends no reel (R48). -/
theorem endIfReached_of_before (before : g < reel.lastPicture) : endIfReached p s = s := by
  have later : ¬ reel.lastPicture ≤ (s.chan p).frames := by rw [frames_of_mounted h]; omega
  simp [endIfReached, lastPicture_of_mounted h, later]

end

theorem countFrame_eq (m : CueMode) (w x : Nat) : countFrame (m, w) x = if m = .sense then x + w else x := by
  cases m <;> rfl

/-! ## The strike action and the record (R54) -/

/-- A record after the strike action: its state, its deadline and its unavailable mark may be new. -/
abbrev Changeover.asked (r : Changeover) (st : RecState) (d : Option BoothTime) (u : Bool) : Changeover :=
  { r with st := st, deadline := d, unavailable := u }

/-- A Sequencer with another record. -/
abbrev Sequencer.withRecord (q : Sequencer) (r : Changeover) : Sequencer := { q with changeover := some r }

theorem withRecord_self {q : Sequencer} {r : Changeover} (h : q.changeover = some r) : q.withRecord r = q := by
  rw [Sequencer.withRecord, ← h]

/-- The deadline that the strike action sets: when the outgoing film reaches its changeover cue (R54). -/
def strikeDeadline (n : Screen) (r : Changeover) (s : State) : BoothTime :=
  after s.boothTime (ceilDiv ((r.xco - (s.chan ⟨n, r.incoming.other⟩).frames) * 10) 24)

theorem strikeAction_seq {n : Screen} {r : Changeover} {s : State} (h : (s.seq n).changeover = some r) :
    ∃ st d u, (strikeAction n s).seq n = (s.seq n).withRecord (r.asked st d u) ∧ (st = .lampWait ∨ st = .warm) := by
  have asked (p : Proj) (x : Target) (d : BoothTime) (t : State) : (strikeRequest p x d t).seq n = t.seq n :=
    seq_of_seqs (strikeRequest_seqs p x d t) n
  have told (b : NoticeBody) (t : State) : (notifyScreen n b t).seq n = t.seq n := rfl
  have reaches (st : RecState) (u : Bool) (hst : st = .lampWait ∨ st = .warm) {t : State}
      (ht : t.seq n = (s.seq n).withRecord (r.asked st (some (strikeDeadline n r s)) u)) :
      ∃ st d u, t.seq n = (s.seq n).withRecord (r.asked st d u) ∧ (st = .lampWait ∨ st = .warm) := ⟨st, _, u, ht, hst⟩
  unfold strikeAction
  simp only [h]
  split
  · exact reaches .warm r.unavailable (Or.inr rfl) (by simp [modRecord, h, strikeDeadline, Proj.other])
  · exact reaches .warm r.unavailable (Or.inr rfl) (by simp [modRecord, h, strikeDeadline, Proj.other])
  · exact reaches .lampWait r.unavailable (Or.inl rfl) (by simp [modRecord, h, strikeDeadline, Proj.other])
  · exact reaches .lampWait r.unavailable (Or.inl rfl) (by simp [asked, modRecord, h, strikeDeadline, Proj.other])
  · exact reaches .lampWait r.unavailable (Or.inl rfl) (by simp [asked, modRecord, h, strikeDeadline, Proj.other])
  · split_ifs
    · exact reaches .lampWait true (Or.inl rfl) (by simp [told, modRecord, h, strikeDeadline, Proj.other])
    · exact reaches .lampWait r.unavailable (Or.inl rfl) (by simp [asked, modRecord, h, strikeDeadline, Proj.other])
  · exact reaches .lampWait true (Or.inl rfl) (by simp [told, modRecord, h, strikeDeadline, Proj.other])

theorem strikeIfReached_seq {n : Screen} {r : Changeover} {s : State} (h : (s.seq n).changeover = some r) :
    ∃ st d u, (strikeIfReached n s).seq n = (s.seq n).withRecord (r.asked st d u) ∧
      (st = r.st ∨ r.st = .armed ∧ r.restartHeld = false ∧ (st = .lampWait ∨ st = .warm)) := by
  unfold strikeIfReached
  simp only [h]
  split_ifs with reached
  · obtain ⟨armed, free, _⟩ := reached
    obtain ⟨st, d, u, seq, lamp⟩ := strikeAction_seq h
    exact ⟨st, d, u, seq, Or.inr ⟨armed, free, lamp⟩⟩
  · exact ⟨r.st, r.deadline, r.unavailable, (withRecord_self h).symm, Or.inl rfl⟩

/-! ## The motor cue is taken (R58) -/

theorem commit_ctx {p : Proj} {s : State} {c : Context} (h : (commit p s).ctx p = some c) : c.committed = true := by
  unfold commit at h
  cases hc : s.ctx p with
  | none => simp [hc] at h
  | some k =>
    simp only [hc, ctx_setCtx, if_true] at h
    cases h
    rfl

/-- A record with its motor cue taken. -/
abbrev Changeover.motorCued (r : Changeover) (take : CueTake) : Changeover := { r with motorCue := some take }

section

variable {n : Screen} {r : Changeover} {w : State} (take : CueTake) (h : (w.seq n).changeover = some r)

include h

/-- With the restart held the motor cue is only recorded. -/
theorem takeMotorCue_of_held (held : r.restartHeld = true) : (takeMotorCue n take w).seq n = (w.seq n).withRecord (r.motorCued take) := by
  have record := modRecord_seq (fun r => r.motorCued take) h
  unfold takeMotorCue
  simp only [record, held, if_true]

/-- Else the incoming context is committed and the incoming motor on, in a state that the strike action may have changed. -/
theorem takeMotorCue_of_free (free : r.restartHeld = false) : ∃ v st d u,
    takeMotorCue n take w =
        modRecord n (fun r => { r with st := .rolling }) (motorOn ⟨n, r.incoming⟩ (commit ⟨n, r.incoming⟩ v)) ∧
      v.seq n = (w.seq n).withRecord ((r.motorCued take).asked st d u) := by
  have record := modRecord_seq (fun r => r.motorCued take) h
  unfold takeMotorCue
  simp only [record, free, Bool.false_eq_true, if_false]
  split_ifs
  · obtain ⟨st, d, u, seq, _⟩ := strikeAction_seq (r := r.motorCued take) (by rw [record])
    exact ⟨_, st, d, u, rfl, by rw [seq, record]⟩
  · exact ⟨_, r.st, r.deadline, r.unavailable, rfl, record⟩

end

/-- The motor cue taken in a state `w` whose record is that of `s` as the strike action may have left it. -/
theorem takeMotorCue_taken {n : Screen} {r : Changeover} {s w : State} {st : RecState} {d : Option BoothTime} {u : Bool}
    (take : CueTake) (h : w.seq n = (s.seq n).withRecord (r.asked st d u)) (held : r.restartHeld = true → st = r.st) :
    motorCueTaken n r take s (takeMotorCue n take w) := by
  have record : (w.seq n).changeover = some (r.asked st d u) := by rw [h]
  cases rh : r.restartHeld with
  | true =>
    have seq := takeMotorCue_of_held take record rh
    rw [h] at seq
    exact ⟨(r.asked st d u).motorCued take, by rw [seq], rfl, rfl, by rw [seq], fun _ => ⟨held rh, by rw [seq]⟩,
      fun e => absurd (e.symm.trans rh) Bool.false_ne_true⟩
  | false =>
    obtain ⟨v, st', d', u', result, seq⟩ := takeMotorCue_of_free take record rh
    rw [h] at seq
    have on : (motorOn ⟨n, r.incoming⟩ (commit ⟨n, r.incoming⟩ v)).seq n =
        { v.seq n with motor := (s.seq n).motor.set r.incoming true } := by
      rw [motorOn_seq, if_pos rfl, seq_of_seqs (commit_seqs _ _), seq]
    have rolls := modRecord_seq (r := ((r.asked st d u).motorCued take).asked st' d' u') (fun r => { r with st := .rolling })
      (by rw [on, seq])
    rw [result]
    refine ⟨{ r.motorCued take with st := .rolling, deadline := d', unavailable := u' }, by rw [rolls], rfl, rfl,
      by rw [rolls, on, seq], fun e => absurd (rh.symm.trans e) Bool.false_ne_true, fun _ => ⟨rfl, ?_, fun c hc => ?_⟩⟩
    · unfold motorIsOn
      rw [rolls, on]
      simp [Pair.get_set]
    · have same : (commit ⟨n, r.incoming⟩ v).ctx ⟨n, r.incoming⟩ = some c :=
        (congrArg (fun k => (k.get n).get r.incoming) (motorOn_contexts _ _).symm).trans hc
      exact commit_ctx same

/-! ## The changeover cue is taken (R60, R62) -/

/-- A record with its changeover cue taken. -/
abbrev Changeover.changeCued (r : Changeover) (take : CueTake) : Changeover := { r with changeCue := some take }

/-- A record in the states ARMED to READY. -/
theorem takesCues_iff (st : RecState) : st.takesCues = true ↔
    st = .armed ∨ st = .lampWait ∨ st = .warm ∨ st = .rolling ∨ st = .ready := by
  cases st <;> simp [RecState.takesCues]

section

variable {n : Screen} {r : Changeover} {w : State} (take : CueTake) (h : (w.seq n).changeover = some r)

include h

theorem takeChangeCue_of_ready (ready : r.st = .ready) : (takeChangeCue n take w).seq n =
    (w.seq n).switched (r.changeCued take) (switchOffset w ⟨n, r.incoming⟩) := by
  have record := modRecord_seq (fun r => r.changeCued take) h
  have now := switchOver_seq (r := r.changeCued take) false (by rw [record])
  rw [record] at now
  unfold takeChangeCue
  simp only [record, ready]
  exact now

theorem takeChangeCue_of_not_ready (takes : r.st.takesCues = true) (ready : r.st ≠ .ready) : takeChangeCue n take w =
    notifyScreen n (.changeoverMissed n) (w.setSeq n ((w.seq n).withRecord { r.changeCued take with st := .missed })) := by
  have record := modRecord_seq (fun r => r.changeCued take) h
  have missed : modRecord n (fun r => { r with st := .missed }) (modRecord n (fun r => r.changeCued take) w) =
      w.setSeq n ((w.seq n).withRecord { r.changeCued take with st := .missed }) := by
    simp [modRecord, modSeq_eq, setSeq_setSeq, h]
  rw [← missed]
  unfold takeChangeCue
  simp only [record]
  obtain st | st | st | st | st := (takesCues_iff r.st).1 takes <;> simp only [st]
  exact absurd st ready

end

/-- The changeover cue taken in a state `w` whose Sequencer is that of `s` but for its record. -/
theorem takeChangeCue_taken {n : Screen} {r r' : Changeover} {s w : State} (take : CueTake)
    (h : w.seq n = (s.seq n).withRecord r') (incoming : r'.incoming = r.incoming) (takes : r'.st.takesCues = true)
    (ready : r'.st = .ready ↔ r.st = .ready) (film : mounted w ⟨n, r.incoming⟩ = mounted s ⟨n, r.incoming⟩) :
    changeCueTaken n r take s (takeChangeCue n take w) := by
  have record : (w.seq n).changeover = some r' := by rw [h]
  by_cases hr : r.st = .ready
  · have seq := takeChangeCue_of_ready take record (ready.2 hr)
    rw [h, incoming] at seq
    refine ⟨_, by rw [seq], rfl, by rw [seq], fun _ => ⟨rfl, by rw [seq], ?_, ?_, ?_, ?_, ?_, fun c ctx => ?_⟩,
      fun e => absurd hr e⟩
    · rw [seq, Sequencer.switched, Sequencer.role, incoming]
      cases r.incoming <;> rfl
    · rw [seq, Sequencer.switched, Sequencer.role, incoming]
      cases r.incoming <;> rfl
    · rw [seq, Sequencer.switched, incoming]
      cases r.incoming <;> rfl
    · rw [seq, Sequencer.switched, incoming]
      cases r.incoming <;> rfl
    · rw [seq, Sequencer.switched, incoming]
    · have here : mounted w ⟨n, r.incoming⟩ = (some c.reel, (s.chan ⟨n, r.incoming⟩).frames) := by
        rw [film, mounted, ctx]
        rfl
      exact congrArg some (switchOffset_of_mounted here)
  · rw [takeChangeCue_of_not_ready take record takes (fun e => hr (ready.1 e)), h]
    have told (b : NoticeBody) (t : State) : (notifyScreen n b t).seq n = t.seq n := rfl
    refine ⟨{ r'.changeCued take with st := .missed }, ?_, rfl, ?_, fun e => absurd e hr, fun _ => ⟨rfl, ?_, ?_, ?_, ?_⟩⟩
    all_goals rw [told, seq_setSeq, if_pos rfl]

end Sys2Proof.Machine

end

/-! # Proofs: cue pulses and frame events at the record (O31) -/

section

namespace Sys2Proof.Machine

theorem inWindow_iff (x w stamp : Nat) : inWindow x w stamp = true ↔ x ≤ stamp + w ∧ stamp ≤ x + w := by
  simp [inWindow]

theorem modRecord_eq_setSeq {n : Screen} {r : Changeover} {s : State} (f : Changeover → Changeover)
    (h : (s.seq n).changeover = some r) : modRecord n f s = s.setSeq n ((s.seq n).withRecord (f r)) := by
  simp [modRecord, modSeq_eq, h]

/-! ## A pulse at the record of its outgoing projector (R56, R57) -/

section

variable {p : Proj} {r : Changeover} {reel : ReelRecord} {g k : Nat} {s : State} (h : (s.seq p.screen).changeover = some r)
  (out : r.incoming = p.side.other) (film : mounted s p = (some reel, g))

include h out film

theorem recordPulse_of_count (mode : reel.mode = .count) : recordPulse p k s = s := by
  simp [recordPulse, h, out, cueRules_of_mounted film, mode]

theorem recordPulse_of_sense (mode : reel.mode = .sense) (takes : r.st.takesCues = true) :
    recordPulse p k s = pulseSense p.screen r reel.window k s := by
  obtain st | st | st | st | st := (takesCues_iff r.st).1 takes <;>
    simp [recordPulse, h, out, cueRules_of_mounted film, mode, st]

theorem recordPulse_of_checked (mode : reel.mode = .checked) (takes : r.st.takesCues = true) :
    recordPulse p k s = pulseChecked p.screen r reel.window k s := by
  obtain st | st | st | st | st := (takesCues_iff r.st).1 takes <;>
    simp [recordPulse, h, out, cueRules_of_mounted film, mode, st]

theorem recordPulse_of_switched (mode : reel.mode = .checked) (switched : r.st = .switched) :
    recordPulse p k s = if inWindow r.xco reel.window k ∧ byCount r.changeCue then
      modRecord p.screen (fun r => { r with changePulse := true }) s else s := by
  simp [recordPulse, h, out, cueRules_of_mounted film, mode, switched]

end

/-! ## Cues by count (R57) -/

section

variable {n : Screen} {out : Proj} {r : Changeover} {reel : ReelRecord} {g : Nat} {s : State}
  (h : (s.seq n).changeover = some r) (film : mounted s out = (some reel, g))

include h film

theorem motorCueByCount_takes (takes : r.st.takesCues = true) (free : r.motorCue = none)
    (here : (if reel.mode = .sense then r.xmc + reel.window else r.xmc) ≤ g) :
    motorCueByCount n out s = takeMotorCue n ⟨.count, g⟩ s := by
  simp [motorCueByCount, h, takes, free, cueRules_of_mounted film, countFrame_eq, frames_of_mounted film, here]

omit film in
theorem motorCueByCount_of_taken (taken : r.motorCue ≠ none) : motorCueByCount n out s = s := by
  simp [motorCueByCount, h, taken]

theorem changeCueByCount_takes (takes : r.st.takesCues = true) (free : r.changeCue = none)
    (here : (if reel.mode = .sense then r.xco + reel.window else r.xco) ≤ g) :
    changeCueByCount n out s = takeChangeCue n ⟨.count, g⟩ s := by
  simp [changeCueByCount, h, takes, free, cueRules_of_mounted film, countFrame_eq, frames_of_mounted film, here]

theorem changeCueByCount_of_later (later : ¬(if reel.mode = .sense then r.xco + reel.window else r.xco) ≤ g) :
    changeCueByCount n out s = s := by
  simp [changeCueByCount, h, cueRules_of_mounted film, countFrame_eq, frames_of_mounted film, later]

theorem motorCheck_of_seen (seen : reel.mode = .checked → g ≠ r.xmc + reel.window ∨ r.motorPulse = true) :
    motorCheck n out s = s := by
  unfold motorCheck
  simp only [h, cueRules_of_mounted film, frames_of_mounted film]
  rw [if_neg]
  rintro ⟨mode, -, at', -, unseen⟩
  obtain ne | pulse := seen mode
  · exact ne at'
  · exact absurd (unseen.symm.trans pulse) Bool.false_ne_true

theorem changeCheck_of_seen (seen : reel.mode = .checked → g ≠ r.xco + reel.window ∨ r.changePulse = true) :
    changeCheck n out s = s := by
  unfold changeCheck
  simp only [h, cueRules_of_mounted film, frames_of_mounted film]
  rw [if_neg]
  rintro ⟨mode, at', -, unseen⟩
  obtain ne | pulse := seen mode
  · exact ne at'
  · exact absurd (unseen.symm.trans pulse) Bool.false_ne_true

theorem motorCheck_of_unseen (mode : reel.mode = .checked) (st : r.st ≠ .switched) (at' : g = r.xmc + reel.window)
    (count : byCount r.motorCue = true) (unseen : r.motorPulse = false) :
    (motorCheck n out s).seq n = (s.seq n).withRecord { r with motorCue := mismatched r.motorCue } := by
  have told (b : NoticeBody) (t : State) : (notifyScreen n b t).seq n = t.seq n := rfl
  unfold motorCheck
  simp only [h, cueRules_of_mounted film, frames_of_mounted film]
  rw [if_pos ⟨mode, st, at', count, unseen⟩, told, modRecord_seq _ h]

theorem changeCheck_of_unseen (mode : reel.mode = .checked) (at' : g = r.xco + reel.window)
    (count : byCount r.changeCue = true) (unseen : r.changePulse = false) :
    (changeCheck n out s).seq n = (s.seq n).withRecord { r with changeCue := mismatched r.changeCue } := by
  have told (b : NoticeBody) (t : State) : (notifyScreen n b t).seq n = t.seq n := rfl
  unfold changeCheck
  simp only [h, cueRules_of_mounted film, frames_of_mounted film]
  rw [if_pos ⟨mode, at', count, unseen⟩, told, modRecord_seq _ h]

end

section

variable {n : Screen} {r : Changeover} {s : State} (out : Proj) (h : (s.seq n).changeover = some r)

include h

/-- The check of the motor cue changes no more of a record than its motor cue. -/
theorem motorCheck_seq : ∃ m, (motorCheck n out s).seq n = (s.seq n).withRecord { r with motorCue := m } := by
  have told (b : NoticeBody) (t : State) : (notifyScreen n b t).seq n = t.seq n := rfl
  unfold motorCheck
  simp only [h]
  split_ifs
  · exact ⟨mismatched r.motorCue, by rw [told, modRecord_seq _ h]⟩
  · exact ⟨r.motorCue, (withRecord_self h).symm⟩

/-- The check of a changeover cue recorded as ORDER does nothing. -/
theorem changeCheck_of_order (order : byCount r.changeCue = false) : changeCheck n out s = s := by
  simp [changeCheck, h, order]

end

/-- The motor cue of a record, which the changeover cue and its check leave alone. -/
def motorCueOf (s : State) (n : Screen) : Option (Option CueTake) := (s.seq n).changeover.map Changeover.motorCue

theorem modRecord_motorCueOf (n : Screen) (f : Changeover → Changeover) (hf : ∀ r, (f r).motorCue = r.motorCue) (s : State) :
    motorCueOf (modRecord n f s) n = motorCueOf s n := by
  simp only [motorCueOf, modRecord, seq_modSeq, if_true, Option.map_map]
  congr 1
  exact funext hf

theorem takeChangeCue_motorCueOf {n : Screen} {r : Changeover} {s : State} (take : CueTake)
    (h : (s.seq n).changeover = some r) (takes : r.st.takesCues = true) :
    motorCueOf (takeChangeCue n take s) n = motorCueOf s n := by
  by_cases ready : r.st = .ready
  · rw [motorCueOf, takeChangeCue_of_ready take h ready, motorCueOf, h]
    rfl
  · have told (b : NoticeBody) (t : State) : motorCueOf (notifyScreen n b t) n = motorCueOf t n := rfl
    rw [takeChangeCue_of_not_ready take h takes ready, told, motorCueOf, seq_setSeq, if_pos rfl, motorCueOf, h]
    rfl

theorem changeCueByCount_motorCueOf (n : Screen) (out : Proj) (s : State) :
    motorCueOf (changeCueByCount n out s) n = motorCueOf s n := by
  unfold changeCueByCount
  split
  · rename_i r h
    split_ifs with cue
    · exact takeChangeCue_motorCueOf _ h cue.1
    · rfl
  · rfl

theorem changeCheck_motorCueOf (n : Screen) (out : Proj) (s : State) : motorCueOf (changeCheck n out s) n = motorCueOf s n := by
  have told (b : NoticeBody) (t : State) : motorCueOf (notifyScreen n b t) n = motorCueOf t n := rfl
  unfold changeCheck
  split
  · dsimp only
    split_ifs
    · rw [told, modRecord_motorCueOf]
      exact fun _ => rfl
    · rfl
  · rfl

end Sys2Proof.Machine

end

/-! # Proofs: what a cue pulse and a frame event do to the record (O31) -/

section

namespace Sys2Proof.Machine

/-! ## The record's other items when a cue is taken -/

theorem takeMotorCue_record {n : Screen} {r : Changeover} {w : State} (take : CueTake) (h : (w.seq n).changeover = some r) :
    ∃ st d u, ((takeMotorCue n take w).seq n).changeover = some ((r.motorCued take).asked st d u) := by
  cases rh : r.restartHeld with
  | true => exact ⟨r.st, r.deadline, r.unavailable, by rw [takeMotorCue_of_held take h rh]⟩
  | false =>
    obtain ⟨v, st, d, u, result, seq⟩ := takeMotorCue_of_free take h rh
    have on : ((motorOn ⟨n, r.incoming⟩ (commit ⟨n, r.incoming⟩ v)).seq n).changeover =
        some ((r.motorCued take).asked st d u) := by
      rw [motorOn_seq, if_pos rfl, seq_of_seqs (commit_seqs _ _), seq]
    exact ⟨.rolling, d, u, by rw [result, modRecord_seq _ on]⟩

theorem takeChangeCue_record {n : Screen} {r : Changeover} {w : State} (take : CueTake) (h : (w.seq n).changeover = some r)
    (takes : r.st.takesCues = true) :
    ∃ st o, ((takeChangeCue n take w).seq n).changeover = some { r.changeCued take with st := st, offset := o } := by
  by_cases ready : r.st = .ready
  · exact ⟨_, _, by rw [takeChangeCue_of_ready take h ready]⟩
  · have told (b : NoticeBody) (t : State) : (notifyScreen n b t).seq n = t.seq n := rfl
    exact ⟨.missed, r.offset, by rw [takeChangeCue_of_not_ready take h takes ready, told, seq_setSeq, if_pos rfl]⟩

/-! ## The frame event before the Sequencer's part -/

/-- At the last perforation of a frame the Sequencer has the film one frame further, and nothing else that it reads is new. -/
theorem perforation_frame {p : Proj} {d : Nat} {s : State} {c : Context} (ctx : s.ctx p = some c)
    (last : d ≤ (s.chan p).phase + 1) : ∃ t, perforation p d s = sequencerFrame p t ∧ t.seqs = s.seqs ∧
      mounted t p = (some c.reel, min 65535 ((s.chan p).frames + 1)) ∧ ∀ q, q ≠ p → mounted t q = mounted s q := by
  have reel (k : Option Context) : (k.map Context.still).map Context.reel = k.map Context.reel := by cases k <;> rfl
  let u := s.modChan p (fun c => { c with phase := 0 })
  have phased : (u.chan p).frames = (s.chan p).frames := by simp [u]
  have measured := channelFrame_measured p u
  obtain ⟨-, counted, -⟩ := frame_counts (u.chan p)
  have frames : ((channelFrame p u).chan p).frames = min 65535 ((s.chan p).frames + 1) :=
    (congrArg Channel.frames measured).trans (counted.trans (by rw [phased]))
  have reels (q : Proj) : ((channelFrame p u).ctx q).map Context.reel = (s.ctx q).map Context.reel := by
    rw [← reel, channelFrame_ctx, reel]
    rfl
  refine ⟨everyCircuit (fun c => c.filmStep p ((channelFrame p u).chan p).frames) (channelFrame p u), ?_, by simp [u], ?_,
    fun q hq => ?_⟩
  · rw [perforation_last last]
    rfl
  · exact Prod.ext ((reels p).trans (by rw [ctx]; rfl)) frames
  · have others : ((channelFrame p u).chan q).frames = (u.chan q).frames :=
      (congrArg Channel.frames (channelFrame_still_of_ne hq u) :)
    exact Prod.ext (reels q) (others.trans (by simp [u, hq, mounted]))

theorem sequencerFrame_of_active {p : Proj} {s : State} (role : (s.seq p.screen).role p.side = .active)
    (shown : (s.seq p.screen).showState = .showing) :
    sequencerFrame p s = endIfReached p (recordFrame p.screen p (lightMarks p s)) := by
  simp [sequencerFrame, role, shown]

theorem sequencerFrame_of_runOff {p : Proj} {s : State} {k : RunOffFrom} (role : (s.seq p.screen).role p.side = .runOff k) :
    sequencerFrame p s = recordFrame p.screen p s := by
  simp [sequencerFrame, role]

/-! ## The record at an outgoing frame event (R54, R57) -/

theorem takesCues_ne_switched {st : RecState} (takes : st.takesCues = true) : st ≠ .switched := by
  rintro rfl
  cases takes

section

variable {p : Proj} {r : Changeover} {reel : ReelRecord} {g : Nat} {s : State} (h : (s.seq p.screen).changeover = some r)
  (out : r.incoming = p.side.other)

include h out

theorem recordFrame_of_takes (takes : r.st.takesCues = true) : recordFrame p.screen p s =
    changeCheck p.screen p (changeCueByCount p.screen p (motorCheck p.screen p (motorCueByCount p.screen p
      (strikeIfReached p.screen s)))) := by
  simp [recordFrame, h, out, takesCues_ne_switched takes]

theorem recordFrame_of_switched (switched : r.st = .switched) : recordFrame p.screen p s = changeCheck p.screen p s := by
  simp [recordFrame, h, out, switched]

omit out in
/-- The record after the strike action still takes cues, and is READY as it was. -/
theorem strikeIfReached_record (takes : r.st.takesCues = true) :
    ∃ st d u, (strikeIfReached p.screen s).seq p.screen = (s.seq p.screen).withRecord (r.asked st d u) ∧
      st.takesCues = true ∧ (st = .ready ↔ r.st = .ready) ∧ (r.restartHeld = true → st = r.st) := by
  obtain ⟨st, d, u, seq, same | ⟨armed, free, moved⟩⟩ := strikeIfReached_seq h
  · exact ⟨st, d, u, seq, by rw [same]; exact takes, by rw [same], fun _ => same⟩
  · refine ⟨st, d, u, seq, ?_, ?_, fun held => absurd (free.symm.trans held) Bool.false_ne_true⟩
    · obtain rfl | rfl := moved <;> rfl
    · obtain rfl | rfl := moved <;> simp [armed]

variable (film : mounted s p = (some reel, g)) (takes : r.st.takesCues = true) (before : g < reel.lastPicture)

include film takes before

/-- The motor cue is reached and the changeover cue is not: the frame event takes the one cue and does no more. -/
theorem frame_takes_motorCue (free : r.motorCue = none)
    (here : (if reel.mode = .sense then r.xmc + reel.window else r.xmc) ≤ g)
    (later : ¬(if reel.mode = .sense then r.xco + reel.window else r.xco) ≤ g)
    (seen : reel.mode = .checked → g ≠ r.xmc + reel.window ∨ r.motorPulse = true) :
    ∃ w st d u, endIfReached p (recordFrame p.screen p s) = takeMotorCue p.screen ⟨.count, g⟩ w ∧
      w.seq p.screen = (s.seq p.screen).withRecord (r.asked st d u) ∧ (r.restartHeld = true → st = r.st) := by
  obtain ⟨st, d, u, seq, takes', -, held⟩ := strikeIfReached_record h takes
  have struck : mounted (strikeIfReached p.screen s) p = (some reel, g) := (mounted_of_still (by simp) p).trans film
  refine ⟨strikeIfReached p.screen s, st, d, u, ?_, seq, held⟩
  have cued := motorCueByCount_takes (r := r.asked st d u) (by rw [seq]) struck takes' free here
  obtain ⟨st', d', u', record⟩ := takeMotorCue_record (r := r.asked st d u) (w := strikeIfReached p.screen s) ⟨.count, g⟩
    (by rw [seq])
  have taken : mounted (takeMotorCue p.screen ⟨.count, g⟩ (strikeIfReached p.screen s)) p = (some reel, g) :=
    (mounted_of_still (by simp) p).trans film
  have notYet : reel.mode = .checked → g ≠ r.xco + reel.window ∨ r.changePulse = true := by
    intro mode
    simp only [mode] at later
    exact Or.inl (fun e => later (by simp [e]))
  rw [recordFrame_of_takes h out takes, cued, motorCheck_of_seen record taken seen, changeCueByCount_of_later record taken later,
    changeCheck_of_seen record taken notYet, endIfReached_of_before taken before]

/-- The motor cue is taken and the changeover cue is reached: the frame event takes it and does no more. -/
theorem frame_takes_changeCue (cued : r.motorCue ≠ none) (free : r.changeCue = none)
    (here : (if reel.mode = .sense then r.xco + reel.window else r.xco) ≤ g)
    (seen : reel.mode = .checked → g ≠ r.xco + reel.window ∨ r.changePulse = true) :
    ∃ w r', endIfReached p (recordFrame p.screen p s) = takeChangeCue p.screen ⟨.count, g⟩ w ∧
      w.seq p.screen = (s.seq p.screen).withRecord r' ∧ w.still = s.still ∧ r'.incoming = r.incoming ∧
      r'.st.takesCues = true ∧ (r'.st = .ready ↔ r.st = .ready) := by
  obtain ⟨st, d, u, seq, takes', ready, -⟩ := strikeIfReached_record h takes
  obtain ⟨m, checked⟩ := motorCheck_seq (r := r.asked st d u) (s := strikeIfReached p.screen s) p (by rw [seq])
  rw [seq] at checked
  let r' : Changeover := { r.asked st d u with motorCue := m }
  have film' : mounted (motorCheck p.screen p (strikeIfReached p.screen s)) p = (some reel, g) :=
    (mounted_of_still (by simp) p).trans film
  refine ⟨motorCheck p.screen p (strikeIfReached p.screen s), r', ?_, checked, by simp, rfl, takes', ready⟩
  have takesIt := changeCueByCount_takes (r := r') (by rw [checked]) film' takes' free here
  obtain ⟨st', o, record⟩ := takeChangeCue_record (r := r') (w := motorCheck p.screen p (strikeIfReached p.screen s)) ⟨.count, g⟩
    (by rw [checked]) takes'
  have taken : mounted (takeChangeCue p.screen ⟨.count, g⟩ (motorCheck p.screen p (strikeIfReached p.screen s))) p =
      (some reel, g) := (mounted_of_still (by simp) p).trans film
  rw [recordFrame_of_takes h out takes, motorCueByCount_of_taken (r := r.asked st d u) (by rw [seq]) cued, takesIt,
    changeCheck_of_seen record taken seen, endIfReached_of_before taken before]

/-- The check of a motor cue taken by count whose pulse was not seen. -/
theorem frame_checks_motorCue {y : Nat} (mode : reel.mode = .checked) (cued : r.motorCue = some ⟨.count, y⟩)
    (unseen : r.motorPulse = false) (at' : g = r.xmc + reel.window) :
    motorCueOf (endIfReached p (recordFrame p.screen p s)) p.screen = some (some ⟨.checkMismatch, y⟩) := by
  obtain ⟨st, d, u, seq, takes', -, -⟩ := strikeIfReached_record h takes
  have struck : mounted (strikeIfReached p.screen s) p = (some reel, g) := (mounted_of_still (by simp) p).trans film
  have checked := motorCheck_of_unseen (r := r.asked st d u) (by rw [seq]) struck mode (takesCues_ne_switched takes') at'
    (by rw [cued]; rfl) unseen
  have final : mounted (recordFrame p.screen p s) p = (some reel, g) := (mounted_of_still (by simp) p).trans film
  rw [endIfReached_of_before final before, recordFrame_of_takes h out takes, changeCheck_motorCueOf,
    changeCueByCount_motorCueOf, motorCueByCount_of_taken (r := r.asked st d u) (by rw [seq]) (by rw [cued]; simp), motorCueOf,
    checked]
  simp [mismatched, cued]

end

end Sys2Proof.Machine

end

/-! # Proofs: cues act (O31) -/

section

namespace Sys2Proof.Machine

/-! ## A pulse offered to the record (R56, R57) -/

/-- The state in which an accepted pulse is offered to the record. -/
abbrev stamped (p : Proj) (s : State) : State := s.setChan p { s.chan p with lastCue := some (s.chan p).frames }

theorem stamped_mounted (p q : Proj) (s : State) : mounted (stamped p s) q = mounted s q := by
  refine Prod.ext rfl ?_
  by_cases hq : q = p
  · subst hq
    simp [mounted]
  · simp [mounted, hq]

theorem mounted_of_ctx {p : Proj} {s : State} {c : Context} (h : s.ctx p = some c) :
    mounted s p = (some c.reel, (s.chan p).frames) := by
  rw [mounted, h]
  rfl

section

variable {n : Screen} {r : Changeover} {w k : Nat} {s : State}

theorem pulseSense_motor (free : r.motorCue = none) (near : inWindow r.xmc w k = true) :
    pulseSense n r w k s = takeMotorCue n ⟨.sensor, k⟩ s := by
  simp [pulseSense, free, near]

theorem pulseSense_change (motor : ¬(r.motorCue = none ∧ inWindow r.xmc w k = true)) (free : r.changeCue = none)
    (near : inWindow r.xco w k = true) : pulseSense n r w k s = takeChangeCue n ⟨.sensor, k⟩ s := by
  rw [pulseSense, if_neg motor, if_pos ⟨free, near⟩]

theorem pulseSense_repeat (motor : ¬(r.motorCue = none ∧ inWindow r.xmc w k = true))
    (change : ¬(r.changeCue = none ∧ inWindow r.xco w k = true))
    (near : inWindow r.xmc w k = true ∨ inWindow r.xco w k = true) : pulseSense n r w k s = s := by
  rw [pulseSense, if_neg motor, if_neg change, if_pos (by simpa using near)]

theorem pulseSense_stray (motor : inWindow r.xmc w k = false) (change : inWindow r.xco w k = false) :
    pulseSense n r w k s = modRecord n (fun r => { r with stray := min 255 (r.stray + 1) }) s := by
  simp [pulseSense, motor, change]

theorem pulseChecked_motor (free : r.motorCue = none) (near : inWindow r.xmc w k = true) :
    pulseChecked n r w k s = modRecord n (fun r => { r with motorPulse := true }) s := by
  simp [pulseChecked, free, near]

theorem pulseChecked_change (motor : inWindow r.xmc w k = false) (free : r.changeCue = none)
    (near : inWindow r.xco w k = true) :
    pulseChecked n r w k s = modRecord n (fun r => { r with changePulse := true }) s := by
  simp [pulseChecked, motor, free, near]

theorem pulseChecked_stray (motor : inWindow r.xmc w k = false) (change : inWindow r.xco w k = false) :
    pulseChecked n r w k s = modRecord n (fun r => { r with stray := min 255 (r.stray + 1) }) s := by
  simp [pulseChecked, motor, change]

end

theorem ends_pulse {p : Proj} {c : Context} {s : State} (hr : s.running = true) (ctx : s.ctx p = some c)
    (fresh : ∀ y, (s.chan p).lastCue = some y → y + 12 < (s.chan p).frames) :
    ends (.cuePulse p) s (recordPulse p (s.chan p).frames (stamped p s)) := by
  have ended := ends_cuePulse hr ctx
  rwa [cuePulse_accepted (isBounce_eq_false fresh)] at ended

/-! ## A frame event of the outgoing projector -/

section

variable {n : Screen} {x : Side} {c : Context} {r : Changeover} {s : State} (hr : s.running = true)
  (ctx : s.ctx ⟨n, x⟩ = some c) (last : c.reel.format.divisor ≤ (s.chan ⟨n, x⟩).phase + 1)

include hr ctx last

/-- The event of an ACTIVE projector's frame, in the state that the film and the light marks leave. -/
theorem ends_activeFrame (role : (s.seq n).role x = .active) (shown : (s.seq n).showState = .showing) : ∃ t,
    ends (.perforationPulse ⟨n, x⟩) s (endIfReached ⟨n, x⟩ (recordFrame n ⟨n, x⟩ t)) ∧ t.seqs = s.seqs ∧
      mounted t ⟨n, x⟩ = (some c.reel, min 65535 ((s.chan ⟨n, x⟩).frames + 1)) ∧
      ∀ q, q ≠ ⟨n, x⟩ → mounted t q = mounted s q := by
  obtain ⟨t, result, seqs, film, others⟩ := perforation_frame ctx last
  have lit (q : Proj) : mounted (lightMarks ⟨n, x⟩ t) q = mounted t q := mounted_of_loaded (by simp) q
  have ended := ends_perforationPulse hr ctx
  rw [result, sequencerFrame_of_active (by rw [seq_of_seqs seqs]; exact role) (by rw [seq_of_seqs seqs]; exact shown)] at ended
  exact ⟨lightMarks ⟨n, x⟩ t, ended, (lightMarks_seqs _ _).trans seqs, (lit _).trans film, fun q hq => (lit q).trans (others q hq)⟩

/-- The event of a RUN-OFF projector's frame. -/
theorem ends_runOffFrame {k : RunOffFrom} (role : (s.seq n).role x = .runOff k) : ∃ t,
    ends (.perforationPulse ⟨n, x⟩) s (recordFrame n ⟨n, x⟩ t) ∧ t.seqs = s.seqs ∧
      mounted t ⟨n, x⟩ = (some c.reel, min 65535 ((s.chan ⟨n, x⟩).frames + 1)) := by
  obtain ⟨t, result, seqs, film, -⟩ := perforation_frame ctx last
  have ended := ends_perforationPulse hr ctx
  rw [result, sequencerFrame_of_runOff (by rw [seq_of_seqs seqs]; exact role)] at ended
  exact ⟨t, ended, seqs, film⟩

end

/-! ## The obligation -/

/-- Settles O31: a pulse is the branch of its mode at the record, a frame event the branch of the count that it reaches; the
two cues are taken by one rule each, whatever the strike action has done to the record before. -/
theorem cuesAct : Obligations.CuesAct := by
  intro n x c r s hr ctx record out p f g wd near here takes v withRec
  have film : mounted v p = (some c.reel, f) := (stamped_mounted p p s).trans (mounted_of_ctx ctx)
  have self : v.seq n = (s.seq n).withRecord (r.asked r.st r.deadline r.unavailable) := (withRecord_self record).symm
  have window (cue : Nat) : inWindow cue wd f = true ↔ near cue := inWindow_iff cue wd f
  have outside {cue : Nat} (h : ¬near cue) : inWindow cue wd f = false := by
    rw [← Bool.not_eq_true, window]
    exact h
  have changes (g : Changeover → Changeover) : modRecord n g v = withRec (g r) := modRecord_eq_setSeq g record
  have takesIt (h : takes) : r.st.takesCues = true := (takesCues_iff r.st).2 h
  refine ⟨fun fresh => ?_, fun d hd last => ?_⟩
  · have pulse : ends (.cuePulse p) s (recordPulse p f v) := ends_pulse hr ctx fresh
    refine ⟨fun mode => ?_, fun mode ht => ?_, fun mode ht => ?_, fun mode st => ?_⟩
    · rwa [recordPulse_of_count (r := r) record out film mode] at pulse
    · rw [recordPulse_of_sense (r := r) record out film mode (takesIt ht)] at pulse
      refine ⟨fun free inM => ?_, fun notM free inC => ?_, fun notM notC inside => ?_, fun notM notC => ?_⟩
      · rw [pulseSense_motor free ((window _).2 inM)] at pulse
        exact ⟨_, pulse, takeMotorCue_taken _ self (fun _ => rfl)⟩
      · rw [pulseSense_change (by rwa [window]) free ((window _).2 inC)] at pulse
        refine ⟨⟨_, pulse, takeChangeCue_taken _ self rfl (takesIt ht) Iff.rfl (stamped_mounted _ _ _)⟩, fun ready => ?_⟩
        rwa [takeChangeCue_of_not_ready _ (by exact record) (takesIt ht) ready] at pulse
      · rwa [pulseSense_repeat (by rwa [window]) (by rwa [window]) (by rwa [window, window])] at pulse
      · rwa [pulseSense_stray (outside notM) (outside notC), changes] at pulse
    · rw [recordPulse_of_checked (r := r) record out film mode (takesIt ht)] at pulse
      refine ⟨fun free inM => ?_, fun notM inC free => ?_, fun notM notC => ?_⟩
      · rwa [pulseChecked_motor free ((window _).2 inM), changes] at pulse
      · rwa [pulseChecked_change (outside notM) free ((window _).2 inC), changes] at pulse
      · rwa [pulseChecked_stray (outside notM) (outside notC), changes] at pulse
    · rw [recordPulse_of_switched (r := r) record out film mode st] at pulse
      refine ⟨fun y cued inC => ?_, fun y cued => ?_⟩
      · rwa [if_pos ⟨(window _).2 inC, by rw [cued]; rfl⟩, changes] at pulse
      · rwa [if_neg (by rw [cued]; simp [byCount])] at pulse
  · have divisor : d = c.reel.format.divisor := by
      rw [hd]
      cases c.reel.format <;> rfl
    rw [divisor] at last
    refine ⟨fun shown role before ht => ?_, fun k role st mode at' unseen y how cued => ?_⟩
    · obtain ⟨t, ended, seqs, film, others⟩ := ends_activeFrame hr ctx last role shown
      have same : t.seq n = s.seq n := seq_of_seqs seqs n
      have record' : (t.seq n).changeover = some r := by rw [same]; exact record
      have ne : (⟨n, r.incoming⟩ : Proj) ≠ ⟨n, x⟩ := by rw [out]; cases x <;> simp [Side.other]
      refine ⟨fun free reached later seen => ?_, fun cued free reached seen => ?_, fun mode y cued unseen at' => ?_⟩
      · obtain ⟨w, st, d, u, result, seq, held⟩ :=
          frame_takes_motorCue (p := ⟨n, x⟩) record' out film (takesIt ht) before free reached later seen
        rw [result] at ended
        exact ⟨_, ended, takeMotorCue_taken _ (seq.trans (by rw [same])) held⟩
      · obtain ⟨w, r', result, seq, still, incoming, takes', ready⟩ :=
          frame_takes_changeCue (p := ⟨n, x⟩) record' out film (takesIt ht) before cued free reached seen
        rw [result] at ended
        exact ⟨_, ended, takeChangeCue_taken _ (seq.trans (by rw [same])) incoming takes' ready
          ((mounted_of_still still _).trans (others _ ne))⟩
      · have checked := frame_checks_motorCue (p := ⟨n, x⟩) record' out film (takesIt ht) before mode cued unseen at'
        obtain ⟨r', hr', cue⟩ := Option.map_eq_some_iff.1 checked
        exact ⟨_, r', ended, hr', cue⟩
    · obtain ⟨t, ended, seqs, film⟩ := ends_runOffFrame hr ctx last role
      have record' : (t.seq n).changeover = some r := by rw [seq_of_seqs seqs]; exact record
      rw [recordFrame_of_switched (p := ⟨n, x⟩) record' out st] at ended
      refine ⟨_, ended, fun count => ?_, fun order => ?_⟩
      · subst count
        rw [changeCheck_of_unseen record' film mode at' (by rw [cued]; rfl) unseen, cued]
        rfl
      · subst order
        rw [changeCheck_of_order ⟨n, x⟩ record' (by rw [cued]; rfl), record']

end Sys2Proof.Machine

end

/-! # Proofs: an advance of booth time (O50) -/

section

namespace Sys2Proof.Machine

/-! ## Doing one thing for names that ask for nothing, but one -/

theorem forEach_of_unmoved {α : Type} {names : List α} {f : α → State → State} {s : State} (h : ∀ x ∈ names, f x s = s) :
    forEach names f s = s := by
  unfold forEach
  induction names with
  | nil => rfl
  | cons x xs ih =>
    rw [List.foldl_cons, h x List.mem_cons_self]
    exact ih (fun y hy => h y (List.mem_cons_of_mem x hy))

/-- Where one name moves `s` to `t`, and no other name moves either, doing it for all is doing it for that one. -/
theorem forEach_of_one {α : Type} {names : List α} {f : α → State → State} {c : α} {s t : State} (nodup : names.Nodup)
    (mem : c ∈ names) (moves : f c s = t) (others : ∀ d ∈ names, d ≠ c → f d s = s ∧ f d t = t) : forEach names f s = t := by
  obtain ⟨before, after, rfl⟩ := List.append_of_mem mem
  have once : c ∉ before ++ after := (List.nodup_middle.1 nodup).notMem
  have ne {d : α} (hd : d ∈ before ++ after) : d ≠ c := fun e => once (e ▸ hd)
  have first : forEach before f s = s := forEach_of_unmoved (fun d hd =>
    (others d (by simp [hd]) (ne (by simp [hd]))).1)
  have rest : forEach after f t = t := forEach_of_unmoved (fun d hd =>
    (others d (by simp [hd]) (ne (by simp [hd]))).2)
  unfold forEach at first rest ⊢
  rw [List.foldl_append, first, List.foldl_cons, moves, rest]

/-! ## The advance itself (R129, R131, R166) -/

theorem advanceBoothTime_eq (s : State) : advanceBoothTime s =
    { s with
      boothTime := s.boothTime + 1, tickCount := 0, stampSub := 0,
      circuits := s.circuits.map (Duo.map Circuit.timeStep), seqs := s.seqs.map Sequencer.intervalStep } := rfl

theorem exec_boothTimeAdvance {s : State} (hr : s.running = true) :
    exec .boothTimeAdvance s = .next (boothWaits (settle (advanceBoothTime s))) := by
  have taken : exec .boothTimeAdvance s = .next (if s.running then advanceWithWaits s else s) := rfl
  rw [taken, if_pos hr]
  rfl

theorem timeStep_of_no_fade {c : Circuit} (h : c.fade = none) : c.timeStep = c := by simp [Circuit.timeStep, h]

theorem timeStep_of_time {c : Circuit} {f : Fade} (h : c.fade = some f) (time : f.film = none) :
    c.timeStep = c.fadeStep f none := by
  simp [Circuit.timeStep, h, time]

theorem timeStep_of_marked {c : Circuit} {f : Fade} {m : FilmFade} (h : c.fade = some f) (film : f.film = some m)
    (marked : m.marked = true) : c.timeStep = { c with engine := f.l1, fade := none } := by
  simp [Circuit.timeStep, h, film, marked]

theorem timeStep_of_unmarked {c : Circuit} {f : Fade} {m : FilmFade} (h : c.fade = some f) (film : f.film = some m)
    (marked : m.marked = false) : c.timeStep = c := by
  simp [Circuit.timeStep, h, film, marked]

/-! ## The waits (R167) -/

theorem due_iff (s : State) (d : Option BoothTime) : due s d = true ↔ ∃ x, d = some x ∧ passed s.boothTime x = true := by
  cases d <;> simp [due]

theorem leadDue_iff (s : State) : leadDue s = true ↔ ∃ e rest, s.budget.queue = e :: rest ∧
    passed s.boothTime (e.deadline - BitVec.ofNat 24 (10 * s.budget.lead)) = true ∧ s.budget.leadTaken = false := by
  cases h : s.budget.queue <;> simp [leadDue, headLeadPassed, h, leadPassed, leadPoint]

theorem lateDue_iff (s : State) (p : Proj) : lateDue p s = true ↔
    ∃ e, entryOf s p = some e ∧ passed s.boothTime e.deadline = true ∧ e.lateSent = false := by
  cases h : entryOf s p <;> simp [lateDue, h]

theorem takeWait_of_not_due {c : Instr} {s : State} (h : isDue s c = false) : takeWait c s = s := by simp [takeWait, h]

/-- A wait that is due ends as its own row takes it. -/
theorem exec_of_due {c : Instr} {s : State} (hr : s.running = true) (h : isDue s c = true) :
    exec c s = .next (takeWait c s) := by
  rw [takeWait, if_pos h]
  cases c <;> simp only [isDue, Bool.false_eq_true] at h
  case intervalExpiry n =>
    have row : exec (.intervalExpiry n) s = .next (event (fun t => if intervalDue t n then expireInterval n t else t) s) := rfl
    rw [row, event_running _ _ hr, if_pos h]
    rfl
  case quenchDue p =>
    have row : exec (.quenchDue p) s = .next (event (fun t => if due t (t.lamp p).quenchDue then quenchLamp p t else t) s) := rfl
    rw [row, event_running _ _ hr, if_pos h]
    rfl
  case quenchingEnd p =>
    have row : exec (.quenchingEnd p) s = .next (event (fun t =>
      if (t.lamp p).st = .quenching ∧ due t (t.lamp p).quenchingEnd then quenchingEnds p t else t) s) := rfl
    rw [row, event_running _ _ hr, if_pos (by simpa using h)]
    rfl
  case leadPoint =>
    have row : exec .leadPoint s = .next (event (fun t => if leadDue t then askExamine t else t) s) := rfl
    rw [row, event_running _ _ hr, if_pos h]
    rfl
  case strikeLate p =>
    have row : exec (.strikeLate p) s = .next (event (lateStrike p) s) := rfl
    rw [row, event_running _ _ hr]
    rfl

theorem waitRows_nodup : waitRows.Nodup := by decide

theorem boothWaits_of_none_due {s : State} (h : ∀ c ∈ waitRows, isDue s c = false) : boothWaits s = s :=
  forEach_of_unmoved (fun c hc => takeWait_of_not_due (h c hc))

theorem boothWaits_of_one_due {c : Instr} {s t : State} (mem : c ∈ waitRows) (taken : takeWait c s = t)
    (others : ∀ d ∈ waitRows, d ≠ c → isDue s d = false ∧ isDue t d = false) : boothWaits s = t :=
  forEach_of_one waitRows_nodup mem taken (fun d hd ne =>
    ⟨takeWait_of_not_due (others d hd ne).1, takeWait_of_not_due (others d hd ne).2⟩)

/-- Settles O50: the advance is one write of the state, each wait's test is read off its definition, and a walk over the waits
moves only where one is due. -/
theorem boothTimeAdvances : Obligations.BoothTimeAdvances := by
  refine ⟨fun s hr => ⟨s.circuits.map (Duo.map Circuit.timeStep), s.seqs.map Sequencer.intervalStep, ?_, fun n => ?_,
    fun c => ?_⟩, fun w n p => ⟨?_, ?_, ?_, ?_, ?_⟩, fun w none => boothWaits_of_none_due none,
    fun c w t hr mem isdue others taken => ?_⟩
  · rw [exec_boothTimeAdvance hr, advanceBoothTime_eq]
  · rw [Quad.get_map]
    rfl
  · have stepped : ((s.circuits.map (Duo.map Circuit.timeStep)).get c.screen).get c.kind = (s.circ c).timeStep := by
      simp [State.circ]
    rw [stepped]
    exact ⟨timeStep_of_no_fade, fun f fade => ⟨timeStep_of_time fade, fun m => timeStep_of_marked fade,
      fun m => timeStep_of_unmarked fade⟩⟩
  · simp [isDue, intervalDue, and_assoc]
  · exact due_iff _ _
  · simp [isDue, due_iff]
  · exact leadDue_iff w
  · exact lateDue_iff w p
  · have same := (exec_of_due hr isdue).symm.trans taken
    exact boothWaits_of_one_due mem (Host.Outcome.next.inj same) others

end Sys2Proof.Machine

end

/-! # Proofs: the rules the lamp orders and the lamp events share

Writes of one lamp record, a change of it with the stub mark examined, a row that acts under its guard, and what an order of a
screen's own line needs to act. -/

section

namespace Sys2Proof.Machine

/-! ## Writes of one lamp -/

theorem setLamp_setLamp (s : State) (p : Proj) (v w : Lamp) : (s.setLamp p v).setLamp p w = s.setLamp p w := by
  obtain ⟨n, x⟩ := p
  cases n <;> cases x <;> rfl

@[simp] theorem lamp_notifyScreen (n : Screen) (b : NoticeBody) (s : State) (p : Proj) :
    (notifyScreen n b s).lamp p = s.lamp p := rfl
@[simp] theorem budget_notifyScreen (n : Screen) (b : NoticeBody) (s : State) : (notifyScreen n b s).budget = s.budget := rfl

theorem setLamp_notifyScreen (n : Screen) (b : NoticeBody) (s : State) (p : Proj) (v : Lamp) :
    (notifyScreen n b s).setLamp p v = notifyScreen n b (s.setLamp p v) := rfl

theorem askExamine_eq (s : State) : askExamine s = examined s := rfl

/-! ## The stub mark (R97) -/

theorem stubMark_eq_true {l : Lamp} (h : l.carbon ≤ l.settings.margin) : l.stubMark = true := by
  simpa [Lamp.stubMark] using h

/-- A change of the record sends CARBON STUB where it takes the carbon to its margin from above it. -/
theorem withStubCheck_eq (p : Proj) (f : Lamp → Lamp) (s : State) : withStubCheck p f s =
    if (s.lamp p).settings.margin < (s.lamp p).carbon ∧ (f (s.lamp p)).carbon ≤ (f (s.lamp p)).settings.margin then
      notifyScreen p.screen (.carbonStub p (f (s.lamp p)).carbon) (s.setLamp p (f (s.lamp p)))
    else s.setLamp p (f (s.lamp p)) := by
  simp [withStubCheck, modLamp_eq, Lamp.stubMark]

/-! ## The state of a lamp (R73) -/

theorem inUse_iff (l : Lamp) : l.inUse = true ↔ l.st = .striking ∨ l.st = .standby ∨ l.st = .running := by
  cases st : l.st <;> simp [Lamp.inUse, st]

/-! ## A row under its guard -/

section

variable {c : Instr} {s : State} {g : State → Prop} [DecidablePred g] {f : State → State}
  (row : exec c s = .next (event (fun t => if g t then f t else t) s)) (hr : s.running = true)

include row hr

theorem ends_of_guard (h : g s) : ends c s (f s) := by
  have e := ends_of_event row hr
  rwa [if_pos h] at e

theorem ends_of_no_guard (h : ¬ g s) : ends c s s := by
  have e := ends_of_event row hr
  rwa [if_neg h] at e

end

/-! ## An order of a lamp's own line -/

theorem ownOnly_projCode (p : Proj) : ownOnly (.screen p.screen) (screenOfCode (projCode p)) = true := by
  simp [ownOnly, isLineOf, screenOfCode]

end Sys2Proof.Machine

end

/-! # Proofs: SET LAMP and STRIKE (O33, O34) -/

section

namespace Sys2Proof.Machine

/-! ## SET LAMP (R74, R75) -/

theorem ends_setLamp {p : Proj} {x : LampSettings} {s : State} (hf : lineFree s (.screen p.screen))
    (ok : settingsOk x = true) (room : raiseRefused p x s = false) : ends (.setLamp (.screen p.screen) (projCode p) x) s
      (takeRunCurrent p x.run (withStubCheck p (fun l => l.withSettings x) (reply (.screen p.screen) (.done 0x0E) s))) := by
  have check : checkOrder (.screen p.screen) (.setLamp (projCode p) x) s = none := by
    simp [checkOrder, checkSetLamp, ok, room]
  exact ends_of_done (f := fun t => takeRunCurrent p x.run (withStubCheck p (fun l => l.withSettings x) t)) rfl hf (by simp)
    (ownOnly_projCode p) check rfl (fun t => by simp [applyOrder, applySetLamp]) rfl

/-- The new I_run becomes the lit current of the lamp (R75). -/
def takesRun (s : State) (p : Proj) : Bool :=
  (s.lamp p).inUse && (overrideOf s p).isNone && (s.lamp p).litCurrent.isSome

theorem takeRunCurrent_eq (p : Proj) (run : Nat) (s : State) : takeRunCurrent p run s =
    if takesRun s p = true then
      if run < (s.lamp p).litCurrent.getD 0 then examined (s.setLamp p { s.lamp p with litCurrent := some run })
      else s.setLamp p { s.lamp p with litCurrent := some run }
    else s := by
  cases used : (s.lamp p).inUse && (overrideOf s p).isNone <;> cases current : (s.lamp p).litCurrent <;>
    simp [takeRunCurrent, takesRun, used, current, modLamp_eq, askExamine_eq]

@[simp] theorem withSettings_litCurrent (l : Lamp) (x : LampSettings) : (l.withSettings x).litCurrent = l.litCurrent := rfl
@[simp] theorem withSettings_inUse (l : Lamp) (x : LampSettings) : (l.withSettings x).inUse = l.inUse := rfl

section

variable (p : Proj) (x : LampSettings) (s : State)

theorem newSettings_eq : withStubCheck p (fun l => l.withSettings x) s =
    if (s.lamp p).settings.margin < (s.lamp p).carbon ∧ (s.lamp p).carbon ≤ x.margin then
      notifyScreen p.screen (.carbonStub p (s.lamp p).carbon) (s.setLamp p ((s.lamp p).withSettings x))
    else s.setLamp p ((s.lamp p).withSettings x) := withStubCheck_eq _ _ _

theorem newSettings_lamp : (withStubCheck p (fun l => l.withSettings x) s).lamp p = (s.lamp p).withSettings x := by
  rw [newSettings_eq]
  split_ifs <;> simp

theorem newSettings_override : overrideOf (withStubCheck p (fun l => l.withSettings x) s) p = overrideOf s p := by
  rw [newSettings_eq]
  split_ifs <;> rfl

theorem newSettings_takesRun : takesRun (withStubCheck p (fun l => l.withSettings x) s) p = takesRun s p := by
  simp [takesRun, newSettings_lamp, newSettings_override]

/-- The record of a lamp with new settings, which takes the new running current or keeps its own (R75). -/
def Lamp.refitted (l : Lamp) (x : LampSettings) (takes : Bool) : Lamp :=
  { l.withSettings x with litCurrent := if takes = true then some x.run else l.litCurrent }

/-- The state of a lamp newly set, with the stub mark's notice (R75, R97). -/
def refitted : State :=
  if (s.lamp p).settings.margin < (s.lamp p).carbon ∧ (s.lamp p).carbon ≤ x.margin then
    notifyScreen p.screen (.carbonStub p (s.lamp p).carbon) (s.setLamp p ((s.lamp p).refitted x (takesRun s p)))
  else s.setLamp p ((s.lamp p).refitted x (takesRun s p))

/-- The settings and the running current are written to one record one after the other, with the notice between. -/
theorem takeRunCurrent_newSettings : takeRunCurrent p x.run (withStubCheck p (fun l => l.withSettings x) s) =
    if takesRun s p = true ∧ x.run < (s.lamp p).litCurrent.getD 0 then examined (refitted p x s) else refitted p x s := by
  have twice (v : Lamp) : (withStubCheck p (fun l => l.withSettings x) s).setLamp p v =
      if (s.lamp p).settings.margin < (s.lamp p).carbon ∧ (s.lamp p).carbon ≤ x.margin then
        notifyScreen p.screen (.carbonStub p (s.lamp p).carbon) (s.setLamp p v)
      else s.setLamp p v := by
    rw [newSettings_eq]
    split_ifs
    · rw [setLamp_notifyScreen, setLamp_setLamp]
    · rw [setLamp_setLamp]
  rw [takeRunCurrent_eq, newSettings_takesRun, newSettings_lamp, twice]
  cases h : takesRun s p with
  | true => simp [refitted, Lamp.refitted, h]
  | false => simp [refitted, Lamp.refitted, h, newSettings_eq] <;> rfl

end

/-- Settles O33, by the one write that an accepted SET LAMP comes to. -/
theorem setLampTakesTheSettings : Obligations.SetLampTakesTheSettings := by
  intro p x s hf ok room
  have e := ends_setLamp hf ok room
  rw [takeRunCurrent_newSettings] at e
  exact e

/-! ## STRIKE (R78, R79, R112) -/

/-- What the flag of a STRIKE order asks for. -/
theorem targetOfFlag_of_le {run : Nat} (h : run ≤ 1) : targetOfFlag run = some (if run = 1 then .running else .standby) := by
  obtain rfl | rfl : run = 0 ∨ run = 1 := by omega
  all_goals rfl

theorem ends_strike {p : Proj} {run : Nat} {s : State} (hf : lineFree s (.screen p.screen)) (fire : s.fire.on = false)
    (flag : run ≤ 1) (bar : strikeBar (s.lamp p) = none) : ends (.strike (.screen p.screen) (projCode p) run) s
      (strikeRequest p (if run = 1 then .running else .standby) (after s.boothTime 600)
        (reply (.screen p.screen) (.accepted 0x0F) s)) := by
  have check : checkOrder (.screen p.screen) (.strike (projCode p) run) s = none := by
    simp [checkOrder, checkStrike, targetOfFlag_of_le flag, fire, bar]
  exact ends_of_accepted (f := fun t => strikeRequest p (if run = 1 then .running else .standby) (after t.boothTime 600) t) rfl hf
    (by simp) (ownOnly_projCode p) check rfl (fun t => by simp [applyOrder, applyStrike, targetOfFlag_of_le flag]) rfl

section

variable {p : Proj} {x : Target} {d : BoothTime} {s : State} (fire : s.fire.on = false)

include fire

theorem strikeRequest_of_dark (dark : (s.lamp p).st = .dark) (carbon : (s.lamp p).settings.margin < (s.lamp p).carbon)
    (entry : entryOf s p = none) : strikeRequest p x d s =
      { s.setLamp p { s.lamp p with st := .queued, target := some x } with
        budget := { s.budget with
          queue := insertEntry ⟨p, d, s.budget.nextSeq, false, false⟩ s.budget.queue,
          nextSeq := s.budget.nextSeq + 1, examine := true } } := by
  have entry' (v : Lamp) : entryOf (s.setLamp p v) p = none := entry
  simp [strikeRequest, budgetRequest, fire, dark, stubMark_eq_false carbon, modLamp_eq, entry'] <;> rfl

theorem strikeRequest_of_queued (queued : (s.lamp p).st = .queued) : strikeRequest p x d s =
    (budgetRequest p d s).modLamp p (fun l => { l with target := raiseTarget l.target x }) := by
  simp [strikeRequest, fire, queued]

theorem budgetRequest_of_later {e : Entry} (entry : entryOf s p = some e) (later : earlier d e.deadline = false) :
    budgetRequest p d s = s := by
  simp [budgetRequest, fire, entry, later]

theorem budgetRequest_of_earlier {e : Entry} (entry : entryOf s p = some e) (sooner : earlier d e.deadline = true) :
    budgetRequest p d s = { s with budget := { s.budget with
      queue := insertEntry { e with deadline := d } (dropEntry p s.budget.queue), examine := true } } := by
  simp [budgetRequest, fire, entry, sooner] <;> rfl

end

theorem raiseTarget_of_flag (run : Nat) (old : Option Target) :
    raiseTarget old (if run = 1 then .running else .standby) = if run = 1 then some .running else old := by
  by_cases h : run = 1 <;> simp [h, raiseTarget]

/-- Settles O34, by the lamp's state and, for a QUEUED lamp, by which of the two deadlines is the earlier. -/
theorem strikeQueuesTheLamp : Obligations.StrikeQueuesTheLamp := by
  intro p run s hf fire flag target v
  have fire' : v.fire.on = false := fire
  refine ⟨fun dark carbon entry => ?_, fun queued e entry => ?_⟩
  · have e := ends_strike hf fire flag (by simp [strikeBar, dark, stubMark_eq_false carbon])
    rw [strikeRequest_of_dark fire' dark carbon entry] at e
    exact e
  · have f := ends_strike hf fire flag (by simp [strikeBar, queued])
    rw [strikeRequest_of_queued fire' queued, modLamp_eq, raiseTarget_of_flag] at f
    refine ⟨fun later => ?_, fun sooner => ?_⟩
    · rw [budgetRequest_of_later fire' entry later] at f
      exact f
    · rw [budgetRequest_of_earlier fire' entry sooner] at f
      exact f

end Sys2Proof.Machine

end

/-! # Proofs: QUENCH (O35) -/

section

namespace Sys2Proof.Machine

/-! ## A request that leaves the queue (R113) -/

theorem dropEntry_of_none {s : State} {p : Proj} (h : entryOf s p = none) : dropEntry p s.budget.queue = s.budget.queue := by
  have other : ∀ e ∈ s.budget.queue, (e.lamp != p) = true := by simpa [entryOf] using h
  exact List.filter_eq_self.2 other

theorem dropEntry_dropEntry (p : Proj) (q : List Entry) : dropEntry p (dropEntry p q) = dropEntry p q := by
  simp [dropEntry]

theorem withdrawRequest_of_none {s : State} {p : Proj} (h : entryOf s p = none) : withdrawRequest p s = s := by
  simp [withdrawRequest, h]

theorem withdrawRequest_queue (p : Proj) (s : State) : (withdrawRequest p s).budget.queue = dropEntry p s.budget.queue := by
  have withdrawn : (withdrawEntry p s).budget.queue = dropEntry p s.budget.queue := by
    unfold withdrawEntry
    dsimp only
    split_ifs <;> rfl
  unfold withdrawRequest
  split
  next entry => exact (dropEntry_of_none entry).symm
  next => exact withdrawn

theorem quenchLamp_queue (p : Proj) (s : State) : (quenchLamp p s).budget.queue = s.budget.queue ∨
    (quenchLamp p s).budget.queue = dropEntry p s.budget.queue := by
  cases st : (s.lamp p).st
  case queued => exact Or.inr (by simpa [quenchLamp, st] using withdrawRequest_queue p s)
  all_goals exact Or.inl (by simp [quenchLamp, st, askExamine_eq, examined])

theorem quenchLamp_of_inUse {p : Proj} {s : State} (h : (s.lamp p).inUse = true) :
    quenchLamp p s = examined (s.setLamp p ((s.lamp p).quenched s.boothTime)) := by
  obtain st | st | st := (inUse_iff _).1 h <;> simp [quenchLamp, st, modLamp_eq, askExamine_eq]

theorem quenchLamp_of_out {p : Proj} {s : State} (h : (s.lamp p).st = .dark ∨ (s.lamp p).st = .quenching) :
    quenchLamp p s = s := by
  obtain st | st := h <;> simp [quenchLamp, st]

/-! ## What the Sequencer does with a lost request -/

@[simp] theorem lampUnavailable_lamps (p : Proj) (s : State) : (lampUnavailable p s).lamps = s.lamps := by
  unfold lampUnavailable
  dsimp only
  split_ifs
  · rfl
  · split
    · split_ifs <;> rfl
    · rfl

@[simp] theorem lampUnavailable_budget (p : Proj) (s : State) : (lampUnavailable p s).budget = s.budget := by
  unfold lampUnavailable
  dsimp only
  split_ifs
  · rfl
  · split
    · split_ifs <;> rfl
    · rfl

/-! ## QUENCH (R91) -/

theorem ends_quench {p : Proj} {s : State} (hf : lineFree s (.screen p.screen))
    (free : (s.lamp p).inUse = true → usedByShow s p = false) : ends (.quench (.screen p.screen) (projCode p)) s
      (quenchByOrder p (reply (.screen p.screen) (.done 0x10) s)) := by
  have check : checkOrder (.screen p.screen) (.quench (projCode p)) s = none := by
    simpa [checkOrder, checkQuench] using free
  exact ends_of_done rfl hf (by simp) (ownOnly_projCode p) check rfl (fun t => by simp [applyOrder, applyQuench]) rfl

theorem quenchByOrder_of_fault {p : Proj} {s : State} (h : (s.lamp p).st = .fault) :
    quenchByOrder p s = notifyScreen p.screen (.lampDark p) (s.setLamp p (s.lamp p).unfaulted) := by
  simp [quenchByOrder, h, modLamp_eq]

theorem quenchByOrder_of_none {p : Proj} {s : State} (fault : (s.lamp p).st ≠ .fault) (entry : entryOf s p = none) :
    quenchByOrder p s = quenchLamp p s := by
  simp [quenchByOrder, fault, entry, withdrawRequest_of_none entry]

/-- A QUEUED lamp comes out DARK, with its request withdrawn. -/
theorem quenchByOrder_of_queued {p : Proj} {s : State} (h : (s.lamp p).st = .queued) :
    (quenchByOrder p s).lamp p = { s.lamp p with st := .dark, target := none } ∧
      (quenchByOrder p s).budget.queue = dropEntry p s.budget.queue := by
  have told : (quenchByOrder p s).lamps = (quenchLamp p (withdrawRequest p s)).lamps ∧
      (quenchByOrder p s).budget = (quenchLamp p (withdrawRequest p s)).budget := by
    simp only [quenchByOrder, h]
    split_ifs <;> simp_all
  obtain ⟨lamps, budget⟩ := told
  have leads : leadsOut { s.lamp p with st := .dark, target := none } p (withdrawRequest p s) :=
    withdrawRequest_leadsOut p (Lamp.leadsTo_of_queued h s.boothTime)
  refine ⟨?_, ?_⟩
  · rw [lamp_of_lamps lamps, quenchLamp_lamp]
    exact leads.1
  · rw [budget]
    obtain same | again := quenchLamp_queue p (withdrawRequest p s)
    · rw [same, withdrawRequest_queue]
    · rw [again, withdrawRequest_queue, dropEntry_dropEntry]

/-- Settles O35, by the lamp's state. -/
theorem quenchPutsTheLampOut : Obligations.QuenchPutsTheLampOut := by
  intro p s hf v
  refine ⟨fun queued => ?_, fun used entry free => ?_, fun fault => ?_, fun out entry => ?_⟩
  · obtain ⟨lamp, queue⟩ := quenchByOrder_of_queued (s := v) queued
    exact ⟨_, ends_quench hf (fun used => by simp [Lamp.inUse, queued] at used), lamp, queue⟩
  · have fault : (v.lamp p).st ≠ .fault := by
      obtain st | st | st := (inUse_iff _).1 used <;> simp [v, st]
    have e := ends_quench hf (fun _ => free)
    rw [quenchByOrder_of_none fault entry, quenchLamp_of_inUse (s := v) used] at e
    exact e
  · have e := ends_quench hf (fun used => by simp [Lamp.inUse, fault] at used)
    rw [quenchByOrder_of_fault (s := v) fault] at e
    exact e
  · have fault : (v.lamp p).st ≠ .fault := by obtain st | st := out <;> simp [v, st]
    have e := ends_quench hf (fun used => by obtain st | st := out <;> simp [Lamp.inUse, st] at used)
    rw [quenchByOrder_of_none fault entry, quenchLamp_of_out (s := v) out] at e
    exact e

end Sys2Proof.Machine

end

/-! # Proofs: TRIM, the lit interval and the figures of a forecast (O36) -/

section

namespace Sys2Proof.Machine

/-! ## Rounding up -/

theorem ceilDiv_bounds (a : Nat) {b : Nat} (h : 0 < b) : a ≤ b * ceilDiv a b ∧ b * ceilDiv a b < a + b := by
  have split : b * ((a + b - 1) / b) + (a + b - 1) % b = a + b - 1 := Nat.div_add_mod _ _
  have rest : (a + b - 1) % b < b := Nat.mod_lt _ h
  unfold ceilDiv
  omega

/-! ## A forecast is kept (R103, R105) -/

theorem keepForecast_silent {p : Proj} {f : Forecast} {s : State} (h : f.isShort = false ∨ (s.lamp p).forecast.isShort = true) :
    keepForecast p f s = s.setLamp p { s.lamp p with forecast := f } := by
  cases f <;> cases old : (s.lamp p).forecast.isShort <;> simp_all [keepForecast, Forecast.isShort, modLamp_eq]

theorem keepForecast_turned {p : Proj} {x : Figures} {s : State} (old : (s.lamp p).forecast.isShort = false) :
    keepForecast p (.short x) s =
      notifyScreen p.screen (.carbonShort p x.need x.available x.spare) (s.setLamp p { s.lamp p with forecast := .short x }) := by
  simp [keepForecast, old, modLamp_eq]

theorem verdict_of_enough {f : Figures} (h : (f.need : Int) ≤ f.available) : f.verdict = .enough f := if_pos h

theorem verdict_of_short {f : Figures} (h : f.available < f.need) : f.verdict = .short f := if_neg (by omega)

/-! ## The lit interval (R104) -/

/-- What a single forecast finds (R104). -/
def singleVerdict (s : State) (p : Proj) : Forecast :=
  match s.ctx p with
  | none => .noReel
  | some c => (figuresOf s p c (s.lamp p).chosenWarm (s.lamp p).chosenBy).verdict

/-- The figures do not depend on the tick count of the lit interval. -/
theorem singleVerdict_forecastTicks (s : State) (p : Proj) (k : Nat) :
    singleVerdict (s.setLamp p { s.lamp p with forecastTicks := k }) p = singleVerdict s p := by
  unfold singleVerdict
  rw [setLamp_ctx]
  cases s.ctx p with
  | none => rfl
  | some c =>
    simp only [figuresOf, forecastCurrent, effectiveCurrent, standbySeconds, runSeconds, lamp_setLamp]
    rfl

theorem singleForecast_eq (p : Proj) (s : State) : singleForecast p s = keepForecast p (singleVerdict s p) s := by
  unfold singleForecast singleVerdict
  cases s.ctx p <;> rfl

theorem ends_litInterval {p : Proj} {s : State} (hr : s.running = true) (lit : (s.lamp p).lit = true) :
    ends (.litIntervalForecast p) s
      (keepForecast p (singleVerdict s p) (s.setLamp p { s.lamp p with forecastTicks := 0 })) := by
  have e : ends (.litIntervalForecast p) s (singleForecast p (s.modLamp p (fun l => { l with forecastTicks := 0 }))) :=
    ends_of_guard (g := fun t => (t.lamp p).lit = true)
      (f := fun t => singleForecast p (t.modLamp p (fun l => { l with forecastTicks := 0 }))) rfl hr lit
  rwa [singleForecast_eq, modLamp_eq, singleVerdict_forecastTicks] at e

/-! ## TRIM (R93) -/

theorem ends_trim {p : Proj} {n : Nat} {s : State} (hf : lineFree s (.screen p.screen)) (length : n ≤ 6000)
    (dark : (s.lamp p).st = .dark) : ends (.trim (.screen p.screen) (projCode p) n) s
      (trimLamp p n (reply (.screen p.screen) (.done 0x11) s)) := by
  have check : checkOrder (.screen p.screen) (.trim (projCode p) n) s = none := by
    simp [checkOrder, checkTrim, within, length, dark]
  exact ends_of_done rfl hf (by simp) (ownOnly_projCode p) check rfl (fun t => by simp [applyOrder, applyTrim]) rfl

theorem trimLamp_of_empty {p : Proj} {s : State} (h : s.ctx p = none) (n : Nat) :
    trimLamp p n s = withStubCheck p (fun l => { l with carbon := n }) s := by
  simp [trimLamp, h]

theorem trimLamp_of_valid {p : Proj} {s : State} {c : Context} (h : s.ctx p = some c) (n : Nat) :
    trimLamp p n s = warmChosen p (economyChoice p (withStubCheck p (fun l => { l with carbon := n }) s)) := by
  simp [trimLamp, h]

/-! ## The currents and the segments (R100 to R102) -/

section

variable (s : State) (p : Proj) (warm : Nat)

theorem forecastCurrent_of_unlit (h : (s.lamp p).lit = false) : forecastCurrent s p = effectiveCurrent s p := by
  simp [forecastCurrent, h]

theorem forecastCurrent_of_lit {i : Nat} (h : (s.lamp p).lit = true) (current : (s.lamp p).litCurrent = some i) :
    forecastCurrent s p = i := by
  simp [forecastCurrent, h, current]

theorem standbySeconds_of_none
    (h : (s.lamp p).st = .running ∨ (s.lamp p).target = some .running ∨ (s.lamp p).quenchDue ≠ none) :
    standbySeconds s p warm = 0 := by
  simp only [standbySeconds, Option.isSome_iff_ne_none]
  exact if_pos h

theorem standbySeconds_of_unlit (running : (s.lamp p).st ≠ .running) (target : (s.lamp p).target ≠ some .running)
    (due : (s.lamp p).quenchDue = none) (h : (s.lamp p).st ≠ .standby) : standbySeconds s p warm = warm := by
  simp [standbySeconds, running, target, due, h]

theorem standbySeconds_of_standby (target : (s.lamp p).target ≠ some .running) (due : (s.lamp p).quenchDue = none)
    (h : (s.lamp p).st = .standby) : standbySeconds s p warm = secondsToCue s p := by
  simp [standbySeconds, target, due, h]

theorem secondsToCue_of_before {o : Context} (ctx : s.ctx p.other = some o)
    (role : (s.seq p.screen).role p.side.other = .active) (before : (s.chan p.other).frames < o.reel.xco) :
    secondsToCue s p = ceilDiv (o.reel.xco - (s.chan p.other).frames) 24 := by
  simp [secondsToCue, ctx, role, before]

theorem secondsToCue_of_past (h : (s.seq p.screen).role p.side.other ≠ .active ∨ s.ctx p.other = none ∨
    (∃ o, s.ctx p.other = some o ∧ o.reel.xco ≤ (s.chan p.other).frames)) : secondsToCue s p = 0 := by
  unfold secondsToCue
  split
  next o role ctx =>
    have late : ¬ (s.chan p.other).frames < o.reel.xco := by
      obtain inactive | empty | ⟨x, hx, late⟩ := h
      · exact absurd role inactive
      · simp [ctx] at empty
      · rw [ctx, Option.some.injEq] at hx
        subst hx
        omega
    exact if_neg late
  next => rfl

theorem runSeconds_of_due {d : BoothTime} (c : Context) (h : (s.lamp p).quenchDue = some d) :
    runSeconds s p c = ceilDiv (tenthsUntil s.boothTime d) 10 := by
  simp [runSeconds, h]

theorem runSeconds_of_frames (c : Context) (h : (s.lamp p).quenchDue = none) :
    runSeconds s p c = ceilDiv
      ((if followedByReel c.slot (s.programs.get p.screen) then c.reel.xco else c.reel.lastPicture) -
        (if (s.lamp p).st = .running then (s.chan p).frames else c.reel.head)) 24 + (s.lamp p).settings.quenchDelay := by
  by_cases st : (s.lamp p).st = .running <;> simp [runSeconds, h, st]

end

/-! ## The spare seconds (R103) -/

theorem spareOf_of_enough {rate need : Nat} {available : Int} (h : (need : Int) ≤ available) :
    spareOf rate available need = min 32767 ((available - need) * 100 / (rate : Int)) := by
  obtain ⟨k, hk⟩ : ∃ k : Nat, available - need = k := ⟨(available - need).toNat, by omega⟩
  have hi : (((k : Int) * 100) / (rate : Int)) = ((k * 100 / rate : Nat) : Int) := by push_cast; rfl
  simp only [spareOf, if_pos h, hk, clampSpare, Int.toNat_natCast, hi]
  generalize k * 100 / rate = seconds
  omega

theorem spareOf_of_short {rate need : Nat} {available : Int} (h : available < (need : Int)) (burns : 0 < rate) :
    spareOf rate available need = max (-32767) (-(((need - available) * 100 + rate - 1) / (rate : Int))) := by
  obtain ⟨k, hk⟩ : ∃ k : Nat, (need : Int) - available = k := ⟨((need : Int) - available).toNat, by omega⟩
  have hi : (((k : Int) * 100 + rate - 1) / (rate : Int)) = ((ceilDiv (k * 100) rate : Nat) : Int) := by
    unfold ceilDiv
    push_cast [Nat.cast_sub (show 1 ≤ k * 100 + rate by omega)]
    rfl
  simp only [spareOf, if_neg (show ¬ (need : Int) ≤ available by omega), hk, clampSpare, Int.toNat_natCast, hi]
  omega

/-! ## The economy choice (R106) -/

section

variable {p : Proj} {c : Context} {s : State} (ctx : s.ctx p = some c)

include ctx

theorem economyChoice_of_full
    (first : (figuresOf s p c (s.lamp p).settings.warm .full).verdict.isShort = false ∨
      (figuresOf s p c (s.lamp p).settings.minWarm .economy).verdict.isShort = true) :
    economyChoice p s = keepForecast p (figuresOf s p c (s.lamp p).settings.warm .full).verdict
      (s.setLamp p { s.lamp p with chosenWarm := (s.lamp p).settings.warm, chosenBy := .full }) := by
  have kept : ¬ ((figuresOf s p c (s.lamp p).settings.warm .full).verdict.isShort &&
      !(figuresOf s p c (s.lamp p).settings.minWarm .economy).verdict.isShort) = true := by
    obtain h | h := first <;> simp [h]
  simp only [economyChoice, ctx]
  exact if_neg kept

theorem economyChoice_of_economy
    (first : (figuresOf s p c (s.lamp p).settings.warm .full).verdict.isShort = true)
    (second : (figuresOf s p c (s.lamp p).settings.minWarm .economy).verdict.isShort = false) :
    economyChoice p s = notifyScreen p.screen (.economyStrike p (s.lamp p).settings.warm (s.lamp p).settings.minWarm)
      (keepForecast p (figuresOf s p c (s.lamp p).settings.minWarm .economy).verdict
        (s.setLamp p { s.lamp p with chosenWarm := (s.lamp p).settings.minWarm, chosenBy := .economy })) := by
  simp only [economyChoice, ctx, first, second]
  rfl

end

/-- A forecast that is no turn to SHORT goes into the record that the economy choice has written. -/
theorem keepForecast_silent_setLamp {p : Proj} {f : Forecast} {s : State} {l : Lamp}
    (h : f.isShort = false ∨ l.forecast.isShort = true) :
    keepForecast p f (s.setLamp p l) = s.setLamp p { l with forecast := f } := by
  rw [keepForecast_silent (by simpa using h), setLamp_setLamp, lamp_setLamp, if_pos rfl]

theorem keepForecast_turned_setLamp {p : Proj} {x : Figures} {s : State} {l : Lamp} (old : l.forecast.isShort = false) :
    keepForecast p (.short x) (s.setLamp p l) =
      notifyScreen p.screen (.carbonShort p x.need x.available x.spare) (s.setLamp p { l with forecast := .short x }) := by
  rw [keepForecast_turned (by simpa using old), setLamp_setLamp, lamp_setLamp, if_pos rfl]

/-! ## The obligation -/

/-- Settles O36: an order and a row that keep a forecast; the figures, each by its rule; the economy choice, by which of its two
passes is enough. -/
theorem trimAndForecast : Obligations.TrimAndForecast := by
  refine ⟨?_, ?_, ?_, ?_⟩
  · intro p n s hf length dark
    have e := ends_trim hf length dark
    refine ⟨fun empty => ?_, fun c valid => ?_⟩
    · rw [trimLamp_of_empty (by exact empty), withStubCheck_eq] at e
      exact e
    · rw [trimLamp_of_valid (c := c) (by exact valid), withStubCheck_eq] at e
      exact e
  · intro p s hr lit f v
    have e := ends_litInterval hr lit
    have found : singleVerdict s p = f := rfl
    rw [found] at e
    refine ⟨fun quiet => ?_, fun x short old => ?_⟩
    · rwa [keepForecast_silent_setLamp (by exact quiet)] at e
    · rw [short, keepForecast_turned_setLamp (by exact old), ← short] at e
      exact e
  · intro p c warm choice s l f rate most total
    have current : f.runCurrent = forecastCurrent s p := rfl
    have standby : f.standbySeconds = standbySeconds s p warm := rfl
    have run : f.runSeconds = runSeconds s p c := rfl
    have need : f.need = ceilDiv total 100 := rfl
    have spare : f.spare = spareOf rate f.available f.need := rfl
    refine ⟨rfl, rfl, fun unlit => ?_, fun i lit lamp => ?_, rfl, fun stays => ?_, fun running target due => ⟨fun unlit => ?_,
      fun st o ctx role before => ?_, fun st past => ?_⟩, fun due => ?_, fun d due => ⟨fun past => ?_, fun ahead => ?_⟩,
      ?_, ?_, rfl, fun enough => ⟨verdict_of_enough enough, ?_⟩, fun short => ⟨verdict_of_short short, fun burns => ?_⟩⟩
    · rw [current, forecastCurrent_of_unlit s p unlit]
      rfl
    · rw [current, forecastCurrent_of_lit s p lit lamp]
    · rw [standby, standbySeconds_of_none s p warm stays]
    · rw [standby, standbySeconds_of_unlit s p warm running target due unlit]
    · rw [standby, standbySeconds_of_standby s p warm target due st, secondsToCue_of_before s p ctx role before]
      exact ceilDiv_bounds _ (by decide)
    · rw [standby, standbySeconds_of_standby s p warm target due st, secondsToCue_of_past s p past]
    · intro stop frames
      have seconds : f.runSeconds = ceilDiv frames 24 + l.settings.quenchDelay := runSeconds_of_frames s p c due
      rw [seconds, Nat.add_sub_cancel]
      exact ⟨Nat.le_add_left _ _, ceilDiv_bounds _ (by decide)⟩
    · rw [run, runSeconds_of_due s p c due, tenthsUntil, if_pos past]
      rfl
    · rw [run, runSeconds_of_due s p c due, tenthsUntil, if_neg (by simp [ahead])]
      exact ceilDiv_bounds _ (by decide)
    · rw [need]
      exact (ceilDiv_bounds total (by decide)).1
    · rw [need]
      exact (ceilDiv_bounds total (by decide)).2
    · rw [spare, spareOf_of_enough enough]
    · rw [spare, spareOf_of_short short burns]
  · intro p c s ctx l first second
    refine ⟨fun enough => ?_, fun short enough => ?_, fun short short' => ?_⟩
    · have v : first.verdict = .enough first := verdict_of_enough enough
      rw [economyChoice_of_full ctx (Or.inl (by rw [v]; rfl)), v, keepForecast_silent_setLamp (Or.inl rfl)]
    · have v : first.verdict = .short first := verdict_of_short short
      have v' : second.verdict = .enough second := verdict_of_enough enough
      rw [economyChoice_of_economy ctx (by rw [v]; rfl) (by rw [v']; rfl), v', keepForecast_silent_setLamp (Or.inl rfl)]
    · have v : first.verdict = .short first := verdict_of_short short
      have v' : second.verdict = .short second := verdict_of_short short'
      rw [economyChoice_of_full ctx (Or.inr (by rw [v']; rfl)), v]
      intro w
      split_ifs with old
      · exact keepForecast_silent_setLamp (Or.inr (by exact old))
      · rw [keepForecast_turned_setLamp (by simpa using old)]

end Sys2Proof.Machine

end

/-! # Proofs: the phases of a strike attempt (O37) -/

section

namespace Sys2Proof.Machine

/-! ## A lamp in FAULT stays so while its screen halts (R67, R82) -/

/-- The lamp is in FAULT with its cause, and the budget is to examine. -/
def failedWith (p : Proj) (cause : FaultCause) (s : State) : Prop :=
  (s.lamp p).st = .fault ∧ (s.lamp p).faultCause = some cause ∧ s.budget.examine = true

section

variable {p : Proj} {cause : FaultCause} {s : State}

theorem failedWith_of_same {t : State} (lamps : t.lamps = s.lamps) (budget : t.budget = s.budget) (h : failedWith p cause s) :
    failedWith p cause t := by
  unfold failedWith
  rw [lamp_of_lamps lamps, budget]
  exact h

theorem withdrawRequest_examine (q : Proj) (h : s.budget.examine = true) : (withdrawRequest q s).budget.examine = true := by
  have entry : (withdrawEntry q s).budget.examine = true := by
    unfold withdrawEntry
    dsimp only
    split_ifs
    · rfl
    · exact h
  unfold withdrawRequest
  split
  · exact h
  · exact entry

theorem quenchLamp_examine (q : Proj) (h : s.budget.examine = true) : (quenchLamp q s).budget.examine = true := by
  cases st : (s.lamp q).st
  case queued => simpa [quenchLamp, st] using withdrawRequest_examine q h
  all_goals simp [quenchLamp, st, askExamine_eq, examined, h]

theorem withdrawRequest_failedWith (q : Proj) (h : failedWith p cause s) : failedWith p cause (withdrawRequest q s) := by
  obtain ⟨fault, why, ask⟩ := h
  refine ⟨?_, ?_, withdrawRequest_examine q ask⟩ <;>
  · by_cases hq : p = q
    · subst hq
      obtain e | e := withdrawRequest_lamp p s <;> simp [e, Lamp.withdrawn, fault, why]
    · rwa [withdrawRequest_lamp_of_ne hq]

theorem quenchLamp_failedWith (q : Proj) (h : failedWith p cause s) : failedWith p cause (quenchLamp q s) := by
  obtain ⟨fault, why, ask⟩ := h
  have same : (quenchLamp q s).lamp p = s.lamp p := by
    by_cases hq : p = q
    · subst hq
      rw [quenchLamp_lamp, Lamp.out, fault]
    · exact quenchLamp_lamp_of_ne hq s
  exact ⟨by rw [same]; exact fault, by rw [same]; exact why, quenchLamp_examine q ask⟩

theorem setMotion_budget (q : Proj) (m : Motion) (t : State) : (setMotion q m t).budget = t.budget := by
  unfold setMotion
  dsimp only
  split_ifs <;> rfl

@[simp] theorem motorOff_budget (q : Proj) (t : State) : (motorOff q t).budget = t.budget := by
  unfold motorOff
  dsimp only
  split_ifs <;> simp [setMotion_budget]

@[simp] theorem haltScreen_lamps (n : Screen) (r : HaltReason) (q : Option Proj) (t : State) :
    (haltScreen n r q t).lamps = t.lamps := by
  unfold haltScreen
  split_ifs <;> rfl

@[simp] theorem haltScreen_budget (n : Screen) (r : HaltReason) (q : Option Proj) (t : State) :
    (haltScreen n r q t).budget = t.budget := by
  unfold haltScreen
  split_ifs <;> rfl

@[simp] theorem stopFilm_lamps (q : Proj) (t : State) : (stopFilm q t).lamps = t.lamps := by
  unfold stopFilm
  dsimp only
  split_ifs
  · split <;> simp [setRole, setDemand]
  · rfl

@[simp] theorem stopFilm_budget (q : Proj) (t : State) : (stopFilm q t).budget = t.budget := by
  unfold stopFilm
  dsimp only
  split_ifs
  · split <;> simp [setRole, setDemand]
  · rfl

theorem haltLamp_failedWith (r : HaltReason) (q : Proj) (h : failedWith p cause s) : failedWith p cause (haltLamp r q s) := by
  have undone {t : State} (ht : failedWith p cause t) (x : Proj) : failedWith p cause (undoIncoming x t) :=
    failedWith_of_same (by simp [undoIncoming, setRole]) (by simp [undoIncoming, setRole])
      (quenchLamp_failedWith x (withdrawRequest_failedWith x ht))
  have dropped {t : State} (ht : failedWith p cause t) : failedWith p cause (recordToNone q.screen t) :=
    recordToNone_keeps q.screen ht (fun x => undone ht _) (fun _ hu => hu)
  unfold haltLamp
  dsimp only
  split_ifs
  · exact h
  · refine dropped ?_
    split
    · exact failedWith_of_same (by simp) (by simp) h
    · exact failedWith_of_same (by simp) (by simp) h

/-- A failed strike leaves the lamp in FAULT with its cause, whatever halts with it (R82). -/
theorem failStrike_failedWith (p : Proj) (cause : FaultCause) (s : State) : failedWith p cause (failStrike p cause s) := by
  have faulted : failedWith p cause (notifyScreen p.screen (.strikeFailed p cause) (faultLamp p cause s)) := by
    refine ⟨?_, ?_, rfl⟩ <;> simp [faultLamp, askExamine, Lamp.faulted]
  unfold failStrike onStrikeFailed
  split
  · exact haltLamp_failedWith _ p faulted
  · exact haltLamp_failedWith _ p faulted
  · split_ifs
    · exact failedWith_of_same rfl rfl faulted
    · exact faulted

end

/-! ## Attempts (R80 to R82) -/

theorem failAttempt_of_more {p : Proj} {s : State} (cause : FaultCause) (more : (s.lamp p).attempts < 3) :
    failAttempt p cause s = notifyScreen p.screen (.strikeRetry p (s.lamp p).attempts cause)
      (s.setLamp p { s.lamp p with phase := some .coolOff, strikeTicks := 0 }) := by
  simp [failAttempt, more, modLamp_eq]

theorem failAttempt_of_last {p : Proj} {s : State} (cause : FaultCause) (last : 3 ≤ (s.lamp p).attempts) :
    failAttempt p cause s = failStrike p cause s := if_neg (by omega)

theorem beginAttempt_of_carbon {p : Proj} {s : State} (carbon : (s.lamp p).settings.margin < (s.lamp p).carbon) :
    beginAttempt p s = s.setLamp p
      { s.lamp p with attempts := (s.lamp p).attempts + 1, phase := some .touch, touchSamples := 0, strikeTicks := 0 } := by
  simp [beginAttempt, stubMark_eq_false carbon, modLamp_eq]

theorem beginAttempt_of_spent {p : Proj} {s : State} (spent : (s.lamp p).carbon ≤ (s.lamp p).settings.margin) :
    beginAttempt p s = failStrike p .noCarbon s := by
  simp [beginAttempt, stubMark_eq_true spent]

/-! ## A sample in TOUCH (R80) -/

/-- The record with one sample more. -/
abbrev Lamp.touched (l : Lamp) (v : Nat) : Lamp := { l with lastCurrent := v, touchSamples := l.touchSamples + 1 }

section

variable {p : Proj} {v : Nat} {s : State} (byte : v ≤ 255)

include byte

theorem touchSample_of_arc (arc : 30 ≤ v) :
    touchSample p v s = s.setLamp p { (s.lamp p).touched v with phase := some .draw, strikeTicks := 0 } := by
  simp [touchSample, arc, modLamp_eq, setLamp_setLamp, Nat.min_eq_right byte]

theorem touchSample_of_low (low : v < 30) (more : (s.lamp p).touchSamples + 1 < 60) :
    touchSample p v s = touchFeed p (s.setLamp p ((s.lamp p).touched v)) := by
  have arc : ¬ 30 ≤ v := by omega
  have last : ¬ 60 ≤ (s.lamp p).touchSamples + 1 := by omega
  simp [touchSample, arc, last, modLamp_eq, Nat.min_eq_right byte]

theorem touchSample_of_last (low : v < 30) (last : 60 ≤ (s.lamp p).touchSamples + 1) :
    touchSample p v s = failAttempt p .noArc (s.setLamp p ((s.lamp p).touched v)) := by
  have arc : ¬ 30 ≤ v := by omega
  simp [touchSample, arc, last, modLamp_eq, Nat.min_eq_right byte]

end

theorem touchFeed_of_spent {p : Proj} {s : State} (spent : (s.lamp p).carbon ≤ (s.lamp p).settings.margin) :
    touchFeed p s = s := if_pos (stubMark_eq_true spent)

theorem touchFeed_of_carbon {p : Proj} {s : State} (carbon : (s.lamp p).settings.margin < (s.lamp p).carbon) :
    touchFeed p s = withStubCheck p (fun l => { l with carbon := l.carbon - 1 }) s :=
  if_neg (by simp [stubMark_eq_false carbon])

/-! ## The end of DRAW (R81) -/

/-- What a forecast leaves of the lamp. -/
theorem singleForecast_lamp (p : Proj) (s : State) : ∃ f, (singleForecast p s).lamp p = { s.lamp p with forecast := f } := by
  refine ⟨singleVerdict s p, ?_⟩
  rw [singleForecast_eq]
  cases f : singleVerdict s p <;> cases old : (s.lamp p).forecast.isShort <;> simp [keepForecast, old]

@[simp] theorem singleForecast_budget (p : Proj) (s : State) : (singleForecast p s).budget = s.budget := by
  rw [singleForecast_eq]
  unfold keepForecast
  dsimp only
  split <;> rfl

@[simp] theorem onLit_lamps (p : Proj) (s : State) : (onLit p s).lamps = s.lamps := by
  unfold onLit modRecord
  split_ifs <;> rfl

@[simp] theorem onLit_budget (p : Proj) (s : State) : (onLit p s).budget = s.budget := by
  unfold onLit modRecord
  split_ifs <;> rfl

/-- A strike success lights the lamp, with a forecast of its own. -/
theorem lightLamp_lamp (p : Proj) (s : State) : ∃ f, (lightLamp p s).lamp p = { (s.lamp p).litUp with forecast := f } := by
  obtain ⟨f, hf⟩ := singleForecast_lamp p
    (notifyScreen p.screen (.lampLit p (decide ((s.lamp p).target = some .running)) (s.lamp p).attempts)
      (if (s.lamp p).fixedSurge = 0 then s.modLamp p Lamp.litUp else askExamine (s.modLamp p Lamp.litUp)))
  refine ⟨f, ?_⟩
  unfold lightLamp
  dsimp only
  rw [lamp_of_lamps (onLit_lamps _ _), hf, lamp_notifyScreen]
  split_ifs <;> simp [askExamine]

theorem lightLamp_budget (p : Proj) (s : State) : (lightLamp p s).budget =
    if (s.lamp p).fixedSurge = 0 then s.budget else { s.budget with examine := true } := by
  unfold lightLamp
  dsimp only
  rw [onLit_budget, singleForecast_budget, budget_notifyScreen]
  split_ifs <;> rfl

theorem drawEnd_of_low {p : Proj} {v : Nat} {s : State} (byte : v ≤ 255) (low : v < 20) :
    drawEnd p v s = failAttempt p .noDraw (s.setLamp p { s.lamp p with lastCurrent := v }) := by
  have arc : ¬ 20 ≤ v := by omega
  simp [drawEnd, arc, modLamp_eq, Nat.min_eq_right byte]

/-- With no overdraft the lamp of a draw that succeeds is simply lit. -/
theorem drawEnd_of_arc {p : Proj} {v : Nat} {s : State} (byte : v ≤ 255) (arc : 20 ≤ v) (room : s.budget.overdrawn = false) :
    drawEnd p v s = lightLamp p (s.setLamp p { s.lamp p with lastCurrent := v }) := by
  have overdrawn : (lightLamp p (s.setLamp p { s.lamp p with lastCurrent := v })).budget.overdrawn = false := by
    rw [lightLamp_budget]
    split_ifs <;> exact room
  simp only [drawEnd, arc, if_true, modLamp_eq, Nat.min_eq_right byte]
  split_ifs
  · exact if_neg (by simp [overdrawn])
  · rfl

/-! ## The rows and the obligation -/

section

variable {p : Proj} {v : Nat} {s : State} (hr : s.running = true) (st : (s.lamp p).st = .striking)

include hr st

theorem ends_touchSample (phase : (s.lamp p).phase = some .touch) : ends (.touchSample p v) s (touchSample p v s) :=
  ends_of_guard (g := fun t => (t.lamp p).st = .striking ∧ (t.lamp p).phase = some .touch) (f := touchSample p v) rfl hr
    ⟨st, phase⟩

theorem ends_drawEnd (phase : (s.lamp p).phase = some .draw) : ends (.drawEnd p v) s (drawEnd p v s) :=
  ends_of_guard (g := fun t => (t.lamp p).st = .striking ∧ (t.lamp p).phase = some .draw) (f := drawEnd p v) rfl hr
    ⟨st, phase⟩

theorem ends_coolOffEnd (phase : (s.lamp p).phase = some .coolOff) : ends (.coolOffEnd p) s (beginAttempt p s) :=
  ends_of_guard (g := fun t => (t.lamp p).st = .striking ∧ (t.lamp p).phase = some .coolOff) (f := beginAttempt p) rfl hr
    ⟨st, phase⟩

end

/-- Settles O37, phase by phase: each branch of the row is one rule of the attempt. -/
theorem strikeAttempts : Obligations.StrikeAttempts := by
  intro p v s hr st byte l
  refine ⟨?_, ?_, ?_⟩
  · intro phase l'
    have e := ends_touchSample (v := v) hr st phase
    have touched : ((s.setLamp p l').lamp p) = l' := by simp
    refine ⟨fun arc => ?_, fun low more => ?_, fun low last third => ?_, fun low last more => ?_⟩
    · rwa [touchSample_of_arc byte arc] at e
    · rw [touchSample_of_low byte low more] at e
      refine ⟨fun spent => ?_, fun lastUnit => ?_, fun carbon => ?_⟩
      · rwa [touchFeed_of_spent (by rw [touched]; exact spent)] at e
      · have left : l'.carbon - 1 = l.settings.margin := Nat.sub_eq_of_eq_add lastUnit
        have above : l'.settings.margin < l'.carbon := Nat.lt_of_lt_of_eq (Nat.lt_succ_self _) lastUnit.symm
        rw [touchFeed_of_carbon (by rw [touched]; exact above), withStubCheck_eq, touched, setLamp_setLamp, left,
          if_pos ⟨above, Nat.le_refl _⟩] at e
        exact e
      · have above : l'.settings.margin < l'.carbon := Nat.lt_of_succ_lt carbon
        have left : ¬ l'.carbon - 1 ≤ l'.settings.margin := Nat.not_le.2 (Nat.lt_sub_of_add_lt carbon)
        rw [touchFeed_of_carbon (by rw [touched]; exact above), withStubCheck_eq, touched, setLamp_setLamp,
          if_neg (fun set => left set.2)] at e
        exact e
    · rw [touchSample_of_last byte low last, failAttempt_of_last _ (by rw [touched]; exact third)] at e
      exact ⟨_, e, failStrike_failedWith _ _ _⟩
    · rw [touchSample_of_last byte low last, failAttempt_of_more _ (by rw [touched]; exact more), touched, setLamp_setLamp] at e
      exact e
  · intro phase
    have e := ends_drawEnd (v := v) hr st phase
    refine ⟨fun arc room => ?_, fun low more => ?_⟩
    · rw [drawEnd_of_arc byte arc room] at e
      obtain ⟨f, lamp⟩ := lightLamp_lamp p (s.setLamp p { l with lastCurrent := v })
      have budget := lightLamp_budget p (s.setLamp p { l with lastCurrent := v })
      rw [lamp_setLamp, if_pos rfl] at lamp budget
      have surge : (lightLamp p (s.setLamp p { l with lastCurrent := v })).budget.examine = true ∨ l.fixedSurge = 0 := by
        rw [budget]
        by_cases zero : l.fixedSurge = 0
        · exact Or.inr zero
        · exact Or.inl (by rw [if_neg zero])
      exact ⟨_, e, by rw [lamp]; exact ⟨rfl, rfl, rfl, rfl, rfl, rfl, rfl, surge⟩⟩
    · rw [drawEnd_of_low byte low, failAttempt_of_more _ (by simpa using more), lamp_setLamp, if_pos rfl, setLamp_setLamp] at e
      exact e
  · intro phase
    have e := ends_coolOffEnd hr st phase
    refine ⟨fun carbon => ?_, fun spent => ?_⟩
    · rwa [beginAttempt_of_carbon carbon] at e
    · rw [beginAttempt_of_spent spent] at e
      obtain ⟨fault, cause, ask⟩ := failStrike_failedWith p .noCarbon s
      exact ⟨_, e, fault, cause, by simp [Lamp.charge, fault], ask⟩

end Sys2Proof.Machine

end

/-! # Proofs: a lit lamp's regulation, feed and current samples, and the ends of a quench (O38, O39, O40) -/

section

namespace Sys2Proof.Machine

/-! ## Regulation (R83) -/

theorem pendingAfter_eq (l : Lamp) (v : Nat) : pendingAfter l v =
    if v ≤ l.settings.setpoint + l.settings.band ∨ l.carbon ≤ l.settings.margin then 0
    else min 24 (l.pendingFeed +
      min 8 ((v - l.settings.setpoint - l.settings.band + l.settings.gain - 1) / l.settings.gain)) := by
  unfold pendingAfter
  by_cases low : v ≤ l.settings.setpoint + l.settings.band
  · have low' : ¬ 0 < regulationError l.settings v := by
      unfold regulationError
      omega
    rw [if_neg low', if_pos (Or.inl low)]
  · have high : 0 < regulationError l.settings v := by
      unfold regulationError
      omega
    have error : (regulationError l.settings v).toNat = v - l.settings.setpoint - l.settings.band := by
      unfold regulationError
      omega
    by_cases stub : l.carbon ≤ l.settings.margin
    · rw [if_pos high, if_pos (stubMark_eq_true stub), if_pos (Or.inr stub)]
    · rw [if_pos high, if_neg (by simp [Lamp.stubMark, stub]), if_neg (by simp [low, stub]), regulationSteps, error, ceilDiv]

theorem regulate_eq {p : Proj} {v : Nat} {s : State} (byte : v ≤ 255) : regulate p v s = s.setLamp p
    { s.lamp p with
      lastVoltage := v, standbyRef := (s.lamp p).settings.standby, pendingFeed := pendingAfter (s.lamp p) v } := by
  simp [regulate, modLamp_eq, Nat.min_eq_right byte]

/-! ## Feed (R84) -/

theorem feedInterval_of_none {p : Proj} {s : State}
    (h : (s.lamp p).pendingFeed = 0 ∨ (s.lamp p).carbon ≤ (s.lamp p).settings.margin) :
    feedInterval p s = s.setLamp p { s.lamp p with feedTicks := 0 } := by
  obtain unfed | spent := h
  · simp [feedInterval, feedStep, modLamp_eq, unfed]
  · have spent' := stubMark_eq_true (l := { s.lamp p with feedTicks := 0 }) spent
    simp [feedInterval, feedStep, modLamp_eq, spent']

theorem feedInterval_of_feed {p : Proj} {s : State} (feed : 0 < (s.lamp p).pendingFeed)
    (carbon : (s.lamp p).settings.margin < (s.lamp p).carbon) :
    feedInterval p s = withStubCheck p Lamp.fed (s.setLamp p { s.lamp p with feedTicks := 0 }) := by
  have above := stubMark_eq_false (l := { s.lamp p with feedTicks := 0 }) carbon
  simp [feedInterval, feedStep, modLamp_eq, feed, above]

/-- Settles O38: the regulation is one write of the record; a feed step is one with the stub mark examined. -/
theorem regulationAndFeed : Obligations.RegulationAndFeed := by
  intro p v s hr lit byte l x
  refine ⟨?_, fun h => ?_, fun feed carbon => ?_⟩
  · have e : ends (.regulation p v) s (regulate p v s) :=
      ends_of_guard (g := fun t => (t.lamp p).lit = true) (f := regulate p v) rfl hr lit
    rw [regulate_eq byte, pendingAfter_eq] at e
    exact e
  all_goals
    have e : ends (.feedStep p) s (feedInterval p s) :=
      ends_of_guard (g := fun t => (t.lamp p).lit = true) (f := feedInterval p) rfl hr lit
  · rwa [feedInterval_of_none h] at e
  · intro v'
    rw [feedInterval_of_feed feed carbon, withStubCheck_eq, lamp_setLamp, if_pos rfl, setLamp_setLamp] at e
    by_cases stub : l.carbon - 1 ≤ x.margin
    · rw [if_pos ⟨carbon, stub⟩] at e
      rwa [if_pos stub]
    · rw [if_neg (fun set => stub set.2)] at e
      rwa [if_neg stub]

/-! ## Current samples and the arc-out (R86) -/

/-- The record of a lit lamp after a current sample. -/
abbrev Lamp.sampled (l : Lamp) (v : Nat) : Lamp :=
  { l with lastCurrent := v, lowCount := if v < 20 then l.lowCount + 1 else 0 }

theorem litSample_eq {p : Proj} {v : Nat} {s : State} (byte : v ≤ 255) : litSample p v s =
    if 3 ≤ ((s.lamp p).sampled v).lowCount then arcOut p (s.setLamp p ((s.lamp p).sampled v))
    else s.setLamp p ((s.lamp p).sampled v) := by
  simp [litSample, modLamp_eq, Nat.min_eq_right byte]

@[simp] theorem onArcOut_lamps (p : Proj) (running : Bool) (s : State) : (onArcOut p running s).lamps = s.lamps := by
  unfold onArcOut setDemand modRecord
  dsimp only
  split_ifs <;> rfl

@[simp] theorem onArcOut_budget (p : Proj) (running : Bool) (s : State) : (onArcOut p running s).budget = s.budget := by
  unfold onArcOut setDemand modRecord
  dsimp only
  split_ifs <;> rfl

/-- A request that the budget takes as new. -/
theorem budgetRequest_of_none {p : Proj} {d : BoothTime} {s : State} (fire : s.fire.on = false) (entry : entryOf s p = none) :
    budgetRequest p d s = examined (newEntry p d ((s.lamp p).st == .quenching) s) := by
  simp [budgetRequest, fire, entry, askExamine_eq]

/-- The first arc-out of a lamp above its margin with no quench due: it waits in the queue for the state it burned in. -/
theorem arcOut_requeues {p : Proj} {s : State} (due : (s.lamp p).quenchDue = none)
    (carbon : (s.lamp p).settings.margin < (s.lamp p).carbon) (first : (s.lamp p).lastArcOut = none)
    (fire : s.fire.on = false) (entry : entryOf s p = none) :
    (arcOut p s).lamp p = (s.lamp p).requeued s.boothTime ∧
      (arcOut p s).budget.queue = insertEntry ⟨p, s.boothTime, s.budget.nextSeq, false, false⟩ s.budget.queue ∧
      (arcOut p s).budget.examine = true := by
  let t := askExamine ((notifyScreen p.screen (.arcOut p (decide ((s.lamp p).st = .running)) 1) s).modLamp p
    (fun l => l.requeued s.boothTime))
  have out : arcOut p s = onArcOut p (decide ((s.lamp p).st = .running)) (budgetRequest p s.boothTime t) := by
    simp [arcOut, due, stubMark_eq_false carbon, first, secondArcOut, t]
  have lamp : t.lamp p = (s.lamp p).requeued s.boothTime := by simp [t, askExamine]
  have waits : ((t.lamp p).st == .quenching) = false := by rw [lamp]; rfl
  have asked : budgetRequest p s.boothTime t = examined (newEntry p s.boothTime false t) := by
    rw [budgetRequest_of_none (s := t) fire entry, waits]
  rw [out, lamp_of_lamps (onArcOut_lamps _ _ _), onArcOut_budget, asked]
  exact ⟨lamp, rfl, rfl⟩

/-- Settles O39, by the low count that the sample makes. -/
theorem currentSamplesAndArcOut : Obligations.CurrentSamplesAndArcOut := by
  intro p v s hr lit byte l
  have e : ends (.currentSample p v) s (litSample p v s) :=
    ends_of_guard (g := fun t => (t.lamp p).lit = true) (f := litSample p v) rfl hr lit
  rw [litSample_eq byte] at e
  refine ⟨fun arc => ?_, fun low few => ?_, fun low third due carbon first fire entry => ?_⟩
  · have sample : l.sampled v = { l with lastCurrent := v, lowCount := 0 } := by simp [Nat.not_lt.2 arc]
    rw [sample, if_neg (by simp)] at e
    exact e
  · have sample : l.sampled v = { l with lastCurrent := v, lowCount := l.lowCount + 1 } := by simp [low]
    rw [sample, if_neg (Nat.not_le.2 few)] at e
    exact e
  · have sample : l.sampled v = { l with lastCurrent := v, lowCount := l.lowCount + 1 } := by simp [low]
    rw [sample, if_pos (by exact third)] at e
    let t := s.setLamp p { l with lastCurrent := v, lowCount := l.lowCount + 1 }
    have record : t.lamp p = { l with lastCurrent := v, lowCount := l.lowCount + 1 } := by simp [t]
    obtain ⟨lamp, queue, ask⟩ := arcOut_requeues (s := t) (by rw [record]; exact due) (by rw [record]; exact carbon)
      (by rw [record]; exact first) fire entry
    rw [record] at lamp
    exact ⟨_, e, lamp, queue, ask⟩

/-! ## The ends of a quench (R89, R90) -/

theorem ends_quenchDue {p : Proj} {d : BoothTime} {s : State} (hr : s.running = true) (due' : (s.lamp p).quenchDue = some d) :
    (passed s.boothTime d = true → ends (.quenchDue p) s (quenchLamp p s)) ∧
      (passed s.boothTime d = false → ends (.quenchDue p) s s) := by
  refine ⟨fun past => ?_, fun ahead => ?_⟩
  · exact ends_of_guard (g := fun t => due t (t.lamp p).quenchDue = true) (f := quenchLamp p) rfl hr
      ((due_iff _ _).2 ⟨d, due', past⟩)
  · exact ends_of_no_guard (g := fun t => due t (t.lamp p).quenchDue = true) (f := quenchLamp p) rfl hr
      (by simp [due, due', ahead])

theorem ends_quenchingEnd {p : Proj} {d : BoothTime} {s : State} (hr : s.running = true) (st : (s.lamp p).st = .quenching)
    (wait : (s.lamp p).quenchingEnd = some d) :
    (passed s.boothTime d = true → ends (.quenchingEnd p) s (quenchingEnds p s)) ∧
      (passed s.boothTime d = false → ends (.quenchingEnd p) s s) := by
  refine ⟨fun past => ?_, fun ahead => ?_⟩
  · exact ends_of_guard (g := fun t => (t.lamp p).st = .quenching ∧ due t (t.lamp p).quenchingEnd = true)
      (f := quenchingEnds p) rfl hr ⟨st, (due_iff _ _).2 ⟨d, wait, past⟩⟩
  · exact ends_of_no_guard (g := fun t => (t.lamp p).st = .quenching ∧ due t (t.lamp p).quenchingEnd = true)
      (f := quenchingEnds p) rfl hr (by simp [due, wait, ahead])

theorem quenchingEnds_of_none {p : Proj} {s : State} (entry : entryOf s p = none) : quenchingEnds p s =
    notifyScreen p.screen (.lampDark p) (s.setLamp p { s.lamp p with st := .dark, quenchingEnd := none }) := by
  simp [quenchingEnds, modLamp_eq, entry, setLamp_setLamp]

theorem quenchingEnds_of_entry {p : Proj} {e : Entry} {s : State} (entry : entryOf s p = some e) : quenchingEnds p s =
    examined { s.setLamp p { s.lamp p with st := .queued, quenchingEnd := none } with
      budget := { s.budget with
        queue := s.budget.queue.map (fun x => if x.lamp = p then { x with held := false } else x) } } := by
  simp [quenchingEnds, modLamp_eq, entry, setLamp_setLamp, askExamine_eq] <;> rfl

/-- Settles O40: each row acts when its time is passed, and then as the lamp's state or its entry says. -/
theorem quenchWaits : Obligations.QuenchWaits := by
  intro p d s hr l
  refine ⟨fun due past used => ?_, fun due ahead => (ends_quenchDue hr due).2 ?_, fun st wait => ⟨fun ahead => ?_,
    fun past => ⟨fun entry => ?_, fun e entry => ?_⟩⟩⟩
  · have e := (ends_quenchDue hr due).1 (by simpa [passed] using past)
    rwa [quenchLamp_of_inUse used] at e
  · simpa [passed] using ahead
  · exact (ends_quenchingEnd hr st wait).2 (by simpa [passed] using ahead)
  · have f := (ends_quenchingEnd hr st wait).1 (by simpa [passed] using past)
    rwa [quenchingEnds_of_none entry] at f
  · have f := (ends_quenchingEnd hr st wait).1 (by simpa [passed] using past)
    rwa [quenchingEnds_of_entry entry] at f

end Sys2Proof.Machine

end

/-! # Proofs: a head that fits is granted (O46) -/

section

namespace Sys2Proof.Machine

/-! ## The sum of the charges (R110) -/

/-- A new record changes the sum by the difference of the two charges. -/
theorem sigma_setLamp (s : State) (p : Proj) (v : Lamp) : sigma (s.setLamp p v) + (s.lamp p).charge = sigma s + v.charge := by
  obtain ⟨n, x⟩ := p
  cases n <;> cases x <;> simp [sigma, Proj.all] <;> omega

theorem charge_of_waiting {l : Lamp} (h : l.st = .queued ∨ l.st = .quenching) : l.charge = 0 := by
  obtain st | st := h <;> simp [Lamp.charge, st]

/-! ## The head's entry (R111) -/

/-- With at most one entry for each lamp, the head's lamp has none behind it. -/
theorem dropEntry_head {e : Entry} {rest : List Entry} (h : oneEntryEach (e :: rest)) : dropEntry e.lamp (e :: rest) = rest := by
  obtain ⟨once, -⟩ := List.nodup_cons.1 h
  have others : ∀ x ∈ rest, (x.lamp != e.lamp) = true := by
    intro x hx
    have differ : x.lamp ≠ e.lamp := fun same => once (same ▸ List.mem_map_of_mem hx)
    simpa using differ
  simp only [dropEntry, List.filter_cons, bne_self_eq_false]
  exact List.filter_eq_self.2 others

/-! ## The grant (R80, R109, R115, R116) -/

/-- The record of a granted lamp in its first TOUCH. -/
def Lamp.firstTouch (l : Lamp) (current surge : Nat) (deadline : BoothTime) : Lamp :=
  { l.granted current surge deadline with attempts := 1, phase := some .touch, touchSamples := 0, strikeTicks := 0 }

/-- A granted head's lamp above its margin begins its first attempt. -/
theorem grant_eq {e : Entry} {s : State} (carbon : (s.lamp e.lamp).settings.margin < (s.lamp e.lamp).carbon) : ∃ n, grant e s =
    notifyScreen e.lamp.screen (.strikeGranted e.lamp e.deadline n s.budget.cap)
      ({ s with budget := { s.budget with queue := dropEntry e.lamp s.budget.queue } }.setLamp e.lamp
        ((s.lamp e.lamp).firstTouch (effectiveCurrent s e.lamp) s.budget.surge e.deadline)) := by
  unfold grant
  dsimp only
  rw [beginAttempt_of_carbon (by simpa [Lamp.granted] using carbon)]
  rw [setLamp_notifyScreen, modLamp_eq, setLamp_setLamp, lamp_notifyScreen, lamp_setLamp, if_pos rfl]
  exact ⟨_, rfl⟩

theorem examineQueue_of_fits {s : State} {e : Entry} {rest : List Entry} (queue : s.budget.queue = e :: rest)
    (fire : s.fire.on = false) (overdraft : s.budget.overdrawn = false) (free : e.held = false) (room : fits s e = true)
    (k : Nat) :
    examineQueue (k + 1) s = examineQueue k (grant e s) := by
  rw [examineQueue.eq_def]
  simp [queue, fire, overdraft, free, room]

/-- Settles O46: the examination's branch is the grant, whose one write of the lamp's record adds its charge. -/
theorem aHeadThatFitsIsGranted : Obligations.AHeadThatFitsIsGranted := by
  intro s e rest queue fire overdraft free carbon room ⟨once, waits⟩ k
  have room' : fits s e = true := by simpa [fits] using room
  have unlit : (s.lamp e.lamp).charge = 0 := charge_of_waiting (waits e (by rw [queue]; exact List.mem_cons_self))
  have left : dropEntry e.lamp s.budget.queue = rest := by rw [queue] at once ⊢; exact dropEntry_head once
  obtain ⟨n, granted⟩ := grant_eq carbon
  rw [left] at granted
  refine ⟨grant e s, examineQueue_of_fits queue fire overdraft free room' k, ?_, ?_, ?_⟩
  · rw [granted]
    rfl
  · rw [granted, lamp_notifyScreen, lamp_setLamp, if_pos rfl]
    rfl
  · let v := (s.lamp e.lamp).firstTouch (effectiveCurrent s e.lamp) s.budget.surge e.deadline
    have same : sigma (grant e s) = sigma (s.setLamp e.lamp v) := by
      rw [granted]
      rfl
    have sum : sigma (s.setLamp e.lamp v) + (s.lamp e.lamp).charge = sigma s + (effectiveCurrent s e.lamp + s.budget.surge) :=
      sigma_setLamp s e.lamp v
    omega

end Sys2Proof.Machine

end

/-! # Proofs: the first scan (O55) -/

section

namespace Sys2Proof.Machine

/-! ## The samples (R94) -/

/-- What the scan makes of a lamp: its two samples, held at 255. -/
def Lamp.scanned (l : Lamp) (i : ScanInputs) (p : Proj) : Lamp :=
  { l with
    lastCurrent := min 255 ((i.currents.get p.screen).get p.side),
    lastVoltage := min 255 ((i.voltages.get p.screen).get p.side) }

theorem mem_allProjs (p : Proj) : p ∈ Proj.all := by
  obtain ⟨n, x⟩ := p
  cases n <;> cases x <;> decide

/-- One change for each lamp of a list changes each of them once. -/
theorem forEach_modLamp {names : List Proj} (nodup : names.Nodup) (f : Proj → Lamp → Lamp) (s : State) (p : Proj) :
    (forEach names (fun q t => t.modLamp q (f q)) s).lamp p = if p ∈ names then f p (s.lamp p) else s.lamp p := by
  induction names generalizing s with
  | nil => rfl
  | cons q qs ih =>
    obtain ⟨once, rest⟩ := List.nodup_cons.1 nodup
    have walk : forEach (q :: qs) (fun q t => t.modLamp q (f q)) s =
        forEach qs (fun q t => t.modLamp q (f q)) (s.modLamp q (f q)) := rfl
    rw [walk, ih rest, lamp_modLamp]
    by_cases hp : p = q
    · subst hp
      simp [once]
    · simp [hp]

theorem scanSamples_lamp (i : ScanInputs) (s : State) (p : Proj) : (scanSamples i s).lamp p = (s.lamp p).scanned i p := by
  have walk : scanSamples i s = forEach Proj.all (fun q t => t.modLamp q (fun l => l.scanned i q)) s := rfl
  rw [walk, forEach_modLamp (by decide), if_pos (mem_allProjs p)]

@[simp] theorem scanSamples_fire (i : ScanInputs) (s : State) : (scanSamples i s).fire = s.fire :=
  forEach_frame _ _ State.fire (fun _ t => modLamp_fire t _ _) s

@[simp] theorem scanSamples_scanDue (i : ScanInputs) (s : State) : (scanSamples i s).scanDue = s.scanDue :=
  forEach_frame _ _ State.scanDue (fun _ t => modLamp_scanDue t _ _) s

/-! ## The flames (R151) -/

/-- A scan that finds no new flame has nothing to do for the flames. -/
theorem scanFlames_of_none {i : ScanInputs} {s : State}
    (h : ∀ p, (i.flames.get p.screen).get p.side = true → s.fire.flame p = true) : scanFlames i s = s := by
  refine forEach_of_unmoved (fun p _ => if_neg ?_)
  by_cases found : (i.flames.get p.screen).get p.side = true
  · simp [h p found]
  · simp [found]

/-! ## Booth fire (R141) -/

theorem haltFires_still (s : State) : (forEach Screen.all haltFire s).still = s.still := forEach_still _ _ haltFire_still s

theorem fireLamps_still (s : State) : (forEach Proj.all fireLamp s).still = s.still :=
  forEach_still _ _ (fun p t => by simp [fireLamp]) s

/-- Of the base, booth fire changes what the Unit's own entry changes. -/
theorem boothFire_base (s : State) : (boothFire s).still.base = (s.modFire (fun u => u.enter s.boothTime)).still.base := by
  simp [boothFire, haltFires_still, fireLamps_still]

theorem fire_of_base {s t : State} (h : t.still.base = s.still.base) : t.fire = s.fire := (congrArg State.fire h :)

theorem scanDue_of_base {s t : State} (h : t.still.base = s.still.base) : t.scanDue = s.scanDue := (congrArg State.scanDue h :)

theorem boothFire_fire (s : State) : (boothFire s).fire = s.fire.enter s.boothTime := fire_of_base (boothFire_base s)

theorem boothFire_scanDue (s : State) : (boothFire s).scanDue = s.scanDue :=
  scanDue_of_base (s := s.modFire _) (boothFire_base s)

@[simp] theorem setBoothHolder_lamps (v : Bool) (s : State) : (setBoothHolder v s).lamps = s.lamps :=
  forEach_frame _ _ State.lamps (fun _ t => modCirc_lamps t _ _) s

theorem boothFire_lamp (s : State) (p : Proj) : ((boothFire s).lamp p).still = (s.lamp p).still := by
  unfold boothFire
  dsimp only
  rw [lamp_of_lamps (setBoothHolder_lamps _ _), still_lamp (haltFires_still _), still_lamp (fireLamps_still _),
    still_lamp (notifyAll_still _ _)]
  rfl

/-! ## The field sources (R151) -/

theorem scanSources_of_off {i : ScanInputs} {s : State} (off : s.fire.on = false) : scanSources i s =
    if (s.fire.sources.scanned i).any = true then boothFire (modSources (fun x => x.scanned i) s)
    else modSources (fun x => x.scanned i) s := by
  simp [scanSources, off] <;> rfl

/-- What the sources of the scan, taken under a fire state OFF, leave and decide. -/
theorem scanSources_delivers {i : ScanInputs} {s : State} (off : s.fire.on = false) :
    (scanSources i s).scanDue = s.scanDue ∧ (scanSources i s).fire.ups = s.fire.ups ∧
      (scanSources i s).fire.sources = s.fire.sources.scanned i ∧
      (scanSources i s).fire.on = (s.fire.sources.scanned i).any ∧
      ∀ p, ((scanSources i s).lamp p).still = (s.lamp p).still := by
  rw [scanSources_of_off off]
  by_cases fire : (s.fire.sources.scanned i).any = true
  · rw [if_pos fire, boothFire_scanDue, boothFire_fire, fire]
    exact ⟨rfl, rfl, rfl, rfl, fun p => boothFire_lamp _ p⟩
  · rw [if_neg fire]
    refine ⟨rfl, rfl, rfl, ?_, fun p => rfl⟩
    rw [Bool.not_eq_true] at fire
    rw [fire]
    exact off

/-- The scan that finds no new flame: the samples, then the sources. -/
theorem firstScan_of_no_flame {i : ScanInputs} {s : State}
    (flames : ∀ p, (i.flames.get p.screen).get p.side = true → s.fire.flame p = true) :
    firstScan i s = scanSources i (scanSamples i ({ s with scanDue := false }.modFire (fun u => { u with ups := i.ups }))) := by
  unfold firstScan
  dsimp only
  rw [scanFlames_of_none (fun p found => by rw [scanSamples_fire]; exact flames p found)]

/-- Settles O55: the sources decide between booth fire and none, and neither touches what the scan has written before. -/
theorem theFirstScanDelivers : Obligations.TheFirstScanDelivers := by
  intro s i hr
  refine ⟨fun taken => ?_, fun scan off flames => ?_⟩
  · exact ends_of_no_guard (g := fun t => t.scanDue = true) (f := firstScan i) rfl hr (by simp [taken])
  · have e : ends (.firstScan i) s (firstScan i s) :=
      ends_of_guard (g := fun t => t.scanDue = true) (f := firstScan i) rfl hr scan
    let t := scanSamples i ({ s with scanDue := false }.modFire (fun u => { u with ups := i.ups }))
    have fire : t.fire = { s.fire with ups := i.ups } := scanSamples_fire i _
    have due : t.scanDue = false := scanSamples_scanDue i _
    obtain ⟨due', ups, sources, on, lamps⟩ := scanSources_delivers (i := i) (s := t) (by rw [fire]; exact off)
    rw [firstScan_of_no_flame flames] at e
    rw [fire] at ups sources on
    refine ⟨_, e, due'.trans due, ups, sources, by rw [on, sources], fun p => ?_⟩
    have samples := lamps p
    rw [scanSamples_lamp] at samples
    exact ⟨congrArg Lamp.lastCurrent samples, congrArg Lamp.lastVoltage samples⟩

end Sys2Proof.Machine

end

/-! # Proofs: the burn rate (O41) -/

section

namespace Sys2Proof.Machine

/-! ## A quotient rounded to nearest -/

/-- The two bounds that pin the rounded quotient, halves up. -/
theorem nearestDiv_bounds (a : Nat) {b : Nat} (pos : 0 < b) :
    2 * nearestDiv a b * b ≤ 2 * a + b ∧ 2 * a + b < 2 * (nearestDiv a b + 1) * b := by
  have below := Nat.div_mul_le_self (2 * a + b) (2 * b)
  have above := Nat.lt_mul_div_succ (2 * a + b) (show 0 < 2 * b by omega)
  unfold nearestDiv
  constructor <;> linarith

theorem nearestDiv_le {a b c : Nat} (pos : 0 < b) (le : a ≤ c * b) : nearestDiv a b ≤ c := by
  have below : 2 * a + b < 2 * b * (c + 1) := by linarith
  exact Nat.lt_succ_iff.mp (Nat.div_lt_of_lt_mul below)

@[simp] theorem nearestDiv_zero (b : Nat) : nearestDiv 0 b = 0 :=
  Nat.div_eq_zero_iff.mpr (by omega)

/-! ## One span of the table -/

/-- The absolute value of the quotient by which the line of a span has left its first rate (R98). -/
def spanQuotient (p q : BurnPoint) (i : Nat) : Nat :=
  nearestDiv ((if p.rate ≤ q.rate then q.rate - p.rate else p.rate - q.rate) * (i - p.current)) (q.current - p.current)

theorem burnBetween_eq (p q : BurnPoint) (i : Nat) : burnBetween p q i =
    if p.rate ≤ q.rate then p.rate + spanQuotient p q i else p.rate - spanQuotient p q i := by
  unfold burnBetween spanQuotient
  split <;> rfl

@[simp] theorem burnBetween_first (p q : BurnPoint) : burnBetween p q p.current = p.rate := by
  simp [burnBetween_eq, spanQuotient]

section

variable {p q : BurnPoint} {i : Nat} (lo : p.current ≤ i) (hi : i < q.current)
include lo hi

theorem spanQuotient_le :
    spanQuotient p q i ≤ if p.rate ≤ q.rate then q.rate - p.rate else p.rate - q.rate :=
  nearestDiv_le (by omega) (Nat.mul_le_mul_left _ (by omega))

/-- The line of a span stays within any bounds that hold both its rates, rising or falling. -/
theorem burnBetween_within {least most : Nat} (first : least ≤ p.rate ∧ p.rate ≤ most)
    (last : least ≤ q.rate ∧ q.rate ≤ most) : least ≤ burnBetween p q i ∧ burnBetween p q i ≤ most := by
  have part := spanQuotient_le lo hi
  rw [burnBetween_eq]
  by_cases rising : p.rate ≤ q.rate
  · rw [if_pos rising] at part ⊢
    omega
  · rw [if_neg rising] at part ⊢
    omega

end

/-! ## The whole table -/

/-- The three spans of the table (R98). -/
def spansOf (t : BurnTable) : List (BurnPoint × BurnPoint) := [(t.p1, t.p2), (t.p2, t.p3), (t.p3, t.p4)]

theorem mem_spansOf {t : BurnTable} {p q : BurnPoint} : (p, q) ∈ spansOf t ↔
    p = t.p1 ∧ q = t.p2 ∨ p = t.p2 ∧ q = t.p3 ∨ p = t.p3 ∧ q = t.p4 := by
  simp [spansOf]

/-- Every current lies at or below the first point, at or above the last, or in a span (R98). -/
theorem outside_or_in_span (t : BurnTable) (i : Nat) : i ≤ t.p1.current ∨ t.p4.current ≤ i ∨
    ∃ p q, (p, q) ∈ spansOf t ∧ p.current ≤ i ∧ i < q.current := by
  by_cases first : i ≤ t.p1.current
  · exact .inl first
  by_cases last : t.p4.current ≤ i
  · exact .inr (.inl last)
  refine .inr (.inr ?_)
  by_cases second : i < t.p2.current
  · exact ⟨t.p1, t.p2, by simp [mem_spansOf], by omega, second⟩
  by_cases third : i < t.p3.current
  · exact ⟨t.p2, t.p3, by simp [mem_spansOf], by omega, third⟩
  · exact ⟨t.p3, t.p4, by simp [mem_spansOf], by omega, by omega⟩

theorem burnRate_of_le_first {t : BurnTable} {i : Nat} (le : i ≤ t.p1.current) : burnRate t i = t.p1.rate :=
  if_pos le

section

variable {t : BurnTable} (ok : burnOk t = true)
include ok

/-- A valid table's rates are in their range (R74). -/
theorem burnOk_rates : ∀ p ∈ [t.p1, t.p2, t.p3, t.p4], 10 ≤ p.rate ∧ p.rate ≤ 250 := by
  simp only [burnOk, within, Bool.and_eq_true, decide_eq_true_eq, List.all_eq_true] at ok
  obtain ⟨⟨⟨ranges, -⟩, -⟩, -⟩ := ok
  exact fun p found => (ranges p found).2

/-- A valid table's currents strictly increase (R74). -/
theorem burnOk_currents :
    t.p1.current < t.p2.current ∧ t.p2.current < t.p3.current ∧ t.p3.current < t.p4.current := by
  simp only [burnOk, Bool.and_eq_true, decide_eq_true_eq] at ok
  obtain ⟨⟨⟨-, first⟩, second⟩, third⟩ := ok
  exact ⟨first, second, third⟩

theorem burnRate_of_last_le {i : Nat} (le : t.p4.current ≤ i) : burnRate t i = t.p4.rate := by
  obtain ⟨first, second, third⟩ := burnOk_currents ok
  rw [burnRate, if_neg (by omega), if_pos le]

/-- In a span the rate is that span's line; at the table's first current the line gives the first rate. -/
theorem burnRate_of_span {p q : BurnPoint} {i : Nat} (span : (p, q) ∈ spansOf t) (lo : p.current ≤ i)
    (hi : i < q.current) : burnRate t i = burnBetween p q i := by
  obtain ⟨first, second, third⟩ := burnOk_currents ok
  obtain ⟨rfl, rfl⟩ | ⟨rfl, rfl⟩ | ⟨rfl, rfl⟩ := mem_spansOf.mp span
  · by_cases least : i ≤ t.p1.current
    · rw [burnRate_of_le_first least, Nat.le_antisymm least lo, burnBetween_first]
    · rw [burnRate, if_neg least, if_neg (by omega), if_pos hi]
  · rw [burnRate, if_neg (by omega), if_neg (by omega), if_neg (by omega), if_pos hi]
  · rw [burnRate, if_neg (by omega), if_neg (by omega), if_neg (by omega), if_neg (by omega)]

/-- Every rate of a valid table lies within 10 to 250, for each of the three places a current can have (R98). -/
theorem burnRate_within (i : Nat) : 10 ≤ burnRate t i ∧ burnRate t i ≤ 250 := by
  have rates := burnOk_rates ok
  obtain first | last | ⟨p, q, span, lo, hi⟩ := outside_or_in_span t i
  · rw [burnRate_of_le_first first]
    exact rates t.p1 (by simp)
  · rw [burnRate_of_last_le ok last]
    exact rates t.p4 (by simp)
  · rw [burnRate_of_span ok span lo hi]
    obtain ⟨rfl, rfl⟩ | ⟨rfl, rfl⟩ | ⟨rfl, rfl⟩ := mem_spansOf.mp span <;>
      exact burnBetween_within lo hi (rates _ (by simp)) (rates _ (by simp))

end

/-- Settles O41: in a span the rate is its line, and the rounded quotient of that line is pinned by its two bounds. -/
theorem burnRateFollowsTheTable : Obligations.BurnRateFollowsTheTable := by
  intro t i ok
  obtain ⟨least, most⟩ := burnRate_within ok i
  refine ⟨least, most, burnRate_of_le_first, burnRate_of_last_le ok, fun p q span lo hi => ?_⟩
  have width : 0 < q.current - p.current := by omega
  obtain ⟨below, above⟩ := nearestDiv_bounds _ width
  exact ⟨spanQuotient p q i, below, above, (burnRate_of_span ok span lo hi).trans (burnBetween_eq p q i)⟩

end Sys2Proof.Machine

end

/-! # Proofs: the lead point and the late strike (O43) -/

section

namespace Sys2Proof.Machine

/-! ## Booth times compare by their difference (R167) -/

/-- A difference of booth times, counted without borrowing below zero. -/
theorem boothTime_sub_toNat (x y : BoothTime) : (x - y).toNat = (x.toNat + 16777216 - y.toNat) % 16777216 := by
  have below : y.toNat < 16777216 := y.isLt
  rw [BitVec.toNat_sub]
  congr 1
  omega

theorem passed_eq (now d : BoothTime) :
    passed now d = decide ((now.toNat + 16777216 - d.toNat) % 16777216 < 8388608) := by
  rw [passed, boothTime_sub_toNat]

theorem earlier_eq (x y : BoothTime) :
    earlier x y = decide (x ≠ y ∧ (y.toNat + 16777216 - x.toNat) % 16777216 < 8388608) := by
  rw [earlier, boothTime_sub_toNat, Bool.decide_and]

/-! ## The two rows (R117, R119) -/

theorem lateStrike_of_none {p : Proj} {s : State} (entry : entryOf s p = none) : lateStrike p s = s := by
  simp [lateStrike, entry]

theorem lateStrike_of_some {p : Proj} {s : State} {e : Entry} (entry : entryOf s p = some e) : lateStrike p s =
    if passed s.boothTime e.deadline = true ∧ e.lateSent = false then
      notifyScreen p.screen (.strikeLate p e.deadline)
        { s with budget := { s.budget with
            queue := s.budget.queue.map (fun x => if x.lamp = p then { x with lateSent := true } else x) } }
    else s := by
  simp [lateStrike, entry, State.modBudget]

theorem leadDue_of_head {s : State} {e : Entry} {rest : List Entry} (queue : s.budget.queue = e :: rest) :
    leadDue s = true ↔
      passed s.boothTime (e.deadline - BitVec.ofNat 24 (10 * s.budget.lead)) = true ∧ s.budget.leadTaken = false := by
  simp [leadDue_iff, queue]

/-- LEAD_POINT makes the budget examine where the wait for the head's lead point is due. -/
theorem ends_leadPoint {s : State} (hr : s.running = true) :
    ends .leadPoint s (if leadDue s = true then examined s else s) :=
  ends_of_event (f := fun t => if leadDue t then askExamine t else t) rfl hr

theorem ends_strikeLate {p : Proj} {s : State} (hr : s.running = true) : ends (.strikeLate p) s (lateStrike p s) :=
  ends_of_event rfl hr

/-- Settles O43: each row is one event, whose guard is the comparison of booth times that the obligation writes out. -/
theorem leadPointsAndLateStrikes : Obligations.LeadPointsAndLateStrikes := by
  refine ⟨fun now d => ⟨passed_eq now d, earlier_eq now d⟩, fun s hr => ⟨fun queue => ?_, fun e rest queue => ?_⟩,
    fun p s hr => ⟨fun entry => ?_, fun e entry => ?_⟩⟩
  · have row := ends_leadPoint hr
    rwa [if_neg (by simp [leadDue_iff, queue])] at row
  · have row := ends_leadPoint hr
    rwa [if_congr (leadDue_of_head queue) rfl rfl] at row
  · have row := ends_strikeLate (p := p) hr
    rwa [lateStrike_of_none entry] at row
  · have row := ends_strikeLate (p := p) hr
    rwa [lateStrike_of_some entry] at row

end Sys2Proof.Machine

end

/-! # Proofs: SET CAPACITY, SET SURGE and SET RECLAIM (O42) -/

section

namespace Sys2Proof.Machine

/-! ## A reclaim leaves the overdraft standing (R120) -/

theorem cap_of_still {s t : State} (h : t.still = s.still) : t.budget.cap = s.budget.cap := congrArg Prod.fst (still_budget h)

@[simp] theorem withdrawRequest_overdrawn (p : Proj) (s : State) :
    (withdrawRequest p s).budget.overdrawn = s.budget.overdrawn := by
  unfold withdrawRequest withdrawEntry
  split
  · rfl
  · dsimp only
    split_ifs <;> rfl

@[simp] theorem quenchLamp_overdrawn (p : Proj) (s : State) : (quenchLamp p s).budget.overdrawn = s.budget.overdrawn := by
  cases st : (s.lamp p).st <;> simp [quenchLamp, st, askExamine_eq, examined]

@[simp] theorem onReclaim_lamps (p : Proj) (s : State) : (onReclaim p s).lamps = s.lamps := by
  unfold onReclaim
  split_ifs <;> rfl

@[simp] theorem onReclaim_budget (p : Proj) (s : State) : (onReclaim p s).budget = s.budget := by
  unfold onReclaim
  split_ifs <;> rfl

@[simp] theorem notifyReclaimed_lamps (p : Proj) (d : BoothTime) (head : Option Proj) (s : State) :
    (notifyReclaimed p d head s).lamps = s.lamps := by
  unfold notifyReclaimed
  dsimp only
  split <;> try split_ifs
  all_goals rfl

@[simp] theorem notifyReclaimed_budget (p : Proj) (d : BoothTime) (head : Option Proj) (s : State) :
    (notifyReclaimed p d head s).budget = s.budget := by
  unfold notifyReclaimed
  dsimp only
  split <;> try split_ifs
  all_goals rfl

@[simp] theorem reclaim_overdrawn (p : Proj) (head : Option Proj) (s : State) :
    (reclaim p head s).budget.overdrawn = s.budget.overdrawn := by
  simp [reclaim, newEntry]

@[simp] theorem overdraftReclaim_overdrawn (k : Nat) (s : State) :
    (overdraftReclaim k s).budget.overdrawn = s.budget.overdrawn := by
  induction k generalizing s with
  | zero => rfl
  | succ k ih =>
    unfold overdraftReclaim
    split_ifs
    · rfl
    · split
      · rw [ih, reclaim_overdrawn]
      · rfl

@[simp] theorem notifyAll_lamps (b : NoticeBody) (s : State) : (notifyAll b s).lamps = s.lamps :=
  forEach_frame _ _ State.lamps (fun l t => modLine_lamps t l _) s

@[simp] theorem notifyAll_budget (b : NoticeBody) (s : State) : (notifyAll b s).budget = s.budget :=
  forEach_frame _ _ State.budget (fun l t => modLine_budget t l _) s

/-- A budget that enters the overdraft is OVERDRAWN, and examines, at the Cap it had (R120). -/
theorem enterOverdraft_budget (s : State) : (enterOverdraft s).budget.overdrawn = true ∧
    (enterOverdraft s).budget.cap = s.budget.cap ∧ (enterOverdraft s).budget.examine = true := by
  refine ⟨?_, ?_, rfl⟩
  · simp [enterOverdraft, askExamine_eq, examined]
  · exact cap_of_still (enterOverdraft_still s)

/-! ## The block's effect (R108, R109) -/

section

variable {s : State} {cap surge lead gap : Nat}

theorem applySetCapacity_of_raised (raised : s.budget.cap < cap) :
    applySetCapacity cap s = examined { s with budget := { s.budget with cap := cap } } := if_pos raised

theorem applySetCapacity_of_room (room : cap = s.budget.cap ∨ cap < s.budget.cap ∧ sigma s ≤ cap) :
    applySetCapacity cap s = { s with budget := { s.budget with cap := cap } } := by
  rw [applySetCapacity, if_neg (by omega), if_neg (by omega)]
  rfl

theorem applySetCapacity_of_over (lowered : cap < s.budget.cap) (short : cap < sigma s) :
    applySetCapacity cap s = enterOverdraft { s with budget := { s.budget with cap := cap } } := by
  rw [applySetCapacity, if_neg (by omega), if_pos ⟨lowered, short⟩]
  rfl

theorem applySetSurge_eq : applySetSurge surge s =
    if surge < s.budget.surge then examined { s with budget := { s.budget with surge := surge } }
    else { s with budget := { s.budget with surge := surge } } := rfl

/-- A budget with no entry has no lead point. -/
theorem applySetReclaim_of_nil (queue : s.budget.queue = []) : applySetReclaim lead gap s =
    { s with budget := { s.budget with lead := lead, gap := gap, leadTaken := false } } := by
  simp [applySetReclaim, headLeadPassed, State.modBudget, queue]

theorem applySetReclaim_of_cons {e : Entry} {rest : List Entry} (queue : s.budget.queue = e :: rest) :
    applySetReclaim lead gap s =
      if leadPassed { s with budget := { s.budget with lead := lead, gap := gap, leadTaken := false } } e = true then
        examined { s with budget := { s.budget with lead := lead, gap := gap, leadTaken := false } }
      else { s with budget := { s.budget with lead := lead, gap := gap, leadTaken := false } } := by
  simp [applySetReclaim, headLeadPassed, State.modBudget, queue, askExamine_eq]

end

/-! ## The orders -/

section

variable {s : State} (hf : lineFree s .house)
include hf

theorem ends_setCapacity {cap : Nat} (range : cap ≤ 400) (fire : s.budget.cap < cap → s.fire.on = false) :
    ends (.setCapacity .house cap) s (applySetCapacity cap (reply .house (.done 0x12) s)) := by
  have check : checkOrder .house (.setCapacity cap) s = none := by
    simpa [checkOrder, checkSetCapacity, within, range] using fire
  exact ends_of_done rfl hf (by simp) rfl check rfl (fun _ => rfl) rfl

theorem ends_setSurge {surge : Nat} (range : surge ≤ 60) :
    ends (.setSurge .house surge) s (applySetSurge surge (reply .house (.done 0x13) s)) := by
  have check : checkOrder .house (.setSurge surge) s = none := by simp [checkOrder, checkSetSurge, within, range]
  exact ends_of_done rfl hf (by simp) rfl check rfl (fun _ => rfl) rfl

theorem ends_setReclaim {lead gap : Nat} (leads : 5 ≤ lead ∧ lead ≤ 120) (gaps : 10 ≤ gap ∧ gap ≤ 300) :
    ends (.setReclaim .house lead gap) s (applySetReclaim lead gap (reply .house (.done 0x14) s)) := by
  have check : checkOrder .house (.setReclaim lead gap) s = none := by
    simp [checkOrder, checkSetReclaim, within, leads, gaps]
  exact ends_of_done rfl hf (by simp) rfl check rfl (fun _ => rfl) rfl

end

/-- Settles O42: each order ends as its block's effect, read off by the case that its new value is in. -/
theorem budgetOrdersSetTheBudget : Obligations.BudgetOrdersSetTheBudget := by
  intro s hf
  refine ⟨fun cap range => ⟨fun raised fire => ?_, fun room => ?_, fun lowered short => ?_⟩, fun surge range => ?_,
    fun lead gap lead5 lead120 gap10 gap300 => ?_⟩
  · have row := ends_setCapacity hf range (fun _ => fire)
    rwa [applySetCapacity_of_raised (by simpa using raised)] at row
  · have row := ends_setCapacity hf range (fun raised => by omega)
    rwa [applySetCapacity_of_room (s := reply .house (.done 0x12) s) room] at row
  · have row := ends_setCapacity hf range (fun raised => by omega)
    rw [applySetCapacity_of_over (s := reply .house (.done 0x12) s) lowered short] at row
    exact ⟨_, row, enterOverdraft_budget _⟩
  · have row := ends_setSurge hf range
    rwa [applySetSurge_eq] at row
  · have row := ends_setReclaim hf ⟨lead5, lead120⟩ ⟨gap10, gap300⟩
    refine ⟨fun queue => ?_, fun e rest queue => ?_⟩
    · rwa [applySetReclaim_of_nil (s := reply .house (.done 0x14) s) queue] at row
    · rwa [applySetReclaim_of_cons (s := reply .house (.done 0x14) s) queue] at row

end Sys2Proof.Machine

end

/-! # Proofs: what leaves the lamps and the budget alone

The lines, the lights, the channels' own operations and the writes of a Sequencer touch no lamp and nothing of the budget. -/

section

namespace Sys2Proof.Machine

/-- What the invariants of the budget read (R110, R111, R169). -/
structure Plant where
  supply : Supply
  lamps : PerProj Lamp
  budget : Budget

def State.plant (s : State) : Plant := ⟨s.supply, s.lamps, s.budget⟩

/-! ## The updates -/

@[simp] theorem modSeq_plant (s : State) (n : Screen) (f : Sequencer → Sequencer) : (s.modSeq n f).plant = s.plant := rfl
@[simp] theorem modChan_plant (s : State) (p : Proj) (f : Channel → Channel) : (s.modChan p f).plant = s.plant := rfl
@[simp] theorem modCirc_plant (s : State) (c : Circ) (f : Circuit → Circuit) : (s.modCirc c f).plant = s.plant := rfl
@[simp] theorem modLine_plant (s : State) (l : Line) (f : LineState → LineState) : (s.modLine l f).plant = s.plant := rfl
@[simp] theorem modFire_plant (s : State) (f : FireUnit → FireUnit) : (s.modFire f).plant = s.plant := rfl
@[simp] theorem setCtx_plant (s : State) (p : Proj) (v : Option Context) : (s.setCtx p v).plant = s.plant := rfl

/-! ## Lines and lights -/

@[simp] theorem notifyScreen_plant (n : Screen) (b : NoticeBody) (s : State) : (notifyScreen n b s).plant = s.plant := rfl
@[simp] theorem notifyScreenAndHouse_plant (n : Screen) (b : NoticeBody) (s : State) :
    (notifyScreenAndHouse n b s).plant = s.plant := rfl
@[simp] theorem notifyAll_plant (b : NoticeBody) (s : State) : (notifyAll b s).plant = s.plant :=
  forEach_frame _ _ State.plant (fun l t => modLine_plant t l _) s

@[simp] theorem everyCircuit_plant (f : Circuit → Circuit) (s : State) : (everyCircuit f s).plant = s.plant := rfl
@[simp] theorem programTakes_plant (n : Screen) (k : Nat) (s : State) : (programTakes n k s).plant = s.plant := rfl
@[simp] theorem faultTakes_plant (n : Screen) (s : State) : (faultTakes n s).plant = s.plant := rfl
@[simp] theorem removeClaims_plant (n : Screen) (w : Winner) (s : State) : (removeClaims n w s).plant = s.plant := rfl
@[simp] theorem setLocalHolder_plant (v : Bool) (n : Screen) (s : State) : (setLocalHolder v n s).plant = s.plant := rfl
@[simp] theorem setBoothHolder_plant (v : Bool) (s : State) : (setBoothHolder v s).plant = s.plant :=
  forEach_frame _ _ State.plant (fun _ _ => modCirc_plant _ _ _) s

@[simp] theorem startFade_plant (c : Circ) (s : State) : (startFade c s).plant = s.plant := by
  unfold startFade
  dsimp only
  split <;> rfl

@[simp] theorem judgeLights_plant (s : State) : (judgeLights s).plant = s.plant :=
  forEach_frame _ _ State.plant (fun c t => by
    unfold judgeCircuit
    split_ifs <;> simp) s

@[simp] theorem lightMarks_plant (p : Proj) (s : State) : (lightMarks p s).plant = s.plant := by
  unfold lightMarks
  split
  · exact forEach_frame _ _ State.plant (fun m t => by unfold actOnMark; split <;> rfl) s
  · rfl

/-! ## Channels, motors and contexts -/

@[simp] theorem setMotion_plant (p : Proj) (m : Motion) (s : State) : (setMotion p m s).plant = s.plant := by
  unfold setMotion
  dsimp only
  split_ifs <;> rfl

@[simp] theorem clearRing_plant (p : Proj) (s : State) : (clearRing p s).plant = s.plant := rfl

@[simp] theorem motorOn_plant (p : Proj) (s : State) : (motorOn p s).plant = s.plant := by
  unfold motorOn
  dsimp only
  split_ifs <;> simp

@[simp] theorem motorOff_plant (p : Proj) (s : State) : (motorOff p s).plant = s.plant := by
  unfold motorOff
  dsimp only
  split_ifs <;> simp

@[simp] theorem channelFrame_plant (p : Proj) (s : State) : (channelFrame p s).plant = s.plant := by
  have recomputed (t : State) : (examineMotion p t).plant = t.plant := by
    unfold examineMotion
    split
    · rfl
    · dsimp only
      split_ifs <;> simp
  unfold channelFrame
  dsimp only
  split_ifs <;> simp [recomputed]

@[simp] theorem channelThread_plant (p : Proj) (s : State) : (channelThread p s).plant = s.plant := by
  simp [channelThread]

@[simp] theorem channelUnthread_plant (p : Proj) (s : State) : (channelUnthread p s).plant = s.plant := by
  simp [channelUnthread]

@[simp] theorem channelResume_plant (p : Proj) (s : State) : (channelResume p s).plant = s.plant := by
  unfold channelResume
  split <;> simp

@[simp] theorem commit_plant (p : Proj) (s : State) : (commit p s).plant = s.plant := by
  unfold commit
  split <;> rfl

/-! ## Sequencers -/

@[simp] theorem modRecord_plant (n : Screen) (f : Changeover → Changeover) (s : State) : (modRecord n f s).plant = s.plant := rfl
@[simp] theorem setRole_plant (p : Proj) (r : Role) (s : State) : (setRole p r s).plant = s.plant := rfl
@[simp] theorem setDemand_plant (p : Proj) (d : Demand) (s : State) : (setDemand p d s).plant = s.plant := rfl
@[simp] theorem demandOnly_plant (p : Proj) (s : State) : (demandOnly p s).plant = s.plant := rfl
@[simp] theorem setSound_plant (n : Screen) (x : Sound) (s : State) : (setSound n x s).plant = s.plant := rfl

@[simp] theorem lampUnavailable_plant (p : Proj) (s : State) : (lampUnavailable p s).plant = s.plant := by
  unfold lampUnavailable
  dsimp only
  split_ifs
  · rfl
  · split
    · split_ifs <;> rfl
    · rfl

@[simp] theorem motorCheck_plant (n : Screen) (p : Proj) (s : State) : (motorCheck n p s).plant = s.plant := by
  unfold motorCheck
  split
  · dsimp only
    split_ifs <;> rfl
  · rfl

@[simp] theorem changeCheck_plant (n : Screen) (p : Proj) (s : State) : (changeCheck n p s).plant = s.plant := by
  unfold changeCheck
  split
  · dsimp only
    split_ifs <;> rfl
  · rfl

@[simp] theorem pulseChecked_plant (n : Screen) (r : Changeover) (w k : Nat) (s : State) :
    (pulseChecked n r w k s).plant = s.plant := by
  unfold pulseChecked
  dsimp only
  split_ifs <;> rfl

@[simp] theorem haltScreen_plant (n : Screen) (r : HaltReason) (p : Option Proj) (s : State) :
    (haltScreen n r p s).plant = s.plant := by
  unfold haltScreen
  split_ifs <;> rfl

@[simp] theorem stopFilm_plant (p : Proj) (s : State) : (stopFilm p s).plant = s.plant := by
  unfold stopFilm
  dsimp only
  split_ifs
  · split <;> simp
  · rfl

@[simp] theorem beginRecord_plant (p : Proj) (k : StartKind) (s : State) : (beginRecord p k s).plant = s.plant := by
  simp [beginRecord]

@[simp] theorem examinePair_plant (p : Proj) (s : State) : (examinePair p s).plant = s.plant := by
  unfold examinePair
  split
  · split_ifs <;> rfl
  · rfl

@[simp] theorem endSwitched_plant (n : Screen) (s : State) : (endSwitched n s).plant = s.plant := by
  unfold endSwitched
  split
  · split_ifs <;> rfl
  · rfl

@[simp] theorem darkScreen_plant (n : Screen) (s : State) : (darkScreen n s).plant = s.plant := by
  simp [darkScreen]

@[simp] theorem relight_plant (p : Proj) (s : State) : (relight p s).plant = s.plant := by
  unfold relight
  split_ifs <;> rfl

/-! ## What the Sequencers hear of a lamp -/

@[simp] theorem onLit_plant (p : Proj) (s : State) : (onLit p s).plant = s.plant := by
  unfold onLit
  split_ifs <;> rfl

@[simp] theorem onArcOut_plant (p : Proj) (running : Bool) (s : State) : (onArcOut p running s).plant = s.plant := by
  unfold onArcOut
  dsimp only
  split_ifs <;> rfl

@[simp] theorem onReclaim_plant (p : Proj) (s : State) : (onReclaim p s).plant = s.plant := by
  unfold onReclaim
  split_ifs <;> rfl

@[simp] theorem notifyReclaimed_plant (p : Proj) (d : BoothTime) (head : Option Proj) (s : State) :
    (notifyReclaimed p d head s).plant = s.plant := by
  unfold notifyReclaimed
  dsimp only
  split <;> try split_ifs
  all_goals rfl

end Sys2Proof.Machine

end


/-! # Proofs: the steps that keep the queue and the charges (O44, O45)

`BudgetKept a s` says that what came from `a` to `s` kept both invariants of the budget. It is reflexive and follows every write
that touches neither the lamps nor the budget (`frame`); what remains are the writes of a lamp's record (`setLamp`) and of the
budget (`setBudget`), each with what it owes to the two invariants. -/

section

namespace Sys2Proof.Machine

/-! ## The two invariants -/

/-- The lamp is in a state in which it may have an entry (R111). -/
def Lamp.waits (l : Lamp) : Prop := l.st = .queued ∨ l.st = .quenching

/-- The lamps of the queue's entries. -/
def queued (s : State) : List Proj := s.budget.queue.map Entry.lamp

/-- The sum of the charges is within Cap but under an overdraft (R110, R120). -/
def chargesFit (s : State) : Prop := s.budget.overdrawn = false → sigma s ≤ s.budget.cap

theorem queueOk_iff (s : State) : queueOk s ↔ (queued s).Nodup ∧ ∀ p ∈ queued s, (s.lamp p).waits := by
  simp [queueOk, oneEntryEach, entriesWait, queued, Lamp.waits]

theorem entryOf_eq_none (s : State) (p : Proj) : entryOf s p = none ↔ p ∉ queued s := by
  simp [entryOf, queued]

theorem not_queued_of_not_waits {s : State} {p : Proj} (ok : queueOk s) (h : ¬ (s.lamp p).waits) : p ∉ queued s :=
  fun found => h (((queueOk_iff s).1 ok).2 p found)

theorem sigma_of_lamps {s t : State} (h : t.lamps = s.lamps) : sigma t = sigma s := by
  simp [sigma, State.lamp, h]

theorem not_waits_of_inUse {l : Lamp} (h : l.inUse = true) : ¬ l.waits := by
  obtain st | st | st := (inUse_iff l).1 h <;> simp [Lamp.waits, st]

/-! ## What keeps them -/

/-- From `s` to `t` the supply stays, and each invariant of the budget that held still holds. -/
structure BudgetKept (s t : State) : Prop where
  supply : t.supply = s.supply
  queue : queueOk s → queueOk t
  charges : chargesFit s → chargesFit t

theorem BudgetKept.refl (s : State) : BudgetKept s s := ⟨rfl, id, id⟩

variable {a s t : State} {p : Proj} {v : Lamp} {b : Budget}

/-- The invariants read the plant alone. -/
theorem BudgetKept.frame (h : BudgetKept a s) (e : t.plant = s.plant) : BudgetKept a t := by
  have supply : t.supply = s.supply := congrArg Plant.supply e
  have lamps : t.lamps = s.lamps := congrArg Plant.lamps e
  have budget : t.budget = s.budget := congrArg Plant.budget e
  refine ⟨supply.trans h.supply, fun ok => ?_, fun ok => ?_⟩
  · have kept := h.queue ok
    simpa only [queueOk, entriesWait, State.lamp, lamps, budget] using kept
  · have kept := h.charges ok
    simpa only [chargesFit, sigma_of_lamps lamps, budget] using kept

/-! ## A write of a lamp's record -/

/-- A new record leaves a waiting lamp waiting, unless it has no entry; and it raises the charge by no more than there is room. -/
theorem BudgetKept.setLamp (h : BudgetKept a s) (wait : (s.lamp p).waits → v.waits ∨ p ∉ queued s)
    (room : s.budget.overdrawn = false → sigma s ≤ s.budget.cap → sigma s + v.charge ≤ s.budget.cap + (s.lamp p).charge) :
    BudgetKept a (s.setLamp p v) := by
  refine ⟨h.supply, fun ok => ?_, fun ok free => ?_⟩
  · obtain ⟨once, waiting⟩ := (queueOk_iff s).1 (h.queue ok)
    refine (queueOk_iff _).2 ⟨once, fun q found => ?_⟩
    rw [lamp_setLamp]
    split_ifs with same
    · subst same
      exact (wait (waiting q found)).resolve_right (fun absent => absent found)
    · exact waiting q found
  · have fits := room free (h.charges ok free)
    have sum := sigma_setLamp s p v
    show sigma (s.setLamp p v) ≤ s.budget.cap
    omega

/-- A new record with no greater charge. -/
theorem BudgetKept.ease (h : BudgetKept a s) (wait : (s.lamp p).waits → v.waits ∨ p ∉ queued s)
    (charge : v.charge ≤ (s.lamp p).charge) : BudgetKept a (s.setLamp p v) :=
  h.setLamp wait (fun _ fits => by omega)

/-- A new record in the same state with the same charge. -/
theorem BudgetKept.rewrite (h : BudgetKept a s) (st : v.st = (s.lamp p).st) (charge : v.charge = (s.lamp p).charge) :
    BudgetKept a (s.setLamp p v) :=
  h.ease (fun waiting => Or.inl (by simpa only [Lamp.waits, st] using waiting)) charge.le

/-! ## A write of the budget -/

theorem BudgetKept.setBudget (h : BudgetKept a s) (queue : queueOk a → queueOk s → queueOk { s with budget := b })
    (charges : chargesFit s → chargesFit { s with budget := b }) : BudgetKept a { s with budget := b } :=
  ⟨h.supply, fun ok => queue ok (h.queue ok), fun ok => charges (h.charges ok)⟩

/-- A write that leaves the lamps of the queue, Cap and the overdraft alone. -/
theorem BudgetKept.mark (h : BudgetKept a s) (queue : b.queue.map Entry.lamp = queued s) (cap : b.cap = s.budget.cap)
    (overdrawn : b.overdrawn = s.budget.overdrawn) : BudgetKept a { s with budget := b } := by
  refine h.setBudget (fun _ ok => ?_) (fun ok free => ?_)
  · rw [queueOk_iff] at ok ⊢
    rwa [queued, queue]
  · show sigma s ≤ b.cap
    rw [cap]
    exact ok (overdrawn ▸ free)

theorem askExamine_budgetKept (h : BudgetKept a s) : BudgetKept a (askExamine s) := h.mark rfl rfl rfl

/-- Entries that leave the queue. -/
theorem dropEntry_budgetKept (h : BudgetKept a s) :
    BudgetKept a (s.modBudget (fun b => { b with queue := dropEntry p b.queue })) := by
  refine h.setBudget (fun _ ok => ?_) id
  obtain ⟨once, waiting⟩ := ok
  exact ⟨once.sublist (List.filter_sublist.map _), fun e found => waiting e (List.mem_of_mem_filter found)⟩

theorem not_mem_dropEntry (p : Proj) (q : List Entry) : p ∉ (dropEntry p q).map Entry.lamp := by
  simp [dropEntry]

theorem insertEntry_perm (e : Entry) (q : List Entry) : (insertEntry e q).Perm (e :: q) := by
  induction q with
  | nil => exact List.Perm.refl _
  | cons f fs ih =>
    unfold insertEntry
    split_ifs
    · exact List.Perm.refl _
    · exact (ih.cons f).trans (List.Perm.swap e f fs)

/-- An entry of a waiting lamp that has none joins a sound queue. -/
theorem queueOk_insertEntry {e : Entry} {q : List Entry} (once : (q.map Entry.lamp).Nodup)
    (waiting : ∀ p ∈ q.map Entry.lamp, (s.lamp p).waits) (fresh : e.lamp ∉ q.map Entry.lamp) (waits : (s.lamp e.lamp).waits)
    (joined : b.queue = insertEntry e q) : queueOk { s with budget := b } := by
  have lamps : (queued { s with budget := b }).Perm (e.lamp :: q.map Entry.lamp) := by
    rw [queued, joined]
    exact (insertEntry_perm e q).map Entry.lamp
  refine (queueOk_iff _).2 ⟨lamps.nodup_iff.2 (List.nodup_cons.2 ⟨fresh, once⟩), fun p found => ?_⟩
  obtain rfl | old := List.mem_cons.1 (lamps.mem_iff.1 found)
  · exact waits
  · exact waiting p old

/-- A new entry of a waiting lamp that has none. -/
theorem newEntry_budgetKept {d : BoothTime} {held : Bool} (h : BudgetKept a s) (waits : (s.lamp p).waits)
    (fresh : queueOk a → p ∉ queued s) : BudgetKept a (newEntry p d held s) := by
  refine h.setBudget (fun start ok => ?_) id
  obtain ⟨once, waiting⟩ := (queueOk_iff s).1 ok
  exact queueOk_insertEntry once waiting (fresh start) waits rfl

/-- The entry of a lamp moved to an earlier deadline (R112). -/
theorem moveEntry_budgetKept {d : BoothTime} {e : Entry} (h : BudgetKept a s) (entry : entryOf s p = some e) :
    BudgetKept a (s.modBudget (fun b =>
      { b with queue := insertEntry { e with deadline := d } (dropEntry p b.queue) })) := by
  have found : e ∈ s.budget.queue := List.mem_of_find?_eq_some entry
  have lamp : e.lamp = p := by simpa using List.find?_some entry
  refine h.setBudget (fun _ ok => ?_) id
  obtain ⟨once, waiting⟩ := (queueOk_iff s).1 ok
  have left : List.Sublist ((dropEntry p s.budget.queue).map Entry.lamp) (queued s) := List.filter_sublist.map _
  refine queueOk_insertEntry (e := { e with deadline := d }) (once.sublist left) (fun q hq => waiting q (left.subset hq)) ?_
    (waiting e.lamp (List.mem_map_of_mem found)) rfl
  rw [lamp]
  exact not_mem_dropEntry p _

theorem budgetRequest_budgetKept {d : BoothTime} (h : BudgetKept a s) (waits : (s.lamp p).waits) :
    BudgetKept a (budgetRequest p d s) := by
  unfold budgetRequest
  split_ifs
  · exact h
  · split
    next entry => exact askExamine_budgetKept (newEntry_budgetKept h waits (fun _ => (entryOf_eq_none s p).1 entry))
    next e entry =>
      split_ifs
      · exact askExamine_budgetKept (moveEntry_budgetKept h entry)
      · exact h

end Sys2Proof.Machine

end


/-! # Proofs: requests, quenches and currents keep the queue and the charges (O44, O45) -/

section

namespace Sys2Proof.Machine

variable {a s : State} {p : Proj}

/-! ## Charges (R110) -/

theorem charge_of_inUse {l : Lamp} (h : l.inUse = true) :
    l.charge = l.litCurrent.getD 0 + (if l.st = .striking then l.fixedSurge else 0) := by
  obtain st | st | st := (inUse_iff l).1 h <;> simp [Lamp.charge, st]

/-- A new lit current changes the charge of a lamp in use by the difference. -/
theorem charge_relit {l : Lamp} {i : Nat} (h : l.inUse = true) (current : l.litCurrent = some i) (e : Nat) :
    ({ l with litCurrent := some e } : Lamp).charge + i = l.charge + e := by
  rw [charge_of_inUse h, charge_of_inUse (l := { l with litCurrent := some e }) h, current]
  simp only [Option.getD_some]
  omega

theorem charge_withdrawn_le (l : Lamp) : l.withdrawn.charge ≤ l.charge := by
  cases st : l.st <;> simp [Lamp.withdrawn, Lamp.charge, st]

/-- A strike success releases the surge (R81). -/
theorem charge_litUp_le {l : Lamp} (st : l.st = .striking) : l.litUp.charge ≤ l.charge := by
  unfold Lamp.litUp
  split_ifs <;> simp [Lamp.charge, st]

/-! ## Entries withdrawn and lamps put out (R78, R88, R89, R113) -/

theorem withdrawEntry_budgetKept (h : BudgetKept a s) : BudgetKept a (withdrawEntry p s) := by
  unfold withdrawEntry
  dsimp only
  split_ifs
  · exact askExamine_budgetKept (dropEntry_budgetKept h)
  · exact dropEntry_budgetKept h

theorem withdrawRequest_not_queued (p : Proj) (s : State) : p ∉ queued (withdrawRequest p s) := by
  rw [queued, withdrawRequest_queue]
  exact not_mem_dropEntry p _

theorem withdrawRequest_budgetKept (h : BudgetKept a s) : BudgetKept a (withdrawRequest p s) := by
  have absent := withdrawRequest_not_queued p s
  unfold withdrawRequest at absent ⊢
  split
  · exact h
  next entry =>
    simp only [entry] at absent
    exact (withdrawEntry_budgetKept h).ease (fun _ => Or.inr absent) (charge_withdrawn_le _)

theorem quenchLamp_budgetKept (h : BudgetKept a s) : BudgetKept a (quenchLamp p s) := by
  unfold quenchLamp
  split
  case h_4 => exact (withdrawRequest_budgetKept h).ease (fun _ => Or.inr (withdrawRequest_not_queued p s)) (Nat.zero_le _)
  case h_5 | h_6 | h_7 => exact h
  all_goals exact askExamine_budgetKept (h.ease (fun _ => Or.inl (Or.inr rfl)) (Nat.zero_le _))

theorem delayedQuench_budgetKept (h : BudgetKept a s) : BudgetKept a (delayedQuench p s) := by
  have delayed : BudgetKept a (if (s.lamp p).settings.quenchDelay = 0 then quenchLamp p s else s.modLamp p (fun l =>
      { l with quenchDue := some (keepEarlier l.quenchDue (after s.boothTime (10 * l.settings.quenchDelay))) })) := by
    split_ifs
    · exact quenchLamp_budgetKept h
    · exact h.rewrite rfl rfl
  unfold delayedQuench
  split
  case h_1 | h_2 => exact delayed
  case h_3 | h_4 | h_5 => exact withdrawRequest_budgetKept (quenchLamp_budgetKept h)
  case h_6 | h_7 => exact h

/-! ## Requests and the set to running (R78, R85) -/

theorem setRunning_budgetKept (h : BudgetKept a s) : BudgetKept a (setRunning p s) := by
  unfold setRunning
  split
  case h_1 st | h_2 st =>
    exact h.ease (fun waiting => by simp [Lamp.waits, st] at waiting) (by simp [Lamp.charge, st])
  case h_3 | h_4 | h_5 => exact h.rewrite rfl rfl
  case h_6 | h_7 => exact h

theorem strikeRequest_budgetKept {x : Target} {d : BoothTime} (h : BudgetKept a s) :
    BudgetKept a (strikeRequest p x d s) := by
  unfold strikeRequest
  split
  · exact h
  · split
    next st =>
      split
      · exact h
      · refine budgetRequest_budgetKept (h.ease (fun _ => Or.inl (Or.inl rfl)) (Nat.zero_le _)) ?_
        rw [lamp_modLamp, if_pos rfl]
        exact Or.inl rfl
    next st => exact (budgetRequest_budgetKept h (Or.inl st)).rewrite rfl rfl
    next st => exact (budgetRequest_budgetKept h (Or.inr st)).rewrite rfl rfl
    next => exact h.rewrite rfl rfl
    all_goals exact h

/-! ## The lit current (R76) -/

/-- A new lit current for which there is room. -/
theorem relit_budgetKept {i e : Nat} (h : BudgetKept a s) (used : (s.lamp p).inUse = true)
    (current : (s.lamp p).litCurrent = some i)
    (room : s.budget.overdrawn = false → sigma s ≤ s.budget.cap → sigma s + (e - i) ≤ s.budget.cap) :
    BudgetKept a (s.setLamp p { s.lamp p with litCurrent := some e }) := by
  have relit := charge_relit used current e
  refine h.setLamp Or.inl (fun free fits => ?_)
  have within := room free fits
  dsimp only at relit ⊢
  omega

theorem reviewCurrent_budgetKept (h : BudgetKept a s) : BudgetKept a (reviewCurrent p s) := by
  unfold reviewCurrent
  dsimp only
  split
  next i free current =>
    have used : (s.lamp p).inUse = true := (Bool.and_eq_true_iff.1 free).1
    split_ifs with lower higher room
    · exact askExamine_budgetKept (relit_budgetKept h used current (fun _ _ => by omega))
    · simp only [Bool.and_eq_true, decide_eq_true_eq] at room
      exact relit_budgetKept h used current (fun _ _ => room.2)
    · exact (h.rewrite (v := { s.lamp p with held := true }) rfl rfl).frame rfl
    · exact h
  · exact h

/-! ## Carbon and forecasts: records in the same state with the same charge -/

theorem withStubCheck_budgetKept {f : Lamp → Lamp} (h : BudgetKept a s) (st : (f (s.lamp p)).st = (s.lamp p).st)
    (charge : (f (s.lamp p)).charge = (s.lamp p).charge) : BudgetKept a (withStubCheck p f s) := by
  have written := h.rewrite st charge
  rw [withStubCheck_eq]
  split_ifs
  · exact written.frame rfl
  · exact written

theorem keepForecast_budgetKept {f : Forecast} (h : BudgetKept a s) : BudgetKept a (keepForecast p f s) := by
  have written : BudgetKept a (s.modLamp p (fun l => { l with forecast := f })) := h.rewrite rfl rfl
  unfold keepForecast
  dsimp only
  split
  · exact written.frame rfl
  · exact written

theorem singleForecast_budgetKept (h : BudgetKept a s) : BudgetKept a (singleForecast p s) := by
  unfold singleForecast
  split <;> exact keepForecast_budgetKept h

theorem economyChoice_budgetKept (h : BudgetKept a s) : BudgetKept a (economyChoice p s) := by
  have chosen (k : Nat) (x : WarmChoice) (f : Forecast) : BudgetKept a (keepForecast p f (chooseWarm p k x s)) :=
    keepForecast_budgetKept (h.rewrite rfl rfl)
  unfold economyChoice
  split
  · exact keepForecast_budgetKept h
  · dsimp only
    split_ifs
    · exact (chosen _ _ _).frame rfl
    · exact chosen _ _ _

end Sys2Proof.Machine

end

/-! # Proofs: the Sequencers keep the queue and the charges (O44, O45)

A Sequencer acts on the lamps through requests, quenches and sets to running alone. -/

section

namespace Sys2Proof.Machine

variable {a s : State} {p : Proj} {n : Screen}

/-! ## The record returns to NONE (R65) -/

theorem recordToNoneSparing_budgetKept {x : Option Side} (h : BudgetKept a s) : BudgetKept a (recordToNoneSparing n x s) := by
  unfold recordToNoneSparing undoIncoming
  split
  · exact h
  next r _ =>
    have out : BudgetKept a (quenchLamp ⟨n, r.incoming⟩ (withdrawRequest ⟨n, r.incoming⟩ s)) :=
      quenchLamp_budgetKept (withdrawRequest_budgetKept h)
    dsimp only
    split_ifs
    · exact h.frame rfl
    · exact out.frame (by simp)

theorem recordToNone_budgetKept (h : BudgetKept a s) : BudgetKept a (recordToNone n s) := recordToNoneSparing_budgetKept h

/-! ## Strike action, arming and the motor cue (R53, R54, R58) -/

theorem raiseRequest_budgetKept {x : Target} {d : BoothTime} (h : BudgetKept a s) : BudgetKept a (raiseRequest p x d s) := by
  unfold raiseRequest
  split_ifs
  · exact h.frame (by simp)
  · exact strikeRequest_budgetKept h

theorem askRunning_budgetKept (h : BudgetKept a s) : BudgetKept a (askRunning p s) := by
  unfold askRunning
  split
  case h_5 | h_6 | h_7 => exact setRunning_budgetKept h
  all_goals exact raiseRequest_budgetKept h

theorem strikeAction_budgetKept (h : BudgetKept a s) : BudgetKept a (strikeAction n s) := by
  unfold strikeAction
  split
  · exact h
  · dsimp only
    split <;> try split_ifs
    case h_1 | h_2 | h_3 | h_7 | pos => exact h.frame rfl
    all_goals exact strikeRequest_budgetKept (h.frame rfl)

theorem strikeIfReached_budgetKept (h : BudgetKept a s) : BudgetKept a (strikeIfReached n s) := by
  unfold strikeIfReached
  split
  · split_ifs
    · exact strikeAction_budgetKept h
    · exact h
  · exact h

theorem warmChosen_budgetKept (h : BudgetKept a s) : BudgetKept a (warmChosen p s) := by
  unfold warmChosen
  split
  · split_ifs
    · exact strikeIfReached_budgetKept (h.frame rfl)
    · exact h
  · exact h

theorem takeMotorCue_budgetKept {c : CueTake} (h : BudgetKept a s) : BudgetKept a (takeMotorCue n c s) := by
  have cued : BudgetKept a (modRecord n (fun r => { r with motorCue := some c }) s) := h.frame rfl
  unfold takeMotorCue
  dsimp only
  split
  · exact cued
  · split_ifs
    · exact cued
    · exact (strikeAction_budgetKept (n := n) cued).frame (by simp)
    · exact cued.frame (by simp)

theorem examineArming_budgetKept (h : BudgetKept a s) : BudgetKept a (examineArming n s) := by
  unfold examineArming
  split
  · exact h
  · dsimp only
    split_ifs
    · exact takeMotorCue_budgetKept (strikeIfReached_budgetKept (h.frame rfl))
    · exact strikeIfReached_budgetKept (h.frame rfl)

/-! ## The switch and the changeover cue (R60 to R62) -/

theorem switchOver_budgetKept {late : Bool} (h : BudgetKept a s) : BudgetKept a (switchOver n late s) := by
  unfold switchOver
  split
  · exact h
  next r _ =>
    exact delayedQuench_budgetKept ((setRunning_budgetKept (p := ⟨n, r.incoming⟩) h).frame (by simp))

theorem takeChangeCue_budgetKept {c : CueTake} (h : BudgetKept a s) : BudgetKept a (takeChangeCue n c s) := by
  unfold takeChangeCue
  dsimp only
  split
  · exact h.frame rfl
  · split
    · exact switchOver_budgetKept (h.frame rfl)
    all_goals exact h.frame rfl

theorem recordFrame_budgetKept (h : BudgetKept a s) : BudgetKept a (recordFrame n p s) := by
  have motor {t : State} (ht : BudgetKept a t) : BudgetKept a (motorCueByCount n p t) := by
    unfold motorCueByCount
    split
    · split_ifs
      · exact takeMotorCue_budgetKept ht
      · exact ht
    · exact ht
  have change {t : State} (ht : BudgetKept a t) : BudgetKept a (changeCueByCount n p t) := by
    unfold changeCueByCount
    split
    · split_ifs
      · exact takeChangeCue_budgetKept ht
      · exact ht
    · exact ht
  unfold recordFrame
  split
  · split_ifs
    · exact h.frame (by simp)
    · have cued : BudgetKept a (motorCheck n p (motorCueByCount n p (strikeIfReached n s))) :=
        (motor (strikeIfReached_budgetKept h)).frame (motorCheck_plant n p _)
      exact (change cued).frame (changeCheck_plant n p _)
    · exact h
  · exact h

theorem recordPulse_budgetKept {k : Nat} (h : BudgetKept a s) : BudgetKept a (recordPulse p k s) := by
  have sense (n : Screen) (r : Changeover) (w : Nat) : BudgetKept a (pulseSense n r w k s) := by
    unfold pulseSense
    split_ifs
    · exact takeMotorCue_budgetKept h
    · exact takeChangeCue_budgetKept h
    · exact h
    · exact h.frame rfl
  unfold recordPulse
  split
  · split_ifs
    · dsimp only
      split
      · exact h
      · exact h
      · exact h.frame (by split_ifs <;> rfl)
      · exact sense _ _ _
      · exact h.frame (by simp)
    · exact h
  · exact h

/-! ## Halts (R62, R67, R69) -/

theorem haltFilm_budgetKept {r : HaltReason} (h : BudgetKept a s) : BudgetKept a (haltFilm r p s) := by
  unfold haltFilm
  split_ifs
  · exact h
  · exact recordToNone_budgetKept (quenchLamp_budgetKept (h.frame (by simp)))

theorem haltLamp_budgetKept {r : HaltReason} (h : BudgetKept a s) : BudgetKept a (haltLamp r p s) := by
  unfold haltLamp
  split_ifs
  · exact h
  · exact recordToNone_budgetKept (h.frame (by split <;> simp))

theorem haltFire_budgetKept (h : BudgetKept a s) : BudgetKept a (haltFire n s) :=
  recordToNone_budgetKept (h.frame (by simp))

theorem haltLocalFire_budgetKept (h : BudgetKept a s) : BudgetKept a (haltLocalFire p s) := by
  have stopped : BudgetKept a (stopFilm ⟨p.screen, .b⟩ (stopFilm ⟨p.screen, .a⟩
      (haltScreen p.screen .localFire (some p) s))) := h.frame (by simp)
  unfold haltLocalFire
  dsimp only
  split_ifs
  · exact h
  · refine recordToNone_budgetKept ?_
    split
    · split_ifs
      · exact stopped
      · exact quenchLamp_budgetKept stopped
    · exact stopped

/-! ## Contexts emptied (R15, R76) -/

theorem dropIncoming_budgetKept (h : BudgetKept a s) : BudgetKept a (dropIncoming p s) := by
  unfold dropIncoming
  split_ifs
  · exact recordToNone_budgetKept h
  · exact h

theorem emptyContext_budgetKept (h : BudgetKept a s) : BudgetKept a (emptyContext p s) := by
  unfold emptyContext
  split
  · exact h
  · exact reviewCurrent_budgetKept (dropIncoming_budgetKept (h.frame (by simp)))

/-! ## Starts (R46, R49) -/

theorem beginStart_budgetKept {k : StartKind} (h : BudgetKept a s) : BudgetKept a (beginStart p k s) := by
  unfold beginStart
  refine askRunning_budgetKept (h.frame ?_)
  split_ifs <;> simp

theorem examinePending_budgetKept (h : BudgetKept a s) : BudgetKept a (examinePending n s) := by
  unfold examinePending
  split_ifs
  · split
    · exact beginStart_budgetKept h
    · exact h
  · exact h

theorem examineThreading_budgetKept (h : BudgetKept a s) : BudgetKept a (examineThreading n s) :=
  examinePending_budgetKept (examineArming_budgetKept h)

theorem expireInterval_budgetKept (h : BudgetKept a s) : BudgetKept a (expireInterval n s) := by
  unfold expireInterval
  split
  · exact beginStart_budgetKept h
  · dsimp only
    split <;> exact h.frame rfl

/-! ## Frame events and the end of a reel (R41, R48 to R50) -/

theorem reelEnds_budgetKept (h : BudgetKept a s) : BudgetKept a (reelEnds p s) := by
  have quenched {t : State} (e : t.plant = s.plant) : BudgetKept a (delayedQuench p t) :=
    delayedQuench_budgetKept (h.frame e)
  have closed : BudgetKept a (closing p s) := (quenched (by simp)).frame (setRole_plant _ _ _)
  unfold reelEnds
  dsimp only
  split
  · exact closed.frame (by simp)
  · exact closed.frame (by simp)
  · exact (quenched (by simp)).frame (setRole_plant _ _ _)

theorem sequencerFrame_budgetKept (h : BudgetKept a s) : BudgetKept a (sequencerFrame p s) := by
  have ended {t : State} (ht : BudgetKept a t) : BudgetKept a (endIfReached p t) := by
    unfold endIfReached
    split
    · split_ifs
      · exact reelEnds_budgetKept ht
      · exact ht
    · exact ht
  unfold sequencerFrame
  dsimp only
  split
  · exact h.frame (by split_ifs <;> simp)
  · split_ifs
    · exact ended (recordFrame_budgetKept (h.frame (by simp)))
    · exact h
  · exact recordFrame_budgetKept h
  · exact h
  · exact h

/-! ## Films that stop (R41, R61, R63, R67) -/

theorem incomingFault_budgetKept {f : IncomingFault} (h : BudgetKept a s) : BudgetKept a (incomingFault p f s) := by
  have held : BudgetKept a (withdrawRequest p (motorOff p s)) := withdrawRequest_budgetKept (h.frame (by simp))
  unfold incomingFault
  split
  · split_ifs
    · exact h
    · split
      · exact held.frame rfl
      · exact held.frame rfl
      · exact h.frame (by simp)
      · exact h
  · exact h

theorem onRunout_budgetKept (h : BudgetKept a s) : BudgetKept a (onRunout p s) := by
  have emptied : BudgetKept a (emptyContext p (motorOff p s)) := emptyContext_budgetKept (h.frame (by simp))
  unfold onRunout
  split
  · exact h.frame (by simp)
  · exact examineArming_budgetKept (emptied.frame (by simp))
  · exact h.frame (by simp)
  · exact emptied.frame rfl
  · exact h

theorem onBreak_budgetKept (h : BudgetKept a s) : BudgetKept a (onBreak p s) := by
  unfold onBreak
  split
  · exact haltFilm_budgetKept h
  · exact haltFilm_budgetKept h
  · exact incomingFault_budgetKept h
  · exact examineArming_budgetKept (h.frame (by simp))
  · exact h

theorem onStall_budgetKept (h : BudgetKept a s) : BudgetKept a (onStall p s) := by
  unfold onStall
  split
  · exact haltFilm_budgetKept h
  · exact incomingFault_budgetKept h
  · exact h

end Sys2Proof.Machine

end


/-! # Proofs: strikes, the examination and the end of an event keep the queue and the charges (O44, O45)

A lamp that strikes or is lit has no entry, so it may leave its state freely; a grant takes the head's entry out of the queue, and
a reclaim puts an entry in for a lamp that had none, being in STANDBY. -/

section

namespace Sys2Proof.Machine

variable {a s : State} {p : Proj} {n : Screen}

theorem not_waits_of_striking {l : Lamp} (h : l.st = .striking) : ¬ l.waits := by
  simp [Lamp.waits, h]

theorem not_waits_of_lit {l : Lamp} (h : l.lit = true) : ¬ l.waits := by
  intro waits
  obtain st | st := waits <;> simp [Lamp.lit, st] at h

/-! ## Strikes (R80 to R82, R86) -/

theorem faultLamp_budgetKept {c : FaultCause} (h : BudgetKept a s) (active : ¬ (s.lamp p).waits) :
    BudgetKept a (faultLamp p c s) :=
  askExamine_budgetKept (h.ease (fun waits => absurd waits active) (Nat.zero_le _))

theorem failStrike_budgetKept {c : FaultCause} (h : BudgetKept a s) (active : ¬ (s.lamp p).waits) :
    BudgetKept a (failStrike p c s) := by
  have failed : BudgetKept a (notifyScreen p.screen (.strikeFailed p c) (faultLamp p c s)) :=
    (faultLamp_budgetKept h active).frame (notifyScreen_plant _ _ _)
  unfold failStrike onStrikeFailed
  split
  · exact haltLamp_budgetKept failed
  · exact haltLamp_budgetKept failed
  · split_ifs
    · exact failed.frame (notifyScreen_plant _ _ _)
    · exact failed

theorem beginAttempt_budgetKept (h : BudgetKept a s) (active : ¬ (s.lamp p).waits) : BudgetKept a (beginAttempt p s) := by
  unfold beginAttempt
  split_ifs
  · exact failStrike_budgetKept h active
  · exact h.rewrite rfl rfl

theorem failAttempt_budgetKept {c : FaultCause} (h : BudgetKept a s) (active : ¬ (s.lamp p).waits) :
    BudgetKept a (failAttempt p c s) := by
  have cooling : BudgetKept a (s.modLamp p (fun l => { l with phase := some .coolOff, strikeTicks := 0 })) := h.rewrite rfl rfl
  unfold failAttempt
  split_ifs
  · exact cooling.frame (notifyScreen_plant _ _ _)
  · exact failStrike_budgetKept h active

theorem lightLamp_budgetKept (h : BudgetKept a s) (st : (s.lamp p).st = .striking) : BudgetKept a (lightLamp p s) := by
  have lit : BudgetKept a (s.modLamp p Lamp.litUp) :=
    h.ease (fun waits => absurd waits (not_waits_of_striking st)) (charge_litUp_le st)
  have asked : BudgetKept a (if (s.lamp p).fixedSurge = 0 then s.modLamp p Lamp.litUp
      else askExamine (s.modLamp p Lamp.litUp)) := by
    split_ifs
    · exact lit
    · exact askExamine_budgetKept lit
  exact (singleForecast_budgetKept (p := p) (asked.frame (notifyScreen_plant _ _ _))).frame (onLit_plant p _)

theorem arcOut_budgetKept (h : BudgetKept a s) (lit : (s.lamp p).lit = true) : BudgetKept a (arcOut p s) := by
  have active : ¬ (s.lamp p).waits := not_waits_of_lit lit
  have told (k : Nat) : BudgetKept a (notifyScreen p.screen (.arcOut p (decide ((s.lamp p).st = .running)) k) s) :=
    h.frame (notifyScreen_plant _ _ _)
  have requeued (k : Nat) : BudgetKept a (budgetRequest p s.boothTime (askExamine
      ((notifyScreen p.screen (.arcOut p (decide ((s.lamp p).st = .running)) k) s).modLamp p
        (fun x => x.requeued s.boothTime)))) := by
    refine budgetRequest_budgetKept (askExamine_budgetKept ((told k).ease (fun waits => absurd waits active) (Nat.zero_le _))) ?_
    simp [askExamine, Lamp.requeued, Lamp.waits]
  unfold arcOut
  extract_lets l running second t
  split_ifs
  · exact (quenchLamp_budgetKept (p := p) (told _)).frame (onArcOut_plant _ _ _)
  · exact failStrike_budgetKept (told _) active
  · exact haltLamp_budgetKept (faultLamp_budgetKept (told _) active)
  · exact (requeued _).frame (onArcOut_plant _ _ _)

/-! ## Grants (R115) -/

theorem grant_budgetKept {e : Entry} (h : BudgetKept a s) (room : fits s e = true) : BudgetKept a (grant e s) := by
  have sum : sigma s + effectiveCurrent s e.lamp + s.budget.surge ≤ s.budget.cap := by simpa [fits] using room
  have granted : BudgetKept a ((s.modBudget (fun b => { b with queue := dropEntry e.lamp b.queue })).modLamp e.lamp
      (fun l => l.granted (effectiveCurrent s e.lamp) s.budget.surge e.deadline)) := by
    refine (dropEntry_budgetKept (p := e.lamp) h).setLamp (fun _ => Or.inr (not_mem_dropEntry _ _)) (fun _ _ => ?_)
    show sigma s + (effectiveCurrent s e.lamp + s.budget.surge) ≤ s.budget.cap + (s.lamp e.lamp).charge
    omega
  refine beginAttempt_budgetKept (granted.frame (notifyScreen_plant _ _ _)) (not_waits_of_striking ?_)
  simp [Lamp.granted]

/-! ## Reclaims (R117, R120) -/

theorem laterOf_foldl_mem {best : Option Proj} {ps : List Proj} (found : ps.foldl (laterOf s) best = some p) :
    best = some p ∨ p ∈ ps := by
  induction ps generalizing best with
  | nil => exact Or.inl found
  | cons q qs ih =>
    obtain now | later := ih found
    · unfold laterOf at now
      split at now
      · exact Or.inr (by simp_all)
      · split_ifs at now
        · exact Or.inr (by simp_all)
        · exact Or.inl now
    · exact Or.inr (List.mem_cons_of_mem q later)

theorem latestCandidate_standby {ok : Proj → Bool} (found : latestCandidate s ok = some p) : (s.lamp p).st = .standby := by
  obtain none | candidate := laterOf_foldl_mem found
  · cases none
  · have passed := (List.mem_filter.1 candidate).2
    simp only [Bool.and_eq_true, beq_iff_eq] at passed
    exact passed.1

theorem reclaim_budgetKept {head : Option Proj} (h : BudgetKept a s) (standby : (s.lamp p).st = .standby) :
    BudgetKept a (reclaim p head s) := by
  have used : (s.lamp p).inUse = true := by simp [Lamp.inUse, standby]
  have fresh (start : queueOk a) : p ∉ queued s := not_queued_of_not_waits (h.queue start) (not_waits_of_inUse used)
  have quenched := quenchLamp_budgetKept (p := p) h
  rw [quenchLamp_of_inUse used] at quenched
  have joined : BudgetKept a (newEntry p (ownDeadline s p) true (quenchLamp p s)) := by
    rw [quenchLamp_of_inUse used]
    refine newEntry_budgetKept quenched (Or.inr ?_) fresh
    show ((s.setLamp p ((s.lamp p).quenched s.boothTime)).lamp p).st = .quenching
    rw [lamp_setLamp, if_pos rfl]
    rfl
  exact (joined.frame (onReclaim_plant p _)).frame (notifyReclaimed_plant p _ head _)

theorem overdraftReclaim_budgetKept {k : Nat} (h : BudgetKept a s) : BudgetKept a (overdraftReclaim k s) := by
  induction k generalizing s with
  | zero => exact h
  | succ k ih =>
    unfold overdraftReclaim
    split_ifs
    · exact h
    · split
      next found => exact ih (reclaim_budgetKept h (latestCandidate_standby found))
      next => exact h

theorem standbyInOverdraft_budgetKept (h : BudgetKept a s) : BudgetKept a (standbyInOverdraft s) := by
  unfold standbyInOverdraft
  split_ifs
  · exact askExamine_budgetKept (overdraftReclaim_budgetKept h)
  · exact h

/-! ## The examination (R114, R121) -/

theorem examineQueue_budgetKept {k : Nat} (h : BudgetKept a s) : BudgetKept a (examineQueue k s) := by
  induction k generalizing s with
  | zero => rw [examineQueue]; exact h
  | succ k ih =>
    cases queue : s.budget.queue with
    | nil => rw [examineQueue.eq_def]; simpa only [queue] using h
    | cons e rest =>
      rw [examineQueue.eq_def]
      simp only [queue]
      split_ifs with _ room
      · exact h
      · exact ih (grant_budgetKept h room)
      · split
        next found => exact ih (reclaim_budgetKept h (latestCandidate_standby found))
        next => exact h
      · exact h

/-- OVERDRAWN clears only where the sum is within Cap (R121). -/
theorem restoreBudget_budgetKept (h : BudgetKept a s) : BudgetKept a (restoreBudget s) := by
  unfold restoreBudget
  split_ifs with cleared
  · simp only [Bool.and_eq_true, decide_eq_true_eq] at cleared
    have restored : BudgetKept a (s.modBudget (fun b => { b with overdrawn := false })) :=
      h.setBudget (fun _ ok => ok) (fun _ _ => cleared.2)
    exact restored.frame (notifyAll_plant _ _)
  · exact h

theorem markLead_budgetKept (h : BudgetKept a s) : BudgetKept a (markLead s) := h.mark rfl rfl rfl

theorem clearExamine_budgetKept (h : BudgetKept a s) :
    BudgetKept a (s.modBudget (fun b => { b with examine := false })) := h.mark rfl rfl rfl

theorem examineBudget_budgetKept (h : BudgetKept a s) : BudgetKept a (examineBudget s) :=
  markLead_budgetKept (examineQueue_budgetKept (restoreBudget_budgetKept h))

/-- A mark on one lamp's entries leaves the lamps of the queue alone. -/
theorem map_entries_lamp (p : Proj) (f : Entry → Entry) (hf : ∀ e, (f e).lamp = e.lamp) (q : List Entry) :
    (q.map (fun e => if e.lamp = p then f e else e)).map Entry.lamp = q.map Entry.lamp := by
  rw [List.map_map]
  refine List.map_congr_left (fun e _ => ?_)
  simp only [Function.comp_apply]
  split_ifs
  · exact hf e
  · rfl

theorem lateStrike_budgetKept (h : BudgetKept a s) : BudgetKept a (lateStrike p s) := by
  unfold lateStrike
  split
  · split_ifs
    · have marked : BudgetKept a (s.modBudget (fun b =>
          { b with queue := b.queue.map (fun x => if x.lamp = p then { x with lateSent := true } else x) })) :=
        h.mark (map_entries_lamp p (fun x => { x with lateSent := true }) (fun _ => rfl) _) rfl rfl
      exact marked.frame (notifyScreen_plant _ _ _)
    · exact h
  · exact h

/-! ## The end of an event -/

theorem startStep_budgetKept (h : BudgetKept a s) : BudgetKept a (startStep n s) := by
  have waits (x : Proj) : BudgetKept a (strikeWait x s) := by
    have set : BudgetKept a (if (s.lamp x).st = .standby then setRunning x s else s) := by
      split_ifs
      · exact setRunning_budgetKept h
      · exact h
    unfold strikeWait
    extract_lets t
    split_ifs
    · exact set.frame (by rw [motorOn_plant, modSeq_plant])
    · exact set
  have runs (x : Proj) (k : StartKind) : BudgetKept a (runWait x k s) := by
    unfold runWait completeStart
    split_ifs
    · exact examineArming_budgetKept (h.frame (by simp))
    · exact h
  unfold startStep
  split
  · split_ifs
    · exact h
    · split
      · exact waits _
      · exact runs _ _
  · exact h

theorem recordStep_budgetKept (h : BudgetKept a s) : BudgetKept a (recordStep n s) := by
  unfold recordStep
  split
  · exact h
  · dsimp only
    split
    · exact h.frame rfl
    · exact h.frame rfl
    · split_ifs
      · exact switchOver_budgetKept h
      · exact h
    · exact h

theorem screenSteps_budgetKept (h : BudgetKept a s) : BudgetKept a (screenSteps s) :=
  forEach_keeps _ _ (BudgetKept a)
    (fun _ _ ht => recordStep_budgetKept (startStep_budgetKept (ht.frame (by simp)))) h

theorem settleBudget_budgetKept {k : Nat} (h : BudgetKept a s) : BudgetKept a (settleBudget k s) := by
  induction k generalizing s with
  | zero => exact h
  | succ k ih =>
    have round := screenSteps_budgetKept (examineBudget_budgetKept h)
    unfold settleBudget
    dsimp only
    split_ifs
    · exact ih round
    · exact round

/-- The end of an event keeps the queue and the charges. -/
theorem settle_budgetKept (h : BudgetKept a s) : BudgetKept a (settle s) := by
  have stepped := screenSteps_budgetKept h
  have late : BudgetKept a (lateStrikes (settleBudget 8 (screenSteps s))) :=
    forEach_keeps _ _ (BudgetKept a) (fun _ _ ht => lateStrike_budgetKept ht) (settleBudget_budgetKept stepped)
  unfold settle
  extract_lets t
  split_ifs
  · exact (clearExamine_budgetKept late).frame (judgeLights_plant _)
  · exact stepped.frame (judgeLights_plant _)

theorem event_budgetKept {f : State → State} (h : BudgetKept a s) (hf : BudgetKept a (f s)) : BudgetKept a (event f s) := by
  unfold event
  split_ifs
  · exact settle_budgetKept hf
  · exact h

end Sys2Proof.Machine

end


/-! # Proofs: the events keep the queue and the charges (O44, O45) -/

section

namespace Sys2Proof.Machine

variable {a s : State} {p : Proj} {n : Screen}

/-! ## Fire (R139 to R151) -/

theorem boothFire_budgetKept (h : BudgetKept a s) : BudgetKept a (boothFire s) := by
  have lamps : BudgetKept a (forEach Proj.all fireLamp
      (notifyAll (.fire s.boothTime s.fire.sources) (s.modFire (fun u => u.enter s.boothTime)))) :=
    forEach_keeps _ _ (BudgetKept a) (fun _ _ ht => quenchLamp_budgetKept (withdrawRequest_budgetKept ht))
      (h.frame (by simp))
  have screens := forEach_keeps Screen.all haltFire (BudgetKept a) (fun _ _ ht => haltFire_budgetKept ht) lamps
  exact screens.frame (setBoothHolder_plant true _)

theorem recordSource_plant (x : Source) (s : State) : (recordSource x s).plant = s.plant := by
  unfold recordSource modOpenEntry
  dsimp only
  split <;> simp

theorem sourceRise_budgetKept {x : Source} (h : BudgetKept a s) : BudgetKept a (sourceRise x s) := by
  unfold sourceRise
  dsimp only
  split_ifs
  · exact h
  · exact h.frame (recordSource_plant x _)
  · exact h.frame rfl
  · exact boothFire_budgetKept (h.frame rfl)

theorem sourceFollows_budgetKept {i : FireInput} {v : Bool} (h : BudgetKept a s) : BudgetKept a (sourceFollows i v s) := by
  unfold sourceFollows
  split_ifs
  · exact sourceRise_budgetKept h
  · exact h.frame rfl

theorem flameRise_budgetKept (h : BudgetKept a s) : BudgetKept a (flameRise p s) := by
  have quenched : BudgetKept a (quenchLamp p (s.modFire (fun u => u.flameRises p))) := quenchLamp_budgetKept (h.frame rfl)
  exact haltLocalFire_budgetKept (quenched.frame (by simp))

theorem flameFall_plant (p : Proj) (s : State) : (flameFall p s).plant = s.plant := by
  unfold flameFall
  dsimp only
  split_ifs <;> rfl

theorem upChange_budgetKept {q : Port} {v : Bool} (h : BudgetKept a s) : BudgetKept a (upChange q v s) := by
  unfold upChange portDrops
  dsimp only
  split_ifs
  · exact h
  · split
    · split_ifs
      · exact haltFilm_budgetKept (h.frame rfl)
      · exact h.frame rfl
    · exact h.frame rfl
  · exact h.frame rfl

theorem firstScan_budgetKept {i : ScanInputs} (h : BudgetKept a s) : BudgetKept a (firstScan i s) := by
  have sampled {t : State} (ht : BudgetKept a t) : BudgetKept a (scanSamples i t) :=
    forEach_keeps _ _ (BudgetKept a) (fun p u hu => hu.rewrite (v := (u.lamp p).scanned i p) rfl rfl) ht
  have flames {t : State} (ht : BudgetKept a t) : BudgetKept a (scanFlames i t) :=
    forEach_keeps _ _ (BudgetKept a) (fun _ _ hu => by split_ifs <;> [exact flameRise_budgetKept hu; exact hu]) ht
  have sources {t : State} (ht : BudgetKept a t) : BudgetKept a (scanSources i t) := by
    unfold scanSources
    dsimp only
    split_ifs
    · exact forEach_keeps _ _ (BudgetKept a) (fun _ _ hu => sourceFollows_budgetKept hu) ht
    · exact boothFire_budgetKept (ht.frame rfl)
    · exact ht.frame rfl
  exact sources (flames (sampled (h.frame rfl)))

/-! ## Film events (R22, R29, R31, R32, R35) -/

theorem perforation_budgetKept {d : Nat} (h : BudgetKept a s) : BudgetKept a (perforation p d s) := by
  unfold perforation frameEvent
  split_ifs
  · exact h.frame rfl
  · exact sequencerFrame_budgetKept (h.frame (by simp))

theorem cuePulse_budgetKept (h : BudgetKept a s) : BudgetKept a (cuePulse p s) := by
  unfold cuePulse
  dsimp only
  split_ifs
  · exact h.frame rfl
  · exact recordPulse_budgetKept (h.frame rfl)

theorem breakReached_budgetKept (h : BudgetKept a s) : BudgetKept a (breakReached p s) := by
  unfold breakReached
  dsimp only
  split_ifs
  · exact onRunout_budgetKept (h.frame (by simp))
  · exact onBreak_budgetKept (h.frame (by simp))
  · exact h.frame rfl

theorem breakNow_budgetKept (h : BudgetKept a s) : BudgetKept a (breakNow p s) := by
  unfold breakNow
  split_ifs
  · exact breakReached_budgetKept (h.frame rfl)
  · exact h

theorem coastReached_plant (p : Proj) (s : State) : (coastReached p s).plant = s.plant := by
  unfold coastReached
  split_ifs <;> simp

theorem coastNow_budgetKept (h : BudgetKept a s) : BudgetKept a (coastNow p s) := by
  have reached {t : State} (ht : BudgetKept a t) :
      BudgetKept a (coastReached p (t.modChan p (fun c => { c with age := coastUnits }))) :=
    ht.frame (by rw [coastReached_plant, modChan_plant])
  unfold coastNow
  dsimp only
  split_ifs
  · exact reached (breakNow_budgetKept h)
  · exact reached h
  · exact h

theorem runupReached_budgetKept (h : BudgetKept a s) : BudgetKept a (runupReached p s) := by
  unfold runupReached
  split_ifs
  · exact onStall_budgetKept (h.frame (by simp))
  · exact h

/-! ## Lamp events (R80 to R90) -/

theorem touchSample_budgetKept {v : Nat} (h : BudgetKept a s) (st : (s.lamp p).st = .striking) :
    BudgetKept a (touchSample p v s) := by
  have sampled : BudgetKept a (s.modLamp p (fun l =>
      { l with lastCurrent := min 255 v, touchSamples := l.touchSamples + 1 })) := h.rewrite rfl rfl
  unfold touchSample touchFeed
  extract_lets t
  split_ifs
  · exact sampled.rewrite rfl rfl
  · exact failAttempt_budgetKept sampled (not_waits_of_striking (by simpa [t] using st))
  · exact sampled
  · exact withStubCheck_budgetKept sampled rfl rfl

theorem drawEnd_budgetKept {v : Nat} (h : BudgetKept a s) (st : (s.lamp p).st = .striking) :
    BudgetKept a (drawEnd p v s) := by
  have sampled : BudgetKept a (s.modLamp p (fun l => { l with lastCurrent := min 255 v })) := h.rewrite rfl rfl
  have striking : ((s.modLamp p (fun l => { l with lastCurrent := min 255 v })).lamp p).st = .striking := by simpa using st
  have lit := lightLamp_budgetKept sampled striking
  unfold drawEnd
  dsimp only
  split_ifs
  · exact standbyInOverdraft_budgetKept lit
  · exact lit
  · exact failAttempt_budgetKept sampled (not_waits_of_striking striking)

theorem regulate_budgetKept {v : Nat} (h : BudgetKept a s) : BudgetKept a (regulate p v s) := h.rewrite rfl rfl

theorem feedInterval_budgetKept (h : BudgetKept a s) : BudgetKept a (feedInterval p s) := by
  have begun : BudgetKept a (s.modLamp p (fun l => { l with feedTicks := 0 })) := h.rewrite rfl rfl
  unfold feedInterval feedStep
  split_ifs
  · exact withStubCheck_budgetKept begun rfl rfl
  · exact begun

theorem litSample_budgetKept {v : Nat} (h : BudgetKept a s) (lit : (s.lamp p).lit = true) :
    BudgetKept a (litSample p v s) := by
  have sampled : BudgetKept a (s.modLamp p (fun l =>
      { l with lastCurrent := min 255 v, lowCount := if v < 20 then l.lowCount + 1 else 0 })) := h.rewrite rfl rfl
  unfold litSample
  extract_lets t
  split
  · exact arcOut_budgetKept sampled (by rw [lamp_modLamp, if_pos rfl]; exact lit)
  · exact sampled

/-- The end of quenching: QUEUED with its entry, or DARK without one (R90). -/
theorem quenchingEnds_budgetKept (h : BudgetKept a s) : BudgetKept a (quenchingEnds p s) := by
  have ended : BudgetKept a (s.modLamp p (fun l => { l with quenchingEnd := none })) := h.rewrite rfl rfl
  unfold quenchingEnds
  extract_lets t
  split
  · have waiting : BudgetKept a (t.modLamp p (fun l => { l with st := .queued })) :=
      ended.ease (fun _ => Or.inl (Or.inl rfl)) (Nat.zero_le _)
    exact askExamine_budgetKept (waiting.mark (map_entries_lamp p (fun e => { e with held := false }) (fun _ => rfl) _) rfl rfl)
  next entry =>
    have dark : BudgetKept a (t.modLamp p (fun l => { l with st := .dark })) :=
      ended.ease (fun _ => Or.inr ((entryOf_eq_none s p).1 entry)) (Nat.zero_le _)
    exact dark.frame (notifyScreen_plant _ _ _)

theorem forecastAfresh_budgetKept (h : BudgetKept a s) :
    BudgetKept a (singleForecast p (s.modLamp p (fun l => { l with forecastTicks := 0 }))) :=
  singleForecast_budgetKept (h.rewrite rfl rfl)

/-! ## Booth time (R166, R167) -/

theorem waitEnds_budgetKept {c : Instr} (h : BudgetKept a s) : BudgetKept a (waitEnds c s) := by
  unfold waitEnds
  split
  · exact expireInterval_budgetKept h
  · exact quenchLamp_budgetKept h
  · exact quenchingEnds_budgetKept h
  · exact askExamine_budgetKept h
  · exact lateStrike_budgetKept h
  · exact h

theorem advanceWithWaits_budgetKept (h : BudgetKept a s) : BudgetKept a (advanceWithWaits s) := by
  have advanced : BudgetKept a (settle (advanceBoothTime s)) := settle_budgetKept (h.frame rfl)
  refine forEach_keeps _ _ (BudgetKept a) (fun c t ht => ?_) advanced
  unfold takeWait
  split_ifs
  · exact settle_budgetKept (waitEnds_budgetKept ht)
  · exact ht

end Sys2Proof.Machine

end


/-! # Proofs: the orders, the lines and the clock keep the queue and the charges (O44, O45) -/

section

namespace Sys2Proof.Machine

variable {a s : State} {p : Proj} {n : Screen}

/-! ## The orders of the Reel Store (R4 to R19) -/

theorem notifyEdit_plant (owner : Screen) (p : Proj) (b : NoticeBody) (s : State) :
    (notifyEdit owner p b s).plant = s.plant := by
  unfold notifyEdit
  dsimp only
  split_ifs <;> rfl

theorem refreshContext_budgetKept {k : Nat} {c : Context} {r : ReelRecord} (h : BudgetKept a s) :
    BudgetKept a (refreshContext p k c r s) := by
  unfold refreshContext
  refine examineArming_budgetKept (reviewCurrent_budgetKept (h.frame ?_))
  rw [notifyEdit_plant]
  split_ifs <;> rfl

theorem applyStoreReel_budgetKept {l : Line} {k o : Nat} {f : ReelFields} (h : BudgetKept a s) :
    BudgetKept a (applyStoreReel l k o f s) := by
  unfold applyStoreReel editReaches markStale
  split
  · exact h
  next r _ =>
    have stored : BudgetKept a (s.setReel k (some r)) := h.frame rfl
    dsimp only
    split
    · split
      · split
        · exact stored.frame (by rw [notifyEdit_plant, setCtx_plant])
        · exact refreshContext_budgetKept stored
      · exact stored
    · exact stored

theorem applyStoreProgram_budgetKept {k : Nat} {items : List RawItem} (h : BudgetKept a s) :
    BudgetKept a (applyStoreProgram k items s) := by
  unfold applyStoreProgram
  split
  · exact examineArming_budgetKept (h.frame (by split_ifs <;> rfl))
  · exact h

theorem applyThread_budgetKept {k slot : Nat} (h : BudgetKept a s) : BudgetKept a (applyThread k slot s) := by
  have forecast {x : Proj} {t : State} (ht : BudgetKept a t) : BudgetKept a (threadForecast x t) := by
    unfold threadForecast
    split_ifs
    · exact singleForecast_budgetKept ht
    · exact warmChosen_budgetKept (economyChoice_budgetKept ht)
  unfold applyThread threadReel
  split
  next x r _ _ =>
    have dropped : BudgetKept a (dropIncoming x s) := dropIncoming_budgetKept h
    exact examineThreading_budgetKept (forecast (reviewCurrent_budgetKept (dropped.frame (by simp))))
  · exact h

theorem applyUnthread_budgetKept {k : Nat} (h : BudgetKept a s) : BudgetKept a (applyUnthread k s) := by
  unfold applyUnthread unthreadReel
  split
  · split
    · exact examineThreading_budgetKept (emptyContext_budgetKept h)
    · exact h
  · exact h

/-! ## The show orders (R43 to R45, R51, R64, R70) -/

theorem applyStart_budgetKept {k : Nat} (h : BudgetKept a s) : BudgetKept a (applyStart k s) := by
  unfold applyStart
  split
  · split
    · exact beginStart_budgetKept h
    · exact h
  · exact h

theorem cancelStart_budgetKept (h : BudgetKept a s) : BudgetKept a (cancelStart n s) := by
  unfold cancelStart
  split
  next r _ => exact (withdrawRequest_budgetKept (p := ⟨n, r.side⟩) h).frame (modSeq_plant _ _ _)
  · exact h.frame rfl

theorem notifyStopped_plant (l : Line) (n : Screen) (s : State) : (notifyStopped l n s).plant = s.plant := by
  unfold notifyStopped
  split_ifs <;> rfl

theorem stopShow_budgetKept {l : Line} (h : BudgetKept a s) : BudgetKept a (stopShow l n s) := by
  have dark : BudgetKept a (darkScreen n s) := h.frame (by simp)
  have out := quenchLamp_budgetKept (p := ⟨n, .b⟩) (quenchLamp_budgetKept (p := ⟨n, .a⟩)
    (recordToNone_budgetKept (n := n) (cancelStart_budgetKept (n := n) dark)))
  exact out.frame (by rw [stopShow, notifyStopped_plant, programTakes_plant, modSeq_plant])

theorem closeShow_budgetKept (h : BudgetKept a s) : BudgetKept a (closeShow n s) := by
  have undone := recordToNone_budgetKept (n := n) (cancelStart_budgetKept (n := n) h)
  exact undone.frame (by simp [closeShow])

theorem swapRoles_budgetKept {x : Side} (h : BudgetKept a s) : BudgetKept a (swapRoles n x s) := by
  unfold swapRoles
  dsimp only
  split_ifs
  · exact h.frame rfl
  · exact (emptyContext_budgetKept (p := ⟨n, x.other⟩) (h.frame (modSeq_plant _ _ _))).frame (setRole_plant _ _ _)
  · exact h

theorem applyResume_budgetKept {k : Nat} (h : BudgetKept a s) : BudgetKept a (applyResume k s) := by
  unfold applyResume resumeReel resumeState
  split
  next n _ =>
    split
    next x _ =>
      have swapped : BudgetKept a (recordToNoneSparing n (some x) (swapRoles n x (removeClaims n .fault s))) :=
        recordToNoneSparing_budgetKept (swapRoles_budgetKept (h.frame rfl))
      exact askRunning_budgetKept (swapped.frame (by simp))
    · exact examinePending_budgetKept (h.frame rfl)
  · exact h

theorem applyChangeNow_budgetKept {k : Nat} (h : BudgetKept a s) : BudgetKept a (applyChangeNow k s) := by
  unfold applyChangeNow switchByHand restartHeldMotor
  split
  · split
    · split
      · exact switchOver_budgetKept (h.frame rfl)
      · dsimp only
        split_ifs
        · exact raiseRequest_budgetKept (h.frame (by simp))
        · exact h.frame (by simp)
    · exact h
  · exact h

/-! ## The lamp orders (R75, R79, R91, R93) -/

/-- What an accepted SET LAMP would raise has room (R75). -/
theorem room_of_not_refused {x : LampSettings} {i : Nat} (accepted : raiseRefused p x s = false)
    (takes : ((s.lamp p).inUse && (overrideOf s p).isNone) = true) (current : (s.lamp p).litCurrent = some i)
    (fits : sigma s ≤ s.budget.cap) : sigma s + (x.run - i) ≤ s.budget.cap := by
  by_cases higher : i < x.run
  · simp only [raiseRefused, takes, current, higher, decide_true, Bool.true_and, Bool.not_eq_false', Bool.and_eq_true,
      decide_eq_true_eq] at accepted
    exact accepted.2
  · omega

theorem newSettings_sigma (p : Proj) (x : LampSettings) (s : State) :
    sigma (withStubCheck p (fun l => l.withSettings x) s) = sigma s := by
  have same : sigma (s.setLamp p ((s.lamp p).withSettings x)) = sigma s :=
    Nat.add_right_cancel (sigma_setLamp s p ((s.lamp p).withSettings x))
  rw [newSettings_eq]
  split_ifs
  · exact same
  · exact same

theorem newSettings_budget (p : Proj) (x : LampSettings) (s : State) :
    (withStubCheck p (fun l => l.withSettings x) s).budget = s.budget := by
  rw [newSettings_eq]
  split_ifs <;> rfl

theorem setLamp_budgetKept {x : LampSettings} (h : BudgetKept a s) (accepted : raiseRefused p x s = false) :
    BudgetKept a (takeRunCurrent p x.run (withStubCheck p (fun l => l.withSettings x) s)) := by
  have refitted : BudgetKept a (withStubCheck p (fun l => l.withSettings x) s) := withStubCheck_budgetKept h rfl rfl
  unfold takeRunCurrent
  split
  next i takes current =>
    have used := (Bool.and_eq_true_iff.1 takes).1
    rw [newSettings_lamp, newSettings_override] at takes
    rw [newSettings_lamp] at current
    have taken := relit_budgetKept (e := x.run) refitted used (by rw [newSettings_lamp]; exact current) (fun _ fits => by
      rw [newSettings_sigma, newSettings_budget] at fits ⊢
      exact room_of_not_refused accepted takes current fits)
    dsimp only
    split_ifs
    · exact askExamine_budgetKept taken
    · exact taken
  · exact refitted

theorem applySetLamp_budgetKept {k : Nat} {x : LampSettings} (h : BudgetKept a s) (check : checkSetLamp k x s = none) :
    BudgetKept a (applySetLamp k x s) := by
  unfold applySetLamp
  unfold checkSetLamp at check
  split
  next q code =>
    simp only [code] at check
    split_ifs at check with _ refused
    exact setLamp_budgetKept h (by simpa using refused)
  · exact h

theorem applyStrike_budgetKept {k run : Nat} (h : BudgetKept a s) : BudgetKept a (applyStrike k run s) := by
  unfold applyStrike
  split
  · exact strikeRequest_budgetKept h
  · exact h

theorem quenchByOrder_budgetKept (h : BudgetKept a s) : BudgetKept a (quenchByOrder p s) := by
  have quenched : BudgetKept a (quenchLamp p (withdrawRequest p s)) := quenchLamp_budgetKept (withdrawRequest_budgetKept h)
  unfold quenchByOrder
  dsimp only
  split_ifs with fault
  · have cleared : BudgetKept a (s.modLamp p Lamp.unfaulted) :=
      h.ease (fun waits => by simp [Lamp.waits, fault] at waits) (Nat.zero_le _)
    exact cleared.frame (notifyScreen_plant _ _ _)
  · exact quenched.frame (lampUnavailable_plant p _)
  · exact quenched

theorem trimLamp_budgetKept {k : Nat} (h : BudgetKept a s) : BudgetKept a (trimLamp p k s) := by
  have trimmed : BudgetKept a (withStubCheck p (fun l => { l with carbon := k }) s) := withStubCheck_budgetKept h rfl rfl
  unfold trimLamp
  split
  · exact warmChosen_budgetKept (economyChoice_budgetKept trimmed)
  · exact trimmed

/-! ## The orders of the budget (R108, R109, R120) -/

/-- A Cap lowered below the sum makes the budget OVERDRAWN; any other Cap leaves the sum within it. -/
theorem applySetCapacity_budgetKept {cap : Nat} (h : BudgetKept a s) : BudgetKept a (applySetCapacity cap s) := by
  have capped (fits : sigma s ≤ s.budget.cap → sigma s ≤ cap) :
      BudgetKept a { s with budget := { s.budget with cap := cap } } :=
    h.setBudget (fun _ ok => ok) (fun ok free => fits (ok free))
  by_cases raised : s.budget.cap < cap
  · rw [applySetCapacity_of_raised raised]
    exact askExamine_budgetKept (capped (fun _ => by omega))
  · by_cases room : cap = s.budget.cap ∨ sigma s ≤ cap
    · rw [applySetCapacity_of_room (by omega)]
      exact capped (fun _ => by omega)
    · rw [applySetCapacity_of_over (by omega) (by omega)]
      have overdrawn : BudgetKept a { s with budget := { s.budget with cap := cap, overdrawn := true } } :=
        h.setBudget (fun _ ok => ok) (fun _ free => Bool.noConfusion free)
      exact askExamine_budgetKept (overdraftReclaim_budgetKept (overdrawn.frame (notifyAll_plant _ _)))

theorem applySetSurge_budgetKept {k : Nat} (h : BudgetKept a s) : BudgetKept a (applySetSurge k s) := by
  have set : BudgetKept a (s.modBudget (fun b => { b with surge := k })) := h.mark rfl rfl rfl
  unfold applySetSurge
  dsimp only
  split_ifs
  · exact askExamine_budgetKept set
  · exact set

theorem applySetReclaim_budgetKept {k g : Nat} (h : BudgetKept a s) : BudgetKept a (applySetReclaim k g s) := by
  have set : BudgetKept a (s.modBudget (fun b => { b with lead := k, gap := g, leadTaken := false })) := h.mark rfl rfl rfl
  unfold applySetReclaim
  dsimp only
  split_ifs
  · exact askExamine_budgetKept set
  · exact set

/-! ## The house orders (R38, R133 to R136, R143, R149) -/

theorem applyLights_plant (k : Nat) (form : LightsForm) (s : State) : (applyLights k form s).plant = s.plant := by
  unfold applyLights
  split
  · exact forEach_frame _ _ State.plant (fun m t => by unfold manualTakes; split <;> rfl) s
  · rfl

theorem applyLightsRelease_plant (k : Nat) (s : State) : (applyLightsRelease k s).plant = s.plant := by
  unfold applyLightsRelease
  split
  · exact forEach_frame _ _ State.plant (fun m t => removeClaims_plant m .manual t) s
  · rfl

theorem applySetRest_plant (c k : Nat) (s : State) : (applySetRest c k s).plant = s.plant := by
  unfold applySetRest restTakes
  split
  · dsimp only
    split <;> simp
  · rfl

theorem applyClearFire_plant (s : State) : (applyClearFire s).plant = s.plant := by
  unfold applyClearFire notifyCleared modOpenEntry
  dsimp only
  split <;> simp

theorem applyRehang_plant (k : Nat) (s : State) : (applyRehang k s).plant = s.plant := by
  unfold applyRehang
  split <;> rfl

theorem applySetMotion_budgetKept {m : MotionSettings} (h : BudgetKept a s) : BudgetKept a (applySetMotion m s) := by
  have replaced : BudgetKept a { s with motionSettings := m } := h.frame rfl
  refine forEach_keeps _ _ (BudgetKept a) (fun p t ht => ?_)
    (forEach_keeps _ _ (BudgetKept a) (fun p t ht => ?_)
      (forEach_keeps _ _ (BudgetKept a) (fun p t ht => ?_) replaced))
  · unfold persistenceMeets persistenceReached
    split
    · split_ifs
      · exact sourceRise_budgetKept (ht.frame rfl)
      · exact ht
    · exact ht
  · unfold gapMeets
    split_ifs
    · exact breakReached_budgetKept ht
    · exact ht
  · unfold runupMeets
    split
    · split_ifs
      · exact runupReached_budgetKept ht
      · exact ht
    · exact ht

/-! ## Taking an order (R156 to R158) -/

theorem applyOrder_budgetKept {l : Line} {o : Order} (h : BudgetKept a s) (check : checkOrder l o s = none) :
    BudgetKept a (applyOrder l o s) := by
  cases o <;> dsimp only [applyOrder]
  case storeReel => exact applyStoreReel_budgetKept h
  case storeProgram => exact applyStoreProgram_budgetKept h
  case thread => exact applyThread_budgetKept h
  case unthread => exact applyUnthread_budgetKept h
  case openScreen => unfold applyOpen; split <;> exact h.frame rfl
  case start => exact applyStart_budgetKept h
  case stop => unfold applyStop; split <;> [exact stopShow_budgetKept h; exact h]
  case close => unfold applyClose; split <;> [exact closeShow_budgetKept h; exact h]
  case resume => exact applyResume_budgetKept h
  case changeNow => exact applyChangeNow_budgetKept h
  case setLamp => exact applySetLamp_budgetKept h check
  case strike => exact applyStrike_budgetKept h
  case quench => unfold applyQuench; split <;> [exact quenchByOrder_budgetKept h; exact h]
  case trim => unfold applyTrim; split <;> [exact trimLamp_budgetKept h; exact h]
  case setCapacity => exact applySetCapacity_budgetKept h
  case setSurge => exact applySetSurge_budgetKept h
  case setReclaim => exact applySetReclaim_budgetKept h
  case lights => exact h.frame (applyLights_plant _ _ _)
  case lightsRelease => exact h.frame (applyLightsRelease_plant _ _)
  case setRest => exact h.frame (applySetRest_plant _ _ _)
  case setMotion => exact applySetMotion_budgetKept h
  case fireAssert => exact sourceRise_budgetKept h
  case clearFire => exact h.frame (applyClearFire_plant _)
  case rehang => exact h.frame (applyRehang_plant _ _)
  case deleteReel | storeScene | setFloor | fireRelease | read | unknown | miscounted => exact h.frame rfl

/-- The reply changes nothing that an order is judged by. -/
theorem checkOrder_reply (l k : Line) (r : Reply) (o : Order) (s : State) :
    checkOrder l o (reply k r s) = checkOrder l o s := by
  cases o <;> rfl

theorem takeOrder_budgetKept {l : Line} {o : Order} (h : BudgetKept a s) : BudgetKept a (takeOrder l o s) := by
  have replied (r : Reply) : BudgetKept a (reply l r s) := h.frame rfl
  unfold takeOrder
  split
  · unfold takeRead clearOwnStatus
    split <;> try split_ifs
    all_goals exact h.frame rfl
  · dsimp only
    split_ifs with acts
    · exact applyOrder_budgetKept (replied _) ((checkOrder_reply _ _ _ _ _).trans (checkOrder_of_acts acts))
    · exact replied _

theorem takeAll_budgetKept {l : Line} (h : BudgetKept a s) : BudgetKept a (takeAll l s) := by
  have one {t : State} (ht : BudgetKept a t) : BudgetKept a (takeOne l t) := by
    unfold takeOne
    split
    · exact ht
    · split_ifs
      · exact settle_budgetKept (takeOrder_budgetKept (ht.frame rfl))
      · exact ht
  exact one (one h)

theorem arrive_budgetKept {l : Line} {o : Order} (h : BudgetKept a s) : BudgetKept a (arrive l o s) := by
  unfold arrive
  split_ifs
  · exact takeAll_budgetKept (h.frame rfl)
  · exact h.frame rfl
  · exact h

/-! ## The bytes of a line (R153 to R155, R161) -/

theorem frameTimeOut_plant (l : Line) (s : State) : (frameTimeOut l s).plant = s.plant := by
  unfold frameTimeOut
  split <;> rfl

theorem gapTimeOut_plant (l : Line) (s : State) : (gapTimeOut l s).plant = s.plant := by
  unfold gapTimeOut
  split <;> rfl

theorem byteFails_plant (l : Line) (s : State) : (byteFails l s).plant = s.plant := by
  unfold byteFails
  split <;> rfl

theorem wholeFrame_budgetKept {l : Line} {m : Option Partial} {got : List Byte} (h : BudgetKept a s) :
    BudgetKept a (wholeFrame l m got s) := by
  unfold wholeFrame soundFrame
  split_ifs
  · split
    · dsimp only
      split_ifs
      · exact h.frame rfl
      · exact h.frame rfl
      · exact arrive_budgetKept (h.frame rfl)
    · exact h.frame rfl
  · exact h.frame rfl

theorem feedByte_budgetKept {l : Line} {b : Byte} (h : BudgetKept a s) : BudgetKept a (feedByte l b s) := by
  unfold feedByte
  split
  · split_ifs <;> exact h.frame rfl
  · unfold frameByte
    split
    · exact h
    · split_ifs
      · exact h.frame rfl
      · exact h.frame rfl
      · exact wholeFrame_budgetKept h
  · split_ifs <;> exact h.frame rfl

theorem feedBytes_budgetKept {l : Line} {bytes : List Byte} (h : BudgetKept a s) : BudgetKept a (feedBytes l bytes s) := by
  unfold feedBytes
  induction bytes generalizing s with
  | nil => exact h
  | cons b bs ih => exact ih (feedByte_budgetKept h)

theorem messageSent_budgetKept {l : Line} (h : BudgetKept a s) : BudgetKept a (messageSent l s) := by
  unfold messageSent
  split
  · exact takeAll_budgetKept (h.frame rfl)
  · exact h

theorem whileRunning_budgetKept {f : State → State} (h : BudgetKept a s) (hf : BudgetKept a (f s)) :
    BudgetKept a (whileRunning f s) := by
  unfold whileRunning
  split_ifs
  · exact hf
  · exact h

/-! ## The passing of time (R166, R168) -/

theorem channelLimits_budgetKept (h : BudgetKept a s) : BudgetKept a (channelLimits p s) := by
  have coast {t : State} (ht : BudgetKept a t) :
      BudgetKept a (if (s.chan p).age = coastUnits then settle (coastNow p t) else t) := by
    split_ifs
    · exact settle_budgetKept (coastNow_budgetKept ht)
    · exact ht
  unfold channelLimits
  refine coast ?_
  split_ifs
  · exact settle_budgetKept (breakNow_budgetKept h)
  · exact h

theorem lineTick_plant (l : Line) (s : State) : (lineTick l s).plant = s.plant := by
  unfold lineTick
  dsimp only
  split <;> try split_ifs
  all_goals simp [frameTimeOut_plant, gapTimeOut_plant]

theorem runupTick_budgetKept (h : BudgetKept a s) : BudgetKept a (runupTick p s) := by
  unfold runupTick
  split
  · exact h
  · dsimp only
    split_ifs
    · exact settle_budgetKept (runupReached_budgetKept (h.frame rfl))
    · exact h.frame rfl

theorem persistTick_budgetKept (h : BudgetKept a s) : BudgetKept a (persistTick p s) := by
  unfold persistTick persistenceReached
  split
  · exact h
  · dsimp only
    split_ifs
    · exact settle_budgetKept (sourceRise_budgetKept (h.frame rfl))
    · exact h.frame rfl

theorem strikeTick_budgetKept (h : BudgetKept a s) (st : (s.lamp p).st = .striking) : BudgetKept a (strikeTick p s) := by
  have counted : BudgetKept a (s.modLamp p (fun l => { l with strikeTicks := l.strikeTicks + 1 })) := h.rewrite rfl rfl
  unfold strikeTick
  extract_lets t
  split
  · exact settle_budgetKept (beginAttempt_budgetKept counted (not_waits_of_striking (by simpa [t] using st)))
  · exact counted

theorem feedTick_budgetKept (h : BudgetKept a s) : BudgetKept a (feedTick p s) := by
  have counted : BudgetKept a (s.modLamp p (fun l => { l with feedTicks := l.feedTicks + 1 })) := h.rewrite rfl rfl
  unfold feedTick
  extract_lets t
  split
  · exact settle_budgetKept (feedInterval_budgetKept counted)
  · exact counted

theorem forecastTick_budgetKept (h : BudgetKept a s) : BudgetKept a (forecastTick p s) := by
  have counted : BudgetKept a (s.modLamp p (fun l => { l with forecastTicks := l.forecastTicks + 1 })) := h.rewrite rfl rfl
  unfold forecastTick
  extract_lets t
  split
  · exact settle_budgetKept (forecastAfresh_budgetKept counted)
  · exact counted

theorem lampTick_budgetKept (h : BudgetKept a s) : BudgetKept a (lampTick p s) := by
  unfold lampTick
  split_ifs with _ st
  · exact forecastTick_budgetKept (feedTick_budgetKept h)
  · exact strikeTick_budgetKept h st
  · exact h

theorem boothTick_budgetKept (h : BudgetKept a s) : BudgetKept a (boothTick s) := by
  have lined : BudgetKept a (forEach Line.all lineTick { s with stampSub := 0 }) :=
    h.frame (forEach_frame _ _ State.plant lineTick_plant _)
  have timed := forEach_keeps Proj.all (fun p x => lampTick p (persistTick p (runupTick p x))) (BudgetKept a)
    (fun _ _ ht => lampTick_budgetKept (persistTick_budgetKept (runupTick_budgetKept ht))) lined
  have counted {t : State} (k : Nat) (ht : BudgetKept a t) : BudgetKept a { t with tickCount := k } := ht.frame rfl
  unfold boothTick
  dsimp only
  split_ifs
  · exact advanceWithWaits_budgetKept timed
  · exact counted _ timed

theorem idle_budgetKept (h : BudgetKept a s) : BudgetKept a (idle s) := by
  have limits : BudgetKept a (forEach Proj.all channelLimits (stampAdvance s)) :=
    forEach_keeps _ _ (BudgetKept a) (fun _ _ ht => channelLimits_budgetKept ht) (h.frame rfl)
  unfold idle
  dsimp only
  split_ifs
  · exact boothTick_budgetKept limits
  · exact limits
  · exact h

end Sys2Proof.Machine

end


/-! # Proofs: every step keeps the queue and the charges (O44, O45)

The commands that are events of the running controller keep both invariants; the supplies and resets bring them about, the queue
being empty and every charge 0 at the reset values. -/

section

namespace Sys2Proof.Machine

variable {a s t : State} {p : Proj}

/-! ## The commands of the running controller -/

/-- Every command but the supply rows keeps the queue and the charges: the orders and the rows of a line by the orders they
complete, the rows of an event by what the event does. -/
theorem exec_budgetKept {c : Instr} (hc : isSupplyCommand c = false) (h : BudgetKept a s) :
    ∃ t, exec c s = .next t ∧ BudgetKept a t := by
  have guarded {f : State → State} {g : State → Prop} [∀ t, Decidable (g t)] (hf : g s → BudgetKept a (f s)) :
      BudgetKept a (event (fun t => if g t then f t else t) s) :=
    event_budgetKept h (by split_ifs with hg; exacts [hf hg, h])
  cases ho : orderOfInstr c with
  | some lo => exact ⟨_, exec_order (l := lo.1) (o := lo.2) ho s, arrive_budgetKept h⟩
  | none =>
    cases c <;> try (cases ho; done)
    all_goals try (cases hc; done)
    all_goals refine ⟨_, rfl, ?_⟩
    case frameReceived => exact whileRunning_budgetKept h (feedBytes_budgetKept h)
    case messageSent => exact whileRunning_budgetKept h (messageSent_budgetKept h)
    case frameTimeLimit => exact whileRunning_budgetKept h (h.frame (frameTimeOut_plant _ _))
    case gapTimeLimit => exact whileRunning_budgetKept h (h.frame (gapTimeOut_plant _ _))
    case byteError => exact whileRunning_budgetKept h (h.frame (byteFails_plant _ _))
    case lineBreak => exact whileRunning_budgetKept h (h.frame rfl)
    case perforationPulse =>
      refine event_budgetKept h ?_
      split
      · exact perforation_budgetKept h
      · exact h
    case cuePulse => exact guarded (fun _ => cuePulse_budgetKept h)
    case breakWindow => exact event_budgetKept h (breakNow_budgetKept h)
    case coastLimit => exact event_budgetKept h (coastNow_budgetKept h)
    case runupLimit => exact guarded (fun _ => runupReached_budgetKept h)
    case intervalExpiry => exact guarded (fun _ => expireInterval_budgetKept h)
    case touchSample => exact guarded (fun st => touchSample_budgetKept h st.1)
    case drawEnd => exact guarded (fun st => drawEnd_budgetKept h st.1)
    case coolOffEnd => exact guarded (fun st => beginAttempt_budgetKept h (not_waits_of_striking st.1))
    case regulation => exact guarded (fun _ => regulate_budgetKept h)
    case feedStep => exact guarded (fun _ => feedInterval_budgetKept h)
    case currentSample => exact guarded (fun lit => litSample_budgetKept h lit)
    case quenchDue => exact guarded (fun _ => quenchLamp_budgetKept h)
    case quenchingEnd => exact guarded (fun _ => quenchingEnds_budgetKept h)
    case litIntervalForecast => exact guarded (fun _ => forecastAfresh_budgetKept h)
    case leadPoint => exact guarded (fun _ => askExamine_budgetKept h)
    case strikeLate => exact event_budgetKept h (lateStrike_budgetKept h)
    case boothTimeAdvance =>
      split_ifs
      · exact advanceWithWaits_budgetKept h
      · exact h
    case fireSourceInput => exact event_budgetKept h (sourceFollows_budgetKept h)
    case gateFlameRise =>
      refine event_budgetKept h ?_
      split_ifs
      · exact h
      · exact flameRise_budgetKept h
    case gateFlameFall => exact guarded (fun _ => h.frame (flameFall_plant _ _))
    case persistence => exact guarded (fun _ => sourceRise_budgetKept (h.frame rfl))
    case upSwitchChange => exact event_budgetKept h (upChange_budgetKept h)
    case firstScan => exact guarded (fun _ => firstScan_budgetKept h)

/-- Out of RUN no command but the supply rows has any effect (R169). -/
theorem exec_of_standby {c : Instr} (hc : isSupplyCommand c = false) (standby : s.supply = .standby) :
    exec c s = .next s := by
  have stopped : s.running = false := by simp [State.running, standby]
  cases ho : orderOfInstr c with
  | some lo => rw [exec_order (l := lo.1) (o := lo.2) ho s, arrive, if_neg (by simp [stopped])]
  | none =>
    have row (f : State → State) : (.next (event f s) : Host.Outcome State Fault Refusal) = .next s := by
      rw [event_stopped f s stopped]
    have line (f : State → State) : (.next (whileRunning f s) : Host.Outcome State Fault Refusal) = .next s := by
      rw [whileRunning, if_neg (by simp [stopped])]
    cases c <;> try (cases ho; done)
    all_goals try (cases hc; done)
    case frameReceived | messageSent | frameTimeLimit | gapTimeLimit | byteError | lineBreak => exact line _
    case boothTimeAdvance => simp [exec, execBoothTimeAdvance, stopped]
    all_goals exact row _

/-! ## Supplies and resets (R123, R169, R170) -/

theorem inUse_eq_false_of_reset (h : AtResetValues t) (p : Proj) : (t.lamp p).inUse = false := by
  rw [h.lamp p]
  rfl

theorem queueOk_of_reset (h : AtResetValues t) : queueOk t := by
  have empty : t.budget.queue = [] := congrArg Budget.queue h.budget
  simp [queueOk, oneEntryEach, entriesWait, empty]

theorem withinCap_of_reset (h : AtResetValues t) : withinCap t :=
  ⟨fun _ => inUse_eq_false_of_reset h, fun _ => h.sigma_eq.trans_le (Nat.zero_le _)⟩

/-- The lamps that the loss of the store leaves: with other settings and carbon, else as they were (R74, R96). -/
theorem storeLost_lamp (s : State) (p : Proj) :
    s.storeLost.lamp p = { s.lamp p with settings := LampSettings.defaults, carbon := 0 } := by
  simp [State.storeLost, State.lamp]

theorem queueOk_storeLost (h : queueOk s) : queueOk s.storeLost := by
  obtain ⟨once, waiting⟩ := (queueOk_iff s).1 h
  refine (queueOk_iff _).2 ⟨once, fun p found => ?_⟩
  rw [storeLost_lamp]
  exact waiting p found

/-- What a supply row may come to: the plant as it was, the reset values, or in STANDBY the loss of the store (R169, R170). -/
theorem exec_supply {c : Instr} (hc : isSupplyCommand c = true) (e : exec c s = .next t) :
    t.plant = s.plant ∨ AtResetValues t ∨ s.supply = .standby ∧ t.plant = s.storeLost.plant := by
  have restored (u : State) : AtResetValues (if u.storeValid then u.keptReset else u.powerOn) := by
    split_ifs
    · exact keptReset_atResetValues u
    · exact powerOn_atResetValues u
  cases c <;> try (cases hc; done)
  case sgoodFall vsb =>
    cases e
    unfold sgoodFalls
    split
    · exact Or.inl rfl
    · exact Or.inr (Or.inl ((resetValues_atResetValues _).retained _ _ _ _ _))
  case sgoodRise vsb =>
    cases e
    unfold sgoodRises
    split
    · exact Or.inl rfl
    · exact Or.inr (Or.inl ((restored _).retained _ _ _ _ _))
  case vsbLoss =>
    cases e
    unfold vsbLost
    split
    next => exact Or.inl rfl
    next standby => exact Or.inr (Or.inr ⟨standby, rfl⟩)
  case panelReset =>
    cases e
    unfold resetRises
    split_ifs
    · exact Or.inl rfl
    · split
      · exact Or.inr (Or.inl ((keptReset_atResetValues s).retained _ _ _ _ _))
      · exact Or.inl rfl
  case resetFall =>
    cases e
    exact Or.inl rfl

/-! ## One step -/

/-- What a step may come to: both invariants are kept, in STANDBY with the plant as it was; or the reset values; or in STANDBY the
loss of the store. -/
theorem step_plant (e : step s = .next t) : BudgetKept s t ∧ (s.supply = .standby → t.plant = s.plant) ∨
    AtResetValues t ∨ s.supply = .standby ∧ t.plant = s.storeLost.plant := by
  unfold step at e
  split at e
  · cases e
    refine Or.inl ⟨idle_budgetKept (.refl s), fun standby => ?_⟩
    rw [idle, if_neg (by simp [State.running, standby])]
  next c rest _ =>
    have start : BudgetKept s { s with pending := rest } := (BudgetKept.refl s).frame rfl
    cases hc : isSupplyCommand c with
    | false =>
      obtain ⟨u, hu, kept⟩ := exec_budgetKept hc start
      cases hu.symm.trans e
      refine Or.inl ⟨kept, fun standby => ?_⟩
      cases (exec_of_standby (s := { s with pending := rest }) hc standby).symm.trans e
      rfl
    | true =>
      obtain same | others := exec_supply hc e
      · exact Or.inl ⟨start.frame same, fun _ => same⟩
      · exact Or.inr others

/-! ## The obligations -/

theorem charge_of_not_inUse {l : Lamp} (h : l.inUse = false) : l.charge = 0 := by
  cases st : l.st <;> simp [Lamp.inUse, st] at h <;> simp [Lamp.charge, st]

theorem sigma_of_not_inUse (h : ∀ p, (s.lamp p).inUse = false) : sigma s = 0 := by
  simp [sigma, charge_of_not_inUse (h _)]

/-- Settles O44: a step keeps the queue by what it does to it, and a reset or the loss of the store leaves it sound. -/
theorem entriesBelongToWaitingLamps : Obligations.EntriesBelongToWaitingLamps := by
  intro s t h e
  obtain ⟨kept, -⟩ | reset | ⟨-, lost⟩ := step_plant e
  · exact kept.queue h
  · exact queueOk_of_reset reset
  · exact ((BudgetKept.refl _).frame lost).queue (queueOk_storeLost h)

/-- Settles O45: a step keeps the sum of the charges within Cap by what it does to them; a reset leaves no charge, and the loss of
the store in STANDBY finds none. -/
theorem chargesStayWithinCap : Obligations.ChargesStayWithinCap := by
  intro s t h e
  obtain ⟨unused, fits⟩ := h
  obtain ⟨kept, same⟩ | reset | ⟨standby, lost⟩ := step_plant e
  · refine ⟨fun standby p => ?_, kept.charges fits⟩
    rw [lamp_of_lamps (congrArg Plant.lamps (same (kept.supply ▸ standby)))]
    exact unused (kept.supply ▸ standby) p
  · exact withinCap_of_reset reset
  · have dark (p : Proj) : (t.lamp p).inUse = false := by
      rw [lamp_of_lamps (congrArg Plant.lamps lost), storeLost_lamp]
      exact unused standby p
    exact ⟨fun _ => dark, fun _ => (sigma_of_not_inUse dark).trans_le (Nat.zero_le _)⟩

end Sys2Proof.Machine

end

/-! # Proofs: the circuits, one at a time

What the operations of the House Light Unit make of one circuit, and what they leave alone: all of the state but its circuits. -/

section

namespace Sys2Proof.Machine

/-! ## What the lights leave alone -/

/-- A state with its circuits blanked. -/
def State.unlit (s : State) : State := { s with circuits := State.reset.circuits }

/-- A state that differs from another in its circuits alone. -/
theorem eq_of_unlit {s t : State} (h : t.unlit = s.unlit) : t = { s with circuits := t.circuits } := by
  have filled : { t.unlit with circuits := t.circuits } = { s.unlit with circuits := t.circuits } := by rw [h]
  exact filled

theorem scene_of_unlit {s t : State} (h : t.unlit = s.unlit) (k : Nat) : t.scene k = s.scene k :=
  (congrArg (fun u => u.scene k) h :)

theorem flooredTarget_of_unlit {s t : State} (h : t.unlit = s.unlit) (c : Circ) (k : Nat) :
    flooredTarget t c k = flooredTarget s c k := (congrArg (fun u => flooredTarget u c k) h :)

theorem outputLevel_of_unlit {s t : State} {c : Circ} (h : t.unlit = s.unlit) (engine : (t.circ c).engine = (s.circ c).engine) :
    outputLevel t c = outputLevel s c := by
  have opened : isOpen t c.screen = isOpen s c.screen := (congrArg (fun u => isOpen u c.screen) h :)
  have floor : t.floor = s.floor := (congrArg State.floor h :)
  unfold outputLevel
  rw [engine, opened, floor]

@[simp] theorem modCirc_unlit (s : State) (c : Circ) (f : Circuit → Circuit) : (s.modCirc c f).unlit = s.unlit := rfl

theorem setCirc_setCirc (s : State) (c : Circ) (v w : Circuit) : (s.setCirc c v).setCirc c w = s.setCirc c w := by
  obtain ⟨n, x⟩ := c
  cases n <;> cases x <;> rfl

/-! ## A walk that works on the lights -/

section

variable {α : Type} {names : List α} {f : α → State → State} {x : α} {c : Circ}
  (others : ∀ y t, y ≠ x → (f y t).circ c = t.circ c)
include others

/-- A circuit that only `x` acts on is left alone by a walk that does not come to `x`. -/
theorem forEach_circ_of_notMem (absent : x ∉ names) (s : State) : (forEach names f s).circ c = s.circ c := by
  unfold forEach
  induction names generalizing s with
  | nil => rfl
  | cons y ys ih =>
    rw [List.mem_cons, not_or] at absent
    obtain ⟨ne, rest⟩ := absent
    rw [List.foldl_cons, ih rest, others y s (Ne.symm ne)]

/-- A circuit that only `x` acts on is left by the whole walk as `x` leaves it, in a state where it stood as before the walk. -/
theorem forEach_circ_of_mem (unlit : ∀ y t, (f y t).unlit = t.unlit) (nodup : names.Nodup) (mem : x ∈ names) (s : State) :
    ∃ t, t.unlit = s.unlit ∧ t.circ c = s.circ c ∧ (forEach names f s).circ c = (f x t).circ c := by
  obtain ⟨front, back, rfl⟩ := List.append_of_mem mem
  have once : x ∉ front ++ back := (List.nodup_middle.1 nodup).notMem
  rw [List.mem_append, not_or] at once
  obtain ⟨notFront, notBack⟩ := once
  refine ⟨forEach front f s, forEach_frame _ _ State.unlit unlit s, forEach_circ_of_notMem others notFront s, ?_⟩
  have walk : forEach (front ++ x :: back) f s = forEach back f (f x (forEach front f s)) := by simp [forEach]
  rw [walk, forEach_circ_of_notMem others notBack]

end

/-! ## Output levels (R132) -/

theorem outputLevel_of_open {s : State} {n : Screen} (h : (s.seq n).showState ≠ .closed) :
    outputLevel s ⟨n, .aisle⟩ = max (s.circ ⟨n, .aisle⟩).engine (10 * s.floor) := by
  simp [outputLevel, isOpen, h]

theorem outputLevel_of_closed {s : State} {n : Screen} (h : (s.seq n).showState = .closed) :
    outputLevel s ⟨n, .aisle⟩ = (s.circ ⟨n, .aisle⟩).engine := by
  simp [outputLevel, isOpen, h]

/-! ## Claims (R126) -/

theorem flooredTarget_aisle (s : State) (n : Screen) (k : Nat) :
    flooredTarget s ⟨n, .aisle⟩ k = if (s.seq n).showState = .closed then k else max k s.floor := by
  by_cases closed : (s.seq n).showState = .closed <;> simp [flooredTarget, isOpen, closed]

/-- Each circuit of the auditorium has the claim for its own kind; no other circuit changes. -/
theorem placeBoth_circ (n : Screen) (w : Winner) (house aisle : Nat) (d : FadeDesc) (s : State) (c : Circ) :
    (placeBoth n w house aisle d s).circ c =
      if c.screen = n then (s.circ c).put w (some ⟨flooredTarget s c ((Duo.mk house aisle).get c.kind), d, true⟩)
      else s.circ c := by
  obtain ⟨m, kind⟩ := c
  unfold placeBoth placeClaim
  rw [circ_modCirc, circ_modCirc, circ_modCirc]
  by_cases same : m = n
  · subst same
    cases kind <;> simp [Duo.get, flooredTarget_of_unlit (modCirc_unlit s _ _)]
  · simp [same]

theorem removeClaims_circ (n : Screen) (w : Winner) (s : State) (c : Circ) :
    (removeClaims n w s).circ c = if c.screen = n then (s.circ c).put w none else s.circ c := by
  obtain ⟨m, kind⟩ := c
  unfold removeClaims
  rw [circ_modCirc, circ_modCirc, circ_modCirc]
  by_cases same : m = n
  · subst same
    cases kind <;> simp
  · simp [same]

/-! ## The start of a fade (R129) -/

/-- A fade moves the engine alone. -/
theorem startFade_circ (c : Circ) (s : State) :
    ∃ level fade, (startFade c s).circ c = { s.circ c with engine := level, fade := fade } := by
  unfold startFade
  dsimp only
  split <;> exact ⟨_, _, (circ_modCirc _ _ _ _).trans (if_pos rfl)⟩

theorem startFade_circ_of_ne {c d : Circ} (h : d ≠ c) (s : State) : (startFade c s).circ d = s.circ d := by
  unfold startFade
  dsimp only
  split <;> exact (circ_modCirc _ _ _ _).trans (if_neg h)

@[simp] theorem startFade_unlit (c : Circ) (s : State) : (startFade c s).unlit = s.unlit := by
  unfold startFade
  dsimp only
  split <;> rfl

section

variable {s : State} {c : Circ} {target tenths : Nat}

/-- A TIME fade of no length is a jump to the target. -/
theorem startFade_of_jump (wanted : (s.circ c).wanted (s.circ c).winnerNow = (target, .time 0)) :
    startFade c s = s.setCirc c { s.circ c with engine := 10 * target, fade := none } := by
  simp only [startFade, wanted, modCirc_eq]

/-- A TIME fade starts at the output level. -/
theorem startFade_of_time (wanted : (s.circ c).wanted (s.circ c).winnerNow = (target, .time tenths)) (runs : tenths ≠ 0) :
    startFade c s = s.setCirc c
      { s.circ c with engine := outputLevel s c, fade := some ⟨outputLevel s c, 10 * target, tenths, 0, none⟩ } := by
  obtain ⟨k, rfl⟩ := Nat.exists_eq_succ_of_ne_zero runs
  simp only [startFade, wanted, modCirc_eq]

end

end Sys2Proof.Machine

end

/-! # Proofs: fades follow the winner (O49) -/

section

namespace Sys2Proof.Machine

/-! ## The judging of one circuit (R128) -/

section

variable {s : State} {c : Circ}

theorem judgeCircuit_of_unchanged (same : (s.circ c).winnerChanged = false) :
    (judgeCircuit c s).circ c = (s.circ c).settled := by
  simp [judgeCircuit, same]

theorem judgeCircuit_of_changed (changed : (s.circ c).winnerChanged = true) :
    (judgeCircuit c s).circ c = ((startFade c s).circ c).settled := by
  simp [judgeCircuit, changed]

/-- A circuit that has been judged has its winner for winner. -/
theorem judgeCircuit_winner : ((judgeCircuit c s).circ c).winner = (s.circ c).winnerNow := by
  cases h : (s.circ c).winnerChanged with
  | false => rw [judgeCircuit_of_unchanged h]; rfl
  | true =>
    obtain ⟨level, fade, started⟩ := startFade_circ c s
    rw [judgeCircuit_of_changed h, started]
    rfl

theorem judgeCircuit_circ_of_ne {d : Circ} (h : d ≠ c) (s : State) : (judgeCircuit c s).circ d = s.circ d := by
  unfold judgeCircuit
  rw [circ_modCirc, if_neg h]
  split_ifs
  · exact startFade_circ_of_ne h s
  · rfl

@[simp] theorem judgeCircuit_unlit (c : Circ) (s : State) : (judgeCircuit c s).unlit = s.unlit := by
  unfold judgeCircuit
  rw [modCirc_unlit]
  split_ifs
  · exact startFade_unlit c s
  · rfl

end

theorem mem_allCircs (c : Circ) : c ∈ Circ.all := by
  obtain ⟨n, x⟩ := c
  cases n <;> cases x <;> decide

/-- The lights are judged circuit by circuit, each as it stood. -/
theorem judgeLights_circ (s : State) (c : Circ) :
    ∃ t, t.unlit = s.unlit ∧ t.circ c = s.circ c ∧ (judgeLights s).circ c = (judgeCircuit c t).circ c :=
  forEach_circ_of_mem (fun _ t ne => judgeCircuit_circ_of_ne (Ne.symm ne) t) judgeCircuit_unlit (by decide) (mem_allCircs c) s

/-! ## The level of a step (R129) -/

/-- The part of a way that `k` steps of `n` have made. -/
def madePart (way k n : Nat) : Nat := way * k / n

/-- The made part grows with the step and is never more than the way. -/
theorem madePart_le (way : Nat) {k n : Nat} (h : k < n) :
    madePart way k n ≤ madePart way (k + 1) n ∧ madePart way k n ≤ way := by
  refine ⟨Nat.div_le_div_right (Nat.mul_le_mul_left way (Nat.le_succ k)), Nat.div_le_of_le_mul ?_⟩
  rw [Nat.mul_comm n way]
  exact Nat.mul_le_mul_left way h.le

section

variable {l0 l1 : Nat} (k n : Nat)

theorem fadeLevel_of_le (rises : l0 ≤ l1) : fadeLevel l0 l1 k n = l0 + madePart (l1 - l0) k n := by
  obtain ⟨d, rfl⟩ := Nat.exists_eq_add_of_le rises
  have quotient : Int.tdiv (((l0 + d : Nat) - (l0 : Int)) * k) n = (madePart d k n : Int) := by
    rw [madePart, Int.ofNat_tdiv]
    congr 1
    push_cast
    ring
  rw [fadeLevel, quotient, Nat.add_sub_cancel_left]
  omega

theorem fadeLevel_of_ge (falls : l1 ≤ l0) : fadeLevel l0 l1 k n = l0 - madePart (l0 - l1) k n := by
  obtain ⟨d, rfl⟩ := Nat.exists_eq_add_of_le falls
  have quotient : Int.tdiv (((l1 : Int) - (l1 + d : Nat)) * k) n = -(madePart d k n : Int) := by
    rw [madePart, Int.ofNat_tdiv, ← Int.neg_tdiv]
    congr 1
    push_cast
    ring
  rw [fadeLevel, quotient, Nat.add_sub_cancel_left]
  omega

end

theorem fadeLevel_start (l0 l1 n : Nat) : fadeLevel l0 l1 0 n = l0 := by simp [fadeLevel]

theorem fadeLevel_end (l0 l1 : Nat) {n : Nat} (h : 0 < n) : fadeLevel l0 l1 n n = l1 := by
  have whole : (n : Int) ≠ 0 := by omega
  rw [fadeLevel, Int.mul_tdiv_cancel _ whole]
  omega

/-- Settles O49: the judging of a circuit is its own walk's one visit; the level of a step is the start moved by the made part of
the way, up or down; a step is the last or not. -/
theorem fadesFollowTheWinner : Obligations.FadesFollowTheWinner := by
  refine ⟨fun s c => ?_, fun l0 l1 n k h => ⟨fun rises => ?_, fun falls => ?_, fadeLevel_start l0 l1 n,
    fadeLevel_end l0 l1 (by omega)⟩, fun c f film => ⟨fun more => if_neg (by omega), fun last => if_pos last⟩⟩
  · obtain ⟨t, unlit, circ, judged⟩ := judgeLights_circ s c
    have level : outputLevel t c = outputLevel s c := outputLevel_of_unlit unlit (congrArg Circuit.engine circ)
    rw [judged, ← level, ← circ]
    refine ⟨fun same => ?_, fun changed target tenths wanted => ⟨?_, fun runs => ?_⟩, judgeCircuit_winner⟩
    · rw [judgeCircuit_of_unchanged same]
      exact ⟨rfl, rfl⟩
    · rintro rfl
      rw [judgeCircuit_of_changed changed, startFade_of_jump wanted, circ_setCirc, if_pos rfl]
      exact ⟨rfl, rfl⟩
    · rw [judgeCircuit_of_changed changed, startFade_of_time wanted runs, circ_setCirc, if_pos rfl]
      exact ⟨rfl, rfl⟩
  · obtain ⟨grows, bounded⟩ := madePart_le (l1 - l0) h
    rw [fadeLevel_of_le _ _ rises, fadeLevel_of_le _ _ rises]
    omega
  · obtain ⟨grows, bounded⟩ := madePart_le (l0 - l1) h
    rw [fadeLevel_of_ge _ _ falls, fadeLevel_of_ge _ _ falls]
    omega

end Sys2Proof.Machine

end

/-! # Proofs: the lighting orders (O47, O48) -/

section

namespace Sys2Proof.Machine

/-! ## LIGHTS and LIGHTS RELEASE (R134, R135) -/

/-- The auditoria that a valid name stands for: ALL, or the one of that number. -/
theorem auditoria_of_le {a : Nat} (h : a ≤ 4) :
    ∃ names, auditoria a = some names ∧ names.Nodup ∧ ∀ n, n ∈ names ↔ a = 0 ∨ a = screenNumber n := by
  interval_cases a <;> refine ⟨_, rfl, by decide, fun n => ?_⟩ <;> cases n <;> decide

/-- The levels and the fade time that a valid form of LIGHTS asks for: a scene's, or its own with the levels clamped. -/
def LightsAsk (s : State) (form : LightsForm) (house aisle fade : Nat) : Prop :=
  (∃ k, form = .scene k ∧ k ≤ 7 ∧ house = (s.scene k).house ∧ aisle = (s.scene k).aisle ∧ fade = (s.scene k).fade) ∨
    (∃ h x, form = .levels h x fade ∧ fade ≤ 600 ∧ house = min 100 h ∧ aisle = min 100 x)

section

variable {s t : State} {form : LightsForm} {house aisle fade : Nat} (asks : LightsAsk s form house aisle fade)
include asks

theorem lightsFormOk_of_asks : lightsFormOk form = true := by
  obtain ⟨k, rfl, range, -⟩ | ⟨h, x, rfl, range, -⟩ := asks <;> simpa [lightsFormOk, within] using range

theorem manualTakes_of_asks (n : Screen) (h : t.unlit = s.unlit) :
    manualTakes form n t = placeBoth n .manual house aisle (.time fade) t := by
  obtain ⟨k, rfl, -, rfl, rfl, rfl⟩ | ⟨x, y, rfl, -, rfl, rfl⟩ := asks
  · rw [← scene_of_unlit h]
    rfl
  · rfl

end

@[simp] theorem placeBoth_unlit (n : Screen) (w : Winner) (house aisle : Nat) (d : FadeDesc) (s : State) :
    (placeBoth n w house aisle d s).unlit = s.unlit := rfl

@[simp] theorem removeClaims_unlit (n : Screen) (w : Winner) (s : State) : (removeClaims n w s).unlit = s.unlit := rfl

@[simp] theorem manualTakes_unlit (form : LightsForm) (n : Screen) (s : State) : (manualTakes form n s).unlit = s.unlit := by
  cases form <;> rfl

theorem manualTakes_circ_of_ne (form : LightsForm) {n : Screen} {c : Circ} (h : c.screen ≠ n) (s : State) :
    (manualTakes form n s).circ c = s.circ c := by
  cases form <;> exact (placeBoth_circ _ _ _ _ _ _ _).trans (if_neg h)

section

variable {a : Nat} (ha : a ≤ 4) (s : State)
include ha

theorem applyLights_unlit (form : LightsForm) : (applyLights a form s).unlit = s.unlit := by
  obtain ⟨names, found, -⟩ := auditoria_of_le ha
  rw [applyLights, found]
  exact forEach_frame _ _ State.unlit (manualTakes_unlit form) s

theorem applyLightsRelease_unlit : (applyLightsRelease a s).unlit = s.unlit := by
  obtain ⟨names, found, -⟩ := auditoria_of_le ha
  rw [applyLightsRelease, found]
  exact forEach_frame _ _ State.unlit (fun n t => removeClaims_unlit n .manual t) s

/-- After LIGHTS the circuits of each auditorium named have their MANUAL claim. -/
theorem applyLights_circ {form : LightsForm} {house aisle fade : Nat} (asks : LightsAsk s form house aisle fade) (c : Circ) :
    (applyLights a form s).circ c = if a = 0 ∨ a = screenNumber c.screen then
      { s.circ c with manual := some ⟨flooredTarget s c ((Duo.mk house aisle).get c.kind), .time fade, true⟩ }
    else s.circ c := by
  obtain ⟨names, found, nodup, named⟩ := auditoria_of_le ha
  have others (n : Screen) (t : State) (ne : n ≠ c.screen) : (manualTakes form n t).circ c = t.circ c :=
    manualTakes_circ_of_ne form (Ne.symm ne) t
  rw [applyLights, found]
  dsimp only
  split_ifs with mine
  · obtain ⟨t, unlit, circ, visited⟩ := forEach_circ_of_mem others (manualTakes_unlit form) nodup ((named _).2 mine) s
    rw [visited, manualTakes_of_asks asks _ unlit, placeBoth_circ, if_pos rfl, circ, flooredTarget_of_unlit unlit]
    rfl
  · exact forEach_circ_of_notMem others (fun mem => mine ((named _).1 mem)) s

/-- After LIGHTS RELEASE the circuits of each auditorium named have no MANUAL claim. -/
theorem applyLightsRelease_circ (c : Circ) : (applyLightsRelease a s).circ c =
    if a = 0 ∨ a = screenNumber c.screen then { s.circ c with manual := none } else s.circ c := by
  obtain ⟨names, found, nodup, named⟩ := auditoria_of_le ha
  have others (n : Screen) (t : State) (ne : n ≠ c.screen) : (removeClaims n .manual t).circ c = t.circ c :=
    (removeClaims_circ _ _ _ _).trans (if_neg (Ne.symm ne))
  rw [applyLightsRelease, found]
  dsimp only
  split_ifs with mine
  · obtain ⟨t, -, circ, visited⟩ := forEach_circ_of_mem others (fun n t => removeClaims_unlit n .manual t) nodup
      ((named _).2 mine) s
    rw [visited, removeClaims_circ, if_pos rfl, circ]
    rfl
  · exact forEach_circ_of_notMem others (fun mem => mine ((named _).1 mem)) s

end

section

variable {s : State} (hf : lineFree s .house)
include hf

theorem ends_lights {a : Nat} {form : LightsForm} (ha : a ≤ 4) (ok : lightsFormOk form = true) :
    ends (.lights .house a form) s (applyLights a form (reply .house (.done 0x15) s)) := by
  obtain ⟨names, found, -⟩ := auditoria_of_le ha
  have check : checkOrder .house (.lights a form) s = none := by simp [checkOrder, checkLights, found, ok]
  exact ends_of_done rfl hf (by simp) rfl check rfl (fun _ => rfl) rfl

theorem ends_lightsRelease {a : Nat} (ha : a ≤ 4) :
    ends (.lightsRelease .house a) s (applyLightsRelease a (reply .house (.done 0x16) s)) := by
  obtain ⟨names, found, -⟩ := auditoria_of_le ha
  have check : checkOrder .house (.lightsRelease a) s = none := by simp [checkOrder, checkLightsRelease, found]
  exact ends_of_done rfl hf (by simp) rfl check rfl (fun _ => rfl) rfl

end

/-- Settles O47: each order ends as its walk over the auditoria leaves the circuits, read off circuit by circuit. -/
theorem lightsPlaceManualClaims : Obligations.LightsPlaceManualClaims := by
  intro s a hf ha
  refine ⟨fun form house aisle fade asks => ?_, ?_⟩
  · let u := reply .house (.done 0x15) s
    have asked : LightsAsk u form house aisle fade := asks
    have row := ends_lights hf ha (lightsFormOk_of_asks asked)
    rw [eq_of_unlit (applyLights_unlit ha u form)] at row
    refine ⟨_, row, fun n => ⟨applyLights_circ ha u asked ⟨n, .house⟩, ?_⟩⟩
    have placed := applyLights_circ ha u asked ⟨n, .aisle⟩
    rw [flooredTarget_aisle] at placed
    exact placed
  · have row := ends_lightsRelease hf ha
    rw [eq_of_unlit (applyLightsRelease_unlit ha _)] at row
    exact ⟨_, row, fun c => applyLightsRelease_circ ha (reply .house (.done 0x16) s) c⟩

/-! ## SET FLOOR and SET REST (R133, R136) -/

@[simp] theorem circOf_circCode (c : Circ) : circOf (circCode c) = some c := by
  obtain ⟨n, x⟩ := c
  cases n <;> cases x <;> rfl

section

variable {s : State} {c : Circ} (v : Nat)

/-- Beneath a claim a new rest level changes nothing else. -/
theorem restTakes_of_claim (claim : (s.circ c).winnerNow ≠ .rest) :
    restTakes c v s = s.setCirc c { s.circ c with rest := min 100 v } := by
  have beneath : ((s.setCirc c { s.circ c with rest := min 100 v }).circ c).winnerNow ≠ .rest := by
    rw [circ_setCirc, if_pos rfl]
    exact claim
  unfold restTakes
  rw [modCirc_eq]
  dsimp only
  split
  · contradiction
  · rfl

/-- Where REST wins, a new rest level starts a fade of 30 tenths toward it. -/
theorem restTakes_of_rest (rest : (s.circ c).winnerNow = .rest) :
    restTakes c v s = s.setCirc c
      { s.circ c with
        rest := min 100 v, engine := outputLevel s c,
        fade := some ⟨outputLevel s c, 10 * min 100 v, 30, 0, none⟩ } := by
  let t := s.setCirc c { s.circ c with rest := min 100 v }
  have circ : t.circ c = { s.circ c with rest := min 100 v } := by rw [circ_setCirc, if_pos rfl]
  have wins : (t.circ c).winnerNow = .rest := by
    rw [circ]
    exact rest
  have wanted : (t.circ c).wanted (t.circ c).winnerNow = (min 100 v, .time 30) := by
    rw [wins, circ]
    rfl
  have level : outputLevel t c = outputLevel s c := outputLevel_of_unlit rfl (by rw [circ])
  calc restTakes c v s = startFade c t := by simp only [restTakes, modCirc_eq, t, wins]
    _ = _ := by rw [startFade_of_time wanted (by decide), level, circ, setCirc_setCirc]

end

section

variable {s : State} (hf : lineFree s .house) (v : Nat)
include hf

theorem ends_setFloor : ends (.setFloor .house v) s (applySetFloor v (reply .house (.done 0x17) s)) :=
  ends_of_done rfl hf (by simp) rfl rfl rfl (fun _ => rfl) rfl

theorem ends_setRest (c : Circ) :
    ends (.setRest .house (circCode c) v) s (restTakes c v (reply .house (.done 0x18) s)) := by
  have check : checkOrder .house (.setRest (circCode c) v) s = none := by simp [checkOrder, checkSetRest]
  exact ends_of_done rfl hf (by simp) rfl check rfl (fun t => by simp [applyOrder, applySetRest]) rfl

end

/-- Settles O48: each order ends as its block's one write, SET REST by whether REST wins; the output of an aisle circuit is read
off by its show state. -/
theorem floorAndRestLevels : Obligations.FloorAndRestLevels := by
  refine ⟨fun s v hf => ends_setFloor hf v, fun s c v hf => ⟨fun claim => ?_, fun rest => ?_⟩, fun s n => ⟨fun opened => ?_,
    outputLevel_of_closed⟩⟩
  · have row := ends_setRest hf v c
    rwa [restTakes_of_claim (s := reply .house (.done 0x18) s) v claim] at row
  · have row := ends_setRest hf v c
    rwa [restTakes_of_rest (s := reply .house (.done 0x18) s) v rest] at row
  · rw [outputLevel_of_open opened]
    exact le_max_right _ _

end Sys2Proof.Machine

end

/-! # Proofs: what a fire leaves of a screen and of a lamp

`haltFire` and `haltLocalFire` make of a Sequencer what `Sequencer.putOut` says; a lamp that fire has met is in use no more and
waits for nothing (`LampState.out`). -/

section

namespace Sys2Proof.Machine

/-! ## Walks -/

/-- What `f` brings about for one name of a list, and keeps for every name, a walk over the list brings about. -/
theorem forEach_brings {α : Type} {names : List α} {f : α → State → State} {P : State → Prop} {x : α}
    (own : ∀ t, P (f x t)) (kept : ∀ y t, P t → P (f y t)) (mem : x ∈ names) (s : State) : P (forEach names f s) := by
  obtain ⟨front, back, rfl⟩ := List.append_of_mem mem
  have walk : forEach (front ++ x :: back) f s = forEach back f (f x (forEach front f s)) := by simp [forEach]
  rw [walk]
  exact forEach_keeps back f P kept (own _)

theorem mem_allScreens (n : Screen) : n ∈ Screen.all := by cases n <;> decide

/-- What changes one Sequencer at a time by `g` changes each of them once. -/
theorem forEach_seq {names : List Screen} (nodup : names.Nodup) {f : Screen → State → State} {g : Sequencer → Sequencer}
    (h : ∀ n t m, (f n t).seq m = if m = n then g (t.seq n) else t.seq m) (s : State) (m : Screen) :
    (forEach names f s).seq m = if m ∈ names then g (s.seq m) else s.seq m := by
  induction names generalizing s with
  | nil => rfl
  | cons n ns ih =>
    obtain ⟨once, rest⟩ := List.nodup_cons.1 nodup
    have walk : forEach (n :: ns) f s = forEach ns f (f n s) := rfl
    rw [walk, ih rest, h]
    by_cases hm : m = n
    · subst hm
      simp [once]
    · simp [hm]

/-! ## The Sequencer of a halted screen (R67, R69, R141, R145) -/

/-- A halt of a Sequencer that is not CLOSED. -/
def Sequencer.haltedOpen (q : Sequencer) (reason : HaltReason) (p : Option Proj) : Sequencer :=
  if q.showState = .closed then q else q.halted reason p

/-- A film stopped by a halt: demand clear, motor off, and a RUN-OFF projector whose motor was on IDLE (R67). -/
def Sequencer.filmStopped (q : Sequencer) (x : Side) : Sequencer :=
  { q with
    demand := q.demand.set x .clear, motor := q.motor.set x false
    roles := match q.motor.get x, q.roles.get x with
      | true, .runOff _ => q.roles.set x .idle
      | _, _ => q.roles }

/-- A Sequencer put out by fire: halted, both films stopped, the record NONE. -/
def Sequencer.putOut (q : Sequencer) (reason : HaltReason) (p : Option Proj) : Sequencer :=
  (((q.haltedOpen reason p).filmStopped .a).filmStopped .b).dropped none

theorem haltScreen_seq (n : Screen) (reason : HaltReason) (p : Option Proj) (s : State) (m : Screen) :
    (haltScreen n reason p s).seq m = if m = n then (s.seq n).haltedOpen reason p else s.seq m := by
  unfold haltScreen Sequencer.haltedOpen
  by_cases closed : (s.seq n).showState = .closed
  · rw [if_pos closed, if_pos closed]
    split_ifs with hm
    · rw [hm]
    · rfl
  · rw [if_neg closed, if_neg closed]
    have told (t : State) : (notifyScreenAndHouse n (.screenHalted reason p) (faultTakes n t)).seq m = t.seq m := rfl
    rw [told, seq_modSeq]

theorem Pair.set_self {α : Type} (t : Pair α) (x : Side) : t.set x (t.get x) = t := by cases x <;> rfl

theorem stopFilm_seq (p : Proj) (s : State) (m : Screen) :
    (stopFilm p s).seq m = if m = p.screen then (s.seq m).filmStopped p.side else s.seq m := by
  have cleared (k : Screen) : (setDemand p .clear s).seq k = if k = p.screen then
      { s.seq p.screen with demand := (s.seq p.screen).demand.set p.side .clear } else s.seq k := seq_modSeq _ _ _ _
  have on : motorIsOn (setDemand p .clear s) p = (s.seq p.screen).motor.get p.side := by simp [motorIsOn, cleared]
  have role : ((setDemand p .clear s).seq p.screen).role p.side = (s.seq p.screen).roles.get p.side := by
    simp [Sequencer.role, cleared]
  unfold stopFilm
  dsimp only
  rw [on, role]
  by_cases hm : m = p.screen
  · subst hm
    cases motor : (s.seq p.screen).motor.get p.side with
    | false =>
      have off : (s.seq p.screen).motor.set p.side false = (s.seq p.screen).motor := by
        rw [← motor, Pair.set_self]
      simp [cleared, Sequencer.filmStopped, motor, off]
    | true =>
      cases was : (s.seq p.screen).roles.get p.side <;>
        simp [cleared, Sequencer.filmStopped, motor, was, motorOff_seq, setRole, Sequencer.setRole]
  · split_ifs
    · split <;> simp [cleared, motorOff_seq, setRole, hm]
    · simp [cleared, hm]

theorem recordToNone_seq (n : Screen) (s : State) (m : Screen) :
    (recordToNone n s).seq m = if m = n then (s.seq n).dropped none else s.seq m := recordToNoneSparing_seq n none s m

theorem haltFire_seq (n : Screen) (s : State) (m : Screen) :
    (haltFire n s).seq m = if m = n then (s.seq n).putOut .fire none else s.seq m := by
  unfold haltFire Sequencer.putOut
  rw [recordToNone_seq]
  by_cases hm : m = n <;> simp [hm, stopFilm_seq, haltScreen_seq]

/-- The Sequencer of a screen that is not CLOSED, after a local fire (R145). -/
theorem haltLocalFire_seq {p : Proj} {s : State} (opened : (s.seq p.screen).showState ≠ .closed) :
    (haltLocalFire p s).seq p.screen = (s.seq p.screen).putOut .localFire (some p) := by
  have quenched (q : Proj) (t : State) : (quenchLamp q t).seq p.screen = t.seq p.screen := seq_of_seqs (quenchLamp_seqs _ _) _
  unfold haltLocalFire Sequencer.putOut
  rw [if_neg opened]
  dsimp only
  rw [recordToNone_seq, if_pos rfl]
  split <;> try split_ifs
  all_goals simp [quenched, stopFilm_seq, haltScreen_seq]

/-! ## What a Sequencer put out shows -/

section

variable {q : Sequencer} {reason : HaltReason} {p : Option Proj}

/-- Demands, show state and reason are none of the record's. -/
theorem dropped_shown (q : Sequencer) : (q.dropped none).shown = q.shown := by
  unfold Sequencer.dropped
  split
  · rfl
  · split_ifs <;> rfl

/-- The return of the record turns no motor on. -/
theorem dropped_motor (h : q.motor = Pair.fill false) : (q.dropped none).motor = Pair.fill false := by
  unfold Sequencer.dropped
  split
  · exact h
  · split
    · exact h
    · dsimp only
      rw [h, Pair.fill_set]

theorem putOut_motor : (q.putOut reason p).motor = Pair.fill false := dropped_motor rfl

theorem putOut_changeover : (q.putOut reason p).changeover = none := dropped_changeover _ none

theorem putOut_demand : (q.putOut reason p).demand = Pair.fill .clear :=
  congrArg (fun x => x.2.2) (dropped_shown (((q.haltedOpen reason p).filmStopped .a).filmStopped .b))

theorem putOut_showState : (q.putOut reason p).showState = (q.haltedOpen reason p).showState :=
  congrArg Prod.fst (dropped_shown (((q.haltedOpen reason p).filmStopped .a).filmStopped .b))

theorem putOut_haltReason : (q.putOut reason p).haltReason = (q.haltedOpen reason p).haltReason :=
  congrArg (fun x => x.2.1) (dropped_shown (((q.haltedOpen reason p).filmStopped .a).filmStopped .b))

theorem putOut_of_closed (closed : q.showState = .closed) : (q.putOut reason p).showState = .closed := by
  rw [putOut_showState, Sequencer.haltedOpen, if_pos closed, closed]

theorem putOut_of_open (opened : q.showState ≠ .closed) :
    (q.putOut reason p).showState = .halted ∧ (q.putOut reason p).haltReason = some reason := by
  rw [putOut_showState, putOut_haltReason, Sequencer.haltedOpen, if_neg opened]
  unfold Sequencer.halted
  dsimp only
  split_ifs with halted
  · exact ⟨halted, rfl⟩
  · exact ⟨rfl, rfl⟩

end

/-! ## A lamp that fire has met (R88, R141, R145) -/

/-- Neither in use nor QUEUED. -/
def LampState.out : LampState → Bool
  | .dark | .quenching | .fault => true
  | _ => false

theorem out_iff (l : Lamp) : l.st.out = true ↔ l.inUse = false ∧ l.st ≠ .queued := by
  cases st : l.st <;> simp [LampState.out, Lamp.inUse, st]

theorem out_out (l : Lamp) (now : BoothTime) : (l.out now).st.out = true := by
  cases st : l.st <;> simp [Lamp.out, Lamp.quenched, LampState.out, st]

theorem withdrawn_out {l : Lamp} (h : l.st.out = true) : l.withdrawn.st.out = true := by
  cases st : l.st <;> simp_all [Lamp.withdrawn, LampState.out]

/-- A quench puts its own lamp out. -/
theorem quenchLamp_out (p : Proj) (s : State) : ((quenchLamp p s).lamp p).st.out = true := by
  rw [quenchLamp_lamp]
  exact out_out _ _

section

variable {p : Proj} {s : State} (h : (s.lamp p).st.out = true)
include h

theorem withdrawRequest_out_keeps (q : Proj) : ((withdrawRequest q s).lamp p).st.out = true := by
  by_cases hq : p = q
  · subst hq
    obtain same | withdrawn := withdrawRequest_lamp p s
    · rw [same]; exact h
    · rw [withdrawn]; exact withdrawn_out h
  · rw [withdrawRequest_lamp_of_ne hq]; exact h

theorem quenchLamp_out_keeps (q : Proj) : ((quenchLamp q s).lamp p).st.out = true := by
  by_cases hq : p = q
  · subst hq
    exact quenchLamp_out p s
  · rw [quenchLamp_lamp_of_ne hq]; exact h

theorem recordToNone_out_keeps (n : Screen) : ((recordToNone n s).lamp p).st.out = true := by
  have same (t u : State) (e : u.lamps = t.lamps) (_ : u.still.base = t.still.base) (ht : (t.lamp p).st.out = true) :
      (u.lamp p).st.out = true := by rw [lamp_of_lamps e]; exact ht
  exact recordToNone_lamps_keep (P := fun t => (t.lamp p).st.out = true) same
    (fun x _ ht => withdrawRequest_out_keeps ht ⟨n, x⟩) (fun x _ ht => quenchLamp_out_keeps ht ⟨n, x⟩) h

theorem haltFire_out_keeps (n : Screen) : ((haltFire n s).lamp p).st.out = true := by
  refine recordToNone_out_keeps ?_ n
  rw [lamp_of_lamps (stopFilm_lamps _ _), lamp_of_lamps (stopFilm_lamps _ _), lamp_of_lamps (haltScreen_lamps _ _ _ _)]
  exact h

theorem haltLocalFire_out_keeps (q : Proj) : ((haltLocalFire q s).lamp p).st.out = true := by
  have stopped : ((stopFilm ⟨q.screen, .b⟩ (stopFilm ⟨q.screen, .a⟩ (haltScreen q.screen .localFire (some q) s))).lamp
      p).st.out = true := by
    rw [lamp_of_lamps (stopFilm_lamps _ _), lamp_of_lamps (stopFilm_lamps _ _), lamp_of_lamps (haltScreen_lamps _ _ _ _)]
    exact h
  unfold haltLocalFire
  dsimp only
  split_ifs
  · exact h
  · refine recordToNone_out_keeps ?_ _
    split
    · split_ifs
      · exact stopped
      · exact quenchLamp_out_keeps stopped _
    · exact stopped

end

/-! ## Booth fire (R141) -/

theorem setBoothHolder_circ (v : Bool) (s : State) (c : Circ) :
    (setBoothHolder v s).circ c = { s.circ c with fireBooth := v } := by
  obtain ⟨t, -, circ, walked⟩ := forEach_circ_of_mem (names := Circ.all) (x := c) (c := c)
    (f := fun d t => t.modCirc d (fun x => { x with fireBooth := v })) (fun d t ne => by simp [Ne.symm ne])
    (fun _ t => modCirc_unlit t _ _) (by decide) (mem_allCircs c) s
  have own : (setBoothHolder v s).circ c = (t.modCirc c (fun x => { x with fireBooth := v })).circ c := walked
  rw [own, circ_modCirc, if_pos rfl, circ]

/-- The holder BOOTH joins or leaves every circuit, and nothing else changes (R127). -/
theorem setBoothHolder_eq (v : Bool) (s : State) :
    setBoothHolder v s = { s with circuits := s.circuits.map (Duo.map (fun x => { x with fireBooth := v })) } := by
  have unlit : (setBoothHolder v s).unlit = s.unlit := forEach_frame _ _ State.unlit (fun _ t => modCirc_unlit t _ _) s
  have circuits : (setBoothHolder v s).circuits = s.circuits.map (Duo.map (fun x => { x with fireBooth := v })) := by
    refine Quad.ext_get (fun n => Duo.ext_get (fun k => ?_))
    rw [Quad.get_map, Duo.get_map]
    exact setBoothHolder_circ v s ⟨n, k⟩
  rw [eq_of_unlit unlit, circuits]

theorem boothFire_seq (s : State) (n : Screen) : (boothFire s).seq n = (s.seq n).putOut .fire none := by
  have lamps (t : State) : (forEach Proj.all fireLamp t).seqs = t.seqs := forEach_frame _ _ State.seqs fireLamp_seqs t
  unfold boothFire
  dsimp only
  rw [seq_of_seqs (setBoothHolder_seqs _ _),
    forEach_seq (g := fun q => q.putOut .fire none) (by decide) haltFire_seq, if_pos (mem_allScreens n),
    seq_of_seqs (lamps _), seq_of_seqs (notifyAll_seqs _ _), modFire_seq]

/-- Every lamp is out: each is put out in its turn, and nothing of the booth fire lights one. -/
theorem boothFire_out (s : State) (p : Proj) : ((boothFire s).lamp p).st.out = true := by
  unfold boothFire
  dsimp only
  rw [lamp_of_lamps (setBoothHolder_lamps _ _)]
  refine forEach_keeps _ _ (fun t => (t.lamp p).st.out = true) (fun n _ ht => haltFire_out_keeps ht n) ?_
  exact forEach_brings (f := fireLamp) (P := fun t => (t.lamp p).st.out = true) (fun t => quenchLamp_out p _)
    (fun q _ ht => quenchLamp_out_keeps (withdrawRequest_out_keeps ht q) q) (mem_allProjs p) _

theorem boothFire_winner (s : State) (c : Circ) : ((boothFire s).circ c).winnerNow = .fire := by
  unfold boothFire
  dsimp only
  rw [setBoothHolder_circ]
  simp [Circuit.winnerNow, Circuit.fireClaim]

end Sys2Proof.Machine

end

/-! # Proofs: booth fire is entered (O51) -/

section

namespace Sys2Proof.Machine

/-! ## A source on a clear fire line -/

theorem get_of_any_false {x : Sources} (clear : x.any = false) (src : Source) : x.get src = false := by
  simp only [Sources.any, Bool.or_eq_false_iff, List.any_eq_false, Bool.not_eq_true] at clear
  obtain ⟨⟨⟨⟨⟨heat1, heat2⟩, panel⟩, link⟩, gate⟩, lines⟩ := clear
  cases src with
  | input i => cases i <;> assumption
  | gate => exact gate
  | line l =>
    refine lines l ?_
    cases l with
    | house => decide
    | screen n => cases n <;> decide

/-- A source that rises while the fire line is clear and the fire state OFF enters booth fire (R139). -/
theorem sourceRise_of_clear {src : Source} {s : State} (off : s.fire.on = false) (clear : s.fire.sources.any = false) :
    sourceRise src s = boothFire (modSources (fun x => x.set src true) s) := by
  simp [sourceRise, get_of_any_false clear, off, clear, modSources, State.modFire]

theorem ends_fireAssert {l : Line} {s : State} (hf : lineFree s l) :
    ends (.fireAssert l) s (sourceRise (.line l) (reply l (.done 0x1A) s)) :=
  ends_of_done rfl hf (by simp) rfl rfl rfl (fun _ => rfl) rfl

theorem ends_persistence {p : Proj} {k : Nat} {s : State} (hr : s.running = true) (timer : s.fire.timer p = some k) :
    ends (.persistence p) s (persistenceReached p s) :=
  ends_of_guard (g := fun t => (t.fire.timer p).isSome = true) (f := persistenceReached p) rfl hr (by simp [timer])

/-- What a booth fire that `src` brings about leaves, in a state with the screens of `s`. -/
theorem entered_of_rise {s t : State} {src : Source} (off : t.fire.on = false) (sources : t.fire.sources = s.fire.sources)
    (clear : s.fire.sources.any = false) (record : t.fire.record = s.fire.record) (time : t.boothTime = s.boothTime)
    (seqs : t.seqs = s.seqs) :
    let u := sourceRise src t
    u.fire.on = true ∧ u.fire.sources = s.fire.sources.set src true ∧ u.fire.holds = Quad.fill (Trio.fill false) ∧
      u.fire.record = (⟨s.boothTime, s.fire.sources.set src true, none, .openEntry⟩ :: s.fire.record).take 4 ∧
      (∀ p, (u.lamp p).charge = 0 ∧ (u.lamp p).st ≠ .queued ∧ motorIsOn u p = false ∧
        (u.seq p.screen).demand.get p.side = .clear) ∧
      (∀ x, (u.circ x).winnerNow = .fire) ∧
      ∀ n, (u.seq n).changeover = none ∧
        ((s.seq n).showState = .closed → (u.seq n).showState = .closed) ∧
        ((s.seq n).showState ≠ .closed → (u.seq n).showState = .halted ∧ (u.seq n).haltReason = some .fire) := by
  intro u
  have entered : u = boothFire (modSources (fun x => x.set src true) t) := sourceRise_of_clear off (by rw [sources]; exact clear)
  have fire : u.fire = (modSources (fun x => x.set src true) t).fire.enter t.boothTime := by rw [entered, boothFire_fire]; rfl
  have seq (n : Screen) : u.seq n = (s.seq n).putOut .fire none := by
    rw [entered, boothFire_seq, ← seq_of_seqs seqs n]
    rfl
  have lamp (p : Proj) := (out_iff _).1 (boothFire_out (modSources (fun x => x.set src true) t) p)
  rw [← entered] at lamp
  rw [← sources, ← record, ← time]
  refine ⟨by rw [fire]; rfl, by rw [fire]; rfl, by rw [fire]; rfl, by rw [fire]; rfl, fun p => ?_, fun x => ?_, fun n => ?_⟩
  · obtain ⟨unused, waits⟩ := lamp p
    refine ⟨charge_of_not_inUse unused, waits, ?_, ?_⟩
    · rw [motorIsOn, seq, putOut_motor, Pair.get_fill]
    · rw [seq, putOut_demand, Pair.get_fill]
  · rw [entered]
    exact boothFire_winner _ x
  · rw [seq]
    exact ⟨putOut_changeover, putOut_of_closed, putOut_of_open⟩

/-- Settles O51: each of the three commands is the rise of its source, in a state with the fire line and the screens of `s`. -/
theorem aRisingSourceEntersBoothFire : Obligations.ARisingSourceEntersBoothFire := by
  intro s c src hr off clear rises
  obtain ⟨i, rfl, rfl⟩ | ⟨l, rfl, rfl, hf⟩ | ⟨p, k, rfl, rfl, timer⟩ := rises
  · exact ⟨_, ends_of_event (f := sourceFollows i true) rfl hr, entered_of_rise off rfl clear rfl rfl rfl⟩
  · exact ⟨_, ends_fireAssert hf, entered_of_rise off rfl clear rfl rfl rfl⟩
  · exact ⟨_, ends_persistence hr timer, entered_of_rise off rfl clear rfl rfl rfl⟩

end Sys2Proof.Machine

end

/-! # Proofs: sources fall, CLEAR FIRE, and local fires (O52, O53) -/

section

namespace Sys2Proof.Machine

/-! ## The open entry (R142, R143, R150) -/

section

variable {s : State} {e : FireEntry} {rest : List FireEntry} (record : s.fire.record = e :: rest) (opened : e.ended = .openEntry)
include record opened

theorem modOpenEntry_of_open (f : FireEntry → FireEntry) :
    modOpenEntry f s = { s with fire := { s.fire with record := f e :: rest } } := by
  simp [modOpenEntry, State.modFire, record, opened]

/-- A source that rises while ON joins the open entry, and every line is told (R142). -/
theorem sourceRise_of_on {src : Source} (on : s.fire.on = true) (clear : s.fire.sources.get src = false) :
    sourceRise src s = notifyAll (.fire e.entryTime (e.sources.set src true))
      { s with fire := { s.fire with
          sources := s.fire.sources.set src true, record := { e with sources := e.sources.set src true } :: rest } } := by
  have joined : modOpenEntry (fun x => { x with sources := x.sources.set src true }) (modSources (fun x => x.set src true) s) =
      { s with fire := { s.fire with
          sources := s.fire.sources.set src true, record := { e with sources := e.sources.set src true } :: rest } } :=
    modOpenEntry_of_open (s := modSources (fun x => x.set src true) s) record opened _
  simp [sourceRise, clear, on, recordSource, joined]

/-- CLEAR FIRE ends the open entry at this time and takes BOOTH off every circuit (R143). -/
theorem applyClearFire_of_open : applyClearFire s = notifyAll (.fireCleared e.entryTime s.boothTime)
    { s with
      fire := { s.fire with on := false, record := { e with clearTime := some s.boothTime, ended := .cleared } :: rest }
      circuits := s.circuits.map (Duo.map (fun x => { x with fireBooth := false })) } := by
  have ended := modOpenEntry_of_open (s := s.modFire (fun u => { u with on := false })) record opened
    (fun x => { x with clearTime := some s.boothTime, ended := .cleared })
  unfold applyClearFire
  dsimp only
  rw [ended, setBoothHolder_eq, record]
  rfl

end

/-! ## The rows -/

theorem ends_fireRelease {l : Line} {s : State} (hf : lineFree s l) :
    ends (.fireRelease l) s (sourceFall (.line l) (reply l (.done 0x1B) s)) :=
  ends_of_done rfl hf (by simp) rfl rfl rfl (fun _ => rfl) rfl

theorem ends_clearFire {s : State} (hf : lineFree s .house) (on : s.fire.on = true) (clear : s.fire.sources.any = false) :
    ends (.clearFire .house) s (applyClearFire (reply .house (.done 0x1C) s)) := by
  have check : checkOrder .house .clearFire s = none := by simp [checkOrder, checkClearFire, on, clear]
  exact ends_of_done rfl hf (by simp) rfl check rfl (fun _ => rfl) rfl

/-- Settles O52: a fall is one write; a rise while ON and CLEAR FIRE are judged with the open entry in front. -/
theorem sourcesFallAndFireIsCleared : Obligations.SourcesFallAndFireIsCleared := by
  refine ⟨fun s i hr => ends_of_event (f := sourceFall (.input i)) rfl hr, fun s l hf => ends_fireRelease hf,
    fun s i e rest hr on clear record opened => ?_, fun s e rest hf on clear record opened => ?_⟩
  · have row := ends_of_event (c := .fireSourceInput i true) (f := sourceRise (.input i)) (s := s) rfl hr
    rwa [sourceRise_of_on record opened on clear] at row
  · have row := ends_clearFire hf on clear
    rwa [applyClearFire_of_open (s := reply .house (.done 0x1C) s) record opened] at row

/-! ## A gate flame rises (R145) -/

section

variable {p : Proj} {s : State}

/-- The state in which a gate flame halts its screen. -/
def flameMet (p : Proj) (s : State) : State :=
  notifyScreenAndHouse p.screen (.localFire p)
    (setLocalHolder true p.screen (quenchLamp p (s.modFire (fun u => u.flameRises p))))

theorem flameRise_eq (p : Proj) (s : State) : flameRise p s = haltLocalFire p (flameMet p s) := rfl

theorem flameMet_seq (p : Proj) (s : State) (n : Screen) : (flameMet p s).seq n = s.seq n := by
  have seqs : (flameMet p s).seqs = s.seqs := by
    rw [flameMet, notifyScreenAndHouse_seqs, setLocalHolder_seqs, quenchLamp_seqs, modFire_seqs]
  exact seq_of_seqs seqs n

theorem flameRise_fire (p : Proj) (s : State) : (flameRise p s).fire = s.fire.flameRises p := by
  have base : (flameRise p s).still.base = (s.modFire (fun u => u.flameRises p)).still.base := by
    simp [flameRise_eq, flameMet]
  exact fire_of_base base

theorem flameRise_out (p : Proj) (s : State) : ((flameRise p s).lamp p).st.out = true := by
  have plant : (flameMet p s).plant = (quenchLamp p (s.modFire (fun u => u.flameRises p))).plant := by
    rw [flameMet, notifyScreenAndHouse_plant, setLocalHolder_plant]
  rw [flameRise_eq]
  refine haltLocalFire_out_keeps ?_ p
  rw [lamp_of_lamps (congrArg Plant.lamps plant)]
  exact quenchLamp_out p _

theorem setLocalHolder_fireLocal (v : Bool) (n : Screen) (k : CircKind) (s : State) :
    ((setLocalHolder v n s).circ ⟨n, k⟩).fireLocal = v := by
  cases k <;> simp [setLocalHolder]

theorem flameRise_fireLocal (p : Proj) (s : State) (k : CircKind) :
    ((flameRise p s).circ ⟨p.screen, k⟩).fireLocal = true := by
  have still := still_circ (haltLocalFire_still p (flameMet p s)) ⟨p.screen, k⟩
  exact (congrArg Circuit.fireLocal still).trans (setLocalHolder_fireLocal true p.screen k _)

/-- The screen of a gate flame, where it is not CLOSED. -/
theorem flameRise_seq (opened : (s.seq p.screen).showState ≠ .closed) :
    (flameRise p s).seq p.screen = (s.seq p.screen).putOut .localFire (some p) := by
  rw [flameRise_eq, haltLocalFire_seq (by rw [flameMet_seq]; exact opened), flameMet_seq]

end

/-! ## A gate flame falls (R146) -/

theorem flame_setFlame_setTimer (u : FireUnit) (p q : Proj) :
    ((u.setFlame p false).setTimer p none).flame q = if q = p then false else u.flame q := by
  obtain ⟨n, x⟩ := p
  obtain ⟨m, y⟩ := q
  cases n <;> cases x <;> cases m <;> cases y <;> rfl

/-- Some flame is left when `p`'s has fallen. -/
theorem anyFlame_of_fall (u : FireUnit) (p : Proj) :
    ((u.setFlame p false).setTimer p none).anyFlame = true ↔ ∃ q, q ≠ p ∧ u.flame q = true := by
  simp [FireUnit.anyFlame, flame_setFlame_setTimer, mem_allProjs]

theorem flameFall_of_left {p q : Proj} {s : State} (ne : q ≠ p) (burns : s.fire.flame q = true) :
    flameFall p s = s.modFire (fun u => (u.setFlame p false).setTimer p none) := by
  have left := (anyFlame_of_fall s.fire p).2 ⟨q, ne, burns⟩
  simp [flameFall, State.modFire, left]

theorem flameFall_of_last {p : Proj} {s : State} (last : ∀ q, q ≠ p → s.fire.flame q = false) :
    flameFall p s = sourceFall .gate (s.modFire (fun u => (u.setFlame p false).setTimer p none)) := by
  have none : ((s.fire.setFlame p false).setTimer p none).anyFlame = false := by
    rw [Bool.eq_false_iff, Ne, anyFlame_of_fall]
    rintro ⟨q, ne, burns⟩
    rw [last q ne] at burns
    cases burns
  simp [flameFall, State.modFire, none]

theorem ends_gateFlameRise {p : Proj} {s : State} (hr : s.running = true) (clear : s.fire.flame p = false) :
    ends (.gateFlameRise p) s (flameRise p s) := by
  have row := ends_of_event (c := .gateFlameRise p) (s := s) rfl hr
  simpa only [clear, Bool.false_eq_true, if_false] using row

theorem ends_gateFlameFall {p : Proj} {s : State} (hr : s.running = true) (burns : s.fire.flame p = true) :
    ends (.gateFlameFall p) s (flameFall p s) :=
  ends_of_guard (g := fun t => t.fire.flame p = true) (f := flameFall p) rfl hr burns

/-- Settles O53: a rise is the Unit's own write and a halt of the screen; a fall is the Unit's write, by what flame is left. -/
theorem gateFlamesAreLocalFires : Obligations.GateFlamesAreLocalFires := by
  intro s p hr
  refine ⟨fun clear => ⟨_, ends_gateFlameRise hr clear, flameRise_fire p s, ?_, ?_, fun k => ?_, fun opened => ?_⟩,
    fun burns => ?_⟩
  · exact ((out_iff _).1 (flameRise_out p s)).1
  · exact ((out_iff _).1 (flameRise_out p s)).2
  · have held := flameRise_fireLocal p s k
    exact ⟨held, by simp [Circuit.winnerNow, Circuit.fireClaim, held]⟩
  · rw [flameRise_seq opened]
    obtain ⟨halted, reason⟩ := putOut_of_open (reason := .localFire) (p := some p) opened
    refine ⟨halted, reason, putOut_changeover, fun x => ⟨?_, ?_⟩⟩
    · rw [motorIsOn, flameRise_seq opened, putOut_motor, Pair.get_fill]
    · rw [putOut_demand, Pair.get_fill]
  · have row := ends_gateFlameFall hr burns
    refine ⟨fun ⟨q, ne, left⟩ => ?_, fun last => ?_⟩
    · rwa [flameFall_of_left ne left] at row
    · rwa [flameFall_of_last last] at row

end Sys2Proof.Machine

end

/-! # Proofs: what leaves the fire alone

`State.alarm` is what `fireSafe` reads of a state. Everything of the lines, the lights and the channels leaves it alone, and so
does what a Sequencer writes of its demands, roles, pointer and record's items, and what a lamp's record holds beside its
state. -/

section

namespace Sys2Proof.Machine

/-! ## What a booth fire rests on (R142) -/

/-- What a booth fire asks of a Sequencer: its show state, whether its start is frozen, where it was halted from, its motors, and
whether a changeover is prepared. -/
@[ext] structure Guard where
  showState : Show
  frozen : Option Bool
  haltedFrom : Option Show
  motor : Pair Bool
  prepared : Bool

def Sequencer.guard (q : Sequencer) : Guard :=
  ⟨q.showState, q.startRec.map StartRec.frozen, q.haltedFrom, q.motor, q.changeover.isSome⟩

/-- The fire state with all that keeps a booth fire safe: the Sequencers' guards, the lamps' states, the lamps that wait in the
queue, and the circuits that hold BOOTH. -/
structure Alarm where
  on : Bool
  guards : Quad Guard
  lamps : PerProj LampState
  waiting : List Proj
  booth : PerCirc Bool

def State.alarm (s : State) : Alarm :=
  { on := s.fire.on, guards := s.seqs.map Sequencer.guard, lamps := s.lamps.map (Pair.map Lamp.st), waiting := queued s,
    booth := s.circuits.map (Duo.map Circuit.fireBooth) }

/-! ## The updates -/

variable {s : State} {p : Proj} {n : Screen} {c : Circ}

theorem setLamp_alarm {v : Lamp} (h : v.st = (s.lamp p).st) : (s.setLamp p v).alarm = s.alarm := by
  have lamps : (s.setLamp p v).lamps.map (Pair.map Lamp.st) = s.lamps.map (Pair.map Lamp.st) := by
    refine Quad.ext_get (fun m => Pair.ext_get (fun y => ?_))
    simp only [Quad.get_map, Pair.get_map]
    show ((s.setLamp p v).lamp ⟨m, y⟩).st = (s.lamp ⟨m, y⟩).st
    rw [lamp_setLamp]
    split_ifs with same
    · rw [same, h]
    · rfl
  exact congrArg (fun x => { s.alarm with lamps := x }) lamps

@[simp] theorem modLamp_alarm (s : State) (p : Proj) (f : Lamp → Lamp) (h : ∀ l, (f l).st = l.st) :
    (s.modLamp p f).alarm = s.alarm := setLamp_alarm (h _)

theorem setSeq_alarm {v : Sequencer} (h : v.guard = (s.seq n).guard) : (s.setSeq n v).alarm = s.alarm := by
  have guards : (s.setSeq n v).seqs.map Sequencer.guard = s.seqs.map Sequencer.guard := by
    refine Quad.ext_get (fun m => ?_)
    simp only [Quad.get_map]
    show ((s.setSeq n v).seq m).guard = (s.seq m).guard
    rw [seq_setSeq]
    split_ifs with same
    · rw [same, h]
    · rfl
  exact congrArg (fun x => { s.alarm with guards := x }) guards

@[simp] theorem modSeq_alarm (s : State) (n : Screen) (f : Sequencer → Sequencer) (h : ∀ q, (f q).guard = q.guard) :
    (s.modSeq n f).alarm = s.alarm := setSeq_alarm (h _)

@[simp] theorem modCirc_alarm (s : State) (c : Circ) (f : Circuit → Circuit) (h : ∀ x, (f x).fireBooth = x.fireBooth) :
    (s.modCirc c f).alarm = s.alarm := by
  have booth : (s.modCirc c f).circuits.map (Duo.map Circuit.fireBooth) = s.circuits.map (Duo.map Circuit.fireBooth) := by
    refine Quad.ext_get (fun m => Duo.ext_get (fun k => ?_))
    simp only [Quad.get_map, Duo.get_map]
    show ((s.modCirc c f).circ ⟨m, k⟩).fireBooth = (s.circ ⟨m, k⟩).fireBooth
    rw [circ_modCirc]
    split_ifs with same
    · rw [same, h]
    · rfl
  exact congrArg (fun x => { s.alarm with booth := x }) booth

@[simp] theorem modBudget_alarm (s : State) (f : Budget → Budget)
    (h : (f s.budget).queue.map Entry.lamp = s.budget.queue.map Entry.lamp) : (s.modBudget f).alarm = s.alarm :=
  congrArg (fun x => { s.alarm with waiting := x }) h

@[simp] theorem modFire_alarm (s : State) (f : FireUnit → FireUnit) (h : (f s.fire).on = s.fire.on) :
    (s.modFire f).alarm = s.alarm := congrArg (fun x => { s.alarm with on := x }) h

@[simp] theorem modChan_alarm (s : State) (p : Proj) (f : Channel → Channel) : (s.modChan p f).alarm = s.alarm := rfl
@[simp] theorem modLine_alarm (s : State) (l : Line) (f : LineState → LineState) : (s.modLine l f).alarm = s.alarm := rfl
@[simp] theorem setCtx_alarm (s : State) (p : Proj) (v : Option Context) : (s.setCtx p v).alarm = s.alarm := rfl

@[simp] theorem everyCircuit_alarm (f : Circuit → Circuit) (s : State) (h : ∀ x, (f x).fireBooth = x.fireBooth) :
    (everyCircuit f s).alarm = s.alarm := by
  simp [State.alarm, everyCircuit, queued, Quad.map, Duo.map, h]

/-! ## Lines and lights -/

@[simp] theorem notify_alarm (l : Line) (b : NoticeBody) (s : State) : (notify l b s).alarm = s.alarm := rfl
@[simp] theorem notifyScreen_alarm (n : Screen) (b : NoticeBody) (s : State) : (notifyScreen n b s).alarm = s.alarm := rfl
@[simp] theorem notifyScreenAndHouse_alarm (n : Screen) (b : NoticeBody) (s : State) :
    (notifyScreenAndHouse n b s).alarm = s.alarm := rfl
@[simp] theorem notifyAll_alarm (b : NoticeBody) (s : State) : (notifyAll b s).alarm = s.alarm :=
  forEach_frame _ _ State.alarm (fun l t => notify_alarm l b t) s
@[simp] theorem reply_alarm (l : Line) (r : Reply) (s : State) : (reply l r s).alarm = s.alarm := rfl

@[simp] theorem put_fireBooth (x : Circuit) (w : Winner) (k : Option Claim) : (x.put w k).fireBooth = x.fireBooth := by
  cases w <;> rfl

@[simp] theorem placeBoth_alarm (n : Screen) (w : Winner) (house aisle : Nat) (d : FadeDesc) (s : State) :
    (placeBoth n w house aisle d s).alarm = s.alarm := by
  simp [placeBoth, placeClaim]

@[simp] theorem programTakes_alarm (n : Screen) (k : Nat) (s : State) : (programTakes n k s).alarm = s.alarm :=
  placeBoth_alarm _ _ _ _ _ _

@[simp] theorem faultTakes_alarm (n : Screen) (s : State) : (faultTakes n s).alarm = s.alarm := placeBoth_alarm _ _ _ _ _ _

@[simp] theorem removeClaims_alarm (n : Screen) (w : Winner) (s : State) : (removeClaims n w s).alarm = s.alarm := by
  simp [removeClaims]

@[simp] theorem setLocalHolder_alarm (v : Bool) (n : Screen) (s : State) : (setLocalHolder v n s).alarm = s.alarm := by
  simp [setLocalHolder]

@[simp] theorem startFade_alarm (c : Circ) (s : State) : (startFade c s).alarm = s.alarm := by
  unfold startFade
  dsimp only
  split <;> simp

@[simp] theorem judgeLights_alarm (s : State) : (judgeLights s).alarm = s.alarm :=
  forEach_frame _ _ State.alarm (fun c t => by
    unfold judgeCircuit
    rw [modCirc_alarm _ _ Circuit.settled (fun _ => rfl)]
    split_ifs
    · exact startFade_alarm c t
    · rfl) s

@[simp] theorem lightMarks_alarm (p : Proj) (s : State) : (lightMarks p s).alarm = s.alarm := by
  unfold lightMarks
  split
  · exact forEach_frame _ _ State.alarm (fun m t => by
      unfold actOnMark
      split
      · exact programTakes_alarm _ _ t
      · exact placeBoth_alarm _ _ _ _ _ t) s
  · rfl

theorem markFilm_fireBooth (x : Circuit) (p : Proj) : (x.markFilm p).fireBooth = x.fireBooth := by
  unfold Circuit.markFilm
  split
  · rfl
  · split
    · rfl
    · split_ifs <;> rfl

theorem fadeStep_fireBooth (x : Circuit) (f : Fade) (film : Option FilmFade) : (x.fadeStep f film).fireBooth = x.fireBooth := by
  unfold Circuit.fadeStep
  split_ifs <;> rfl

theorem timeStep_fireBooth (x : Circuit) : x.timeStep.fireBooth = x.fireBooth := by
  unfold Circuit.timeStep
  split
  · rfl
  · split
    · exact fadeStep_fireBooth _ _ _
    · split_ifs <;> rfl

theorem filmStep_fireBooth (x : Circuit) (p : Proj) (k : Nat) : (x.filmStep p k).fireBooth = x.fireBooth := by
  unfold Circuit.filmStep
  split
  · rfl
  · split
    · rfl
    · split_ifs
      · exact fadeStep_fireBooth _ _ _
      · rfl

/-! ## Channels and contexts -/

@[simp] theorem setMotion_alarm (p : Proj) (m : Motion) (s : State) : (setMotion p m s).alarm = s.alarm := by
  unfold setMotion
  dsimp only
  split_ifs
  · rfl
  · rfl
  · rw [everyCircuit_alarm _ _ (fun x => markFilm_fireBooth x p), modChan_alarm]

@[simp] theorem clearRing_alarm (p : Proj) (s : State) : (clearRing p s).alarm = s.alarm := rfl

@[simp] theorem channelFrame_alarm (p : Proj) (s : State) : (channelFrame p s).alarm = s.alarm := by
  have recomputed (t : State) : (examineMotion p t).alarm = t.alarm := by
    unfold examineMotion
    split
    · rfl
    · dsimp only
      split_ifs <;> simp
  unfold channelFrame
  dsimp only
  split_ifs <;> simp [recomputed]

@[simp] theorem channelThread_alarm (p : Proj) (s : State) : (channelThread p s).alarm = s.alarm := by
  simp [channelThread]

@[simp] theorem channelUnthread_alarm (p : Proj) (s : State) : (channelUnthread p s).alarm = s.alarm := by
  simp [channelUnthread]

@[simp] theorem channelResume_alarm (p : Proj) (s : State) : (channelResume p s).alarm = s.alarm := by
  unfold channelResume
  split <;> simp

@[simp] theorem commit_alarm (p : Proj) (s : State) : (commit p s).alarm = s.alarm := by
  unfold commit
  split <;> rfl

/-! ## Sequencers -/

@[simp] theorem modRecord_alarm (n : Screen) (f : Changeover → Changeover) (s : State) : (modRecord n f s).alarm = s.alarm :=
  modSeq_alarm _ _ _ (fun q => by simp [Sequencer.guard])

@[simp] theorem setRole_alarm (p : Proj) (r : Role) (s : State) : (setRole p r s).alarm = s.alarm :=
  modSeq_alarm _ _ _ (fun _ => rfl)

@[simp] theorem setDemand_alarm (p : Proj) (d : Demand) (s : State) : (setDemand p d s).alarm = s.alarm :=
  modSeq_alarm _ _ _ (fun _ => rfl)

@[simp] theorem demandOnly_alarm (p : Proj) (s : State) : (demandOnly p s).alarm = s.alarm := by
  simp [demandOnly]

@[simp] theorem setSound_alarm (n : Screen) (x : Sound) (s : State) : (setSound n x s).alarm = s.alarm :=
  modSeq_alarm _ _ _ (fun _ => rfl)

@[simp] theorem lampUnavailable_alarm (p : Proj) (s : State) : (lampUnavailable p s).alarm = s.alarm := by
  unfold lampUnavailable
  dsimp only
  split_ifs
  · rfl
  · split
    · split_ifs <;> simp
    · rfl

@[simp] theorem motorCheck_alarm (n : Screen) (p : Proj) (s : State) : (motorCheck n p s).alarm = s.alarm := by
  unfold motorCheck
  split
  · dsimp only
    split_ifs <;> simp
  · rfl

@[simp] theorem changeCheck_alarm (n : Screen) (p : Proj) (s : State) : (changeCheck n p s).alarm = s.alarm := by
  unfold changeCheck
  split
  · dsimp only
    split_ifs <;> simp
  · rfl

@[simp] theorem pulseChecked_alarm (n : Screen) (r : Changeover) (w k : Nat) (s : State) :
    (pulseChecked n r w k s).alarm = s.alarm := by
  unfold pulseChecked
  dsimp only
  split_ifs <;> simp

@[simp] theorem examinePair_alarm (p : Proj) (s : State) : (examinePair p s).alarm = s.alarm := by
  unfold examinePair
  split
  · split_ifs <;> simp
  · rfl

@[simp] theorem relight_alarm (p : Proj) (s : State) : (relight p s).alarm = s.alarm := by
  unfold relight
  split_ifs <;> simp

@[simp] theorem onLit_alarm (p : Proj) (s : State) : (onLit p s).alarm = s.alarm := by
  unfold onLit
  split_ifs <;> simp

@[simp] theorem onArcOut_alarm (p : Proj) (running : Bool) (s : State) : (onArcOut p running s).alarm = s.alarm := by
  unfold onArcOut
  dsimp only
  split_ifs <;> simp

@[simp] theorem onReclaim_alarm (p : Proj) (s : State) : (onReclaim p s).alarm = s.alarm := by
  unfold onReclaim
  split_ifs <;> simp

/-! ## Lamps and the budget -/

@[simp] theorem askExamine_alarm (s : State) : (askExamine s).alarm = s.alarm := rfl
@[simp] theorem markLead_alarm (s : State) : (markLead s).alarm = s.alarm := rfl

@[simp] theorem restoreBudget_alarm (s : State) : (restoreBudget s).alarm = s.alarm := by
  unfold restoreBudget
  split_ifs <;> simp

@[simp] theorem notifyReclaimed_alarm (p : Proj) (d : BoothTime) (head : Option Proj) (s : State) :
    (notifyReclaimed p d head s).alarm = s.alarm := by
  unfold notifyReclaimed
  dsimp only
  split <;> try split_ifs
  all_goals rfl

@[simp] theorem lateStrike_alarm (p : Proj) (s : State) : (lateStrike p s).alarm = s.alarm := by
  unfold lateStrike
  split
  · split_ifs
    · rw [notifyScreen_alarm, modBudget_alarm _ _
        (map_entries_lamp p (fun x => { x with lateSent := true }) (fun _ => rfl) s.budget.queue)]
    · rfl
  · rfl

@[simp] theorem lateStrikes_alarm (s : State) : (lateStrikes s).alarm = s.alarm :=
  forEach_frame _ _ State.alarm lateStrike_alarm s

@[simp] theorem reviewCurrent_alarm (p : Proj) (s : State) : (reviewCurrent p s).alarm = s.alarm := by
  unfold reviewCurrent
  dsimp only
  split
  · split_ifs <;> simp
  · rfl

theorem withStubCheck_alarm (p : Proj) (f : Lamp → Lamp) (s : State) (h : ∀ l, (f l).st = l.st) :
    (withStubCheck p f s).alarm = s.alarm := by
  unfold withStubCheck
  dsimp only
  split_ifs <;> simp [h]

@[simp] theorem keepForecast_alarm (p : Proj) (f : Forecast) (s : State) : (keepForecast p f s).alarm = s.alarm := by
  unfold keepForecast
  dsimp only
  split <;> simp

@[simp] theorem singleForecast_alarm (p : Proj) (s : State) : (singleForecast p s).alarm = s.alarm := by
  unfold singleForecast
  split <;> simp

@[simp] theorem economyChoice_alarm (p : Proj) (s : State) : (economyChoice p s).alarm = s.alarm := by
  unfold economyChoice chooseWarm
  split
  · simp
  · dsimp only
    split_ifs <;> simp

@[simp] theorem touchFeed_alarm (p : Proj) (s : State) : (touchFeed p s).alarm = s.alarm := by
  unfold touchFeed
  split_ifs
  · rfl
  · exact withStubCheck_alarm _ _ _ (fun _ => rfl)

@[simp] theorem regulate_alarm (p : Proj) (v : Nat) (s : State) : (regulate p v s).alarm = s.alarm :=
  modLamp_alarm _ _ _ (fun _ => rfl)

@[simp] theorem feedInterval_alarm (p : Proj) (s : State) : (feedInterval p s).alarm = s.alarm := by
  unfold feedInterval feedStep
  split_ifs
  · rw [withStubCheck_alarm p Lamp.fed _ (fun _ => rfl)]
    exact modLamp_alarm _ _ _ (fun _ => rfl)
  · exact modLamp_alarm _ _ _ (fun _ => rfl)

end Sys2Proof.Machine

end

/-! # Proofs: what keeps a booth fire safe (O56)

`FireProof` is `fireSafe` read of `State.alarm`: a step that leaves the alarm as it was keeps it, and what remains are the writes of
a lamp's record, of the queue and of a Sequencer. While the fire state is ON most of these cannot come about: a lamp in use, an
entry, a live screen, a start going on and a prepared changeover each say that it is OFF. -/

section

namespace Sys2Proof.Machine

/-! ## The invariant -/

/-- What `fireSafe` asks of one Sequencer, the fire state given. -/
structure Guard.Safe (on : Bool) (g : Guard) : Prop where
  closed : g.showState = .closed → g.frozen = none
  halted : g.haltedFrom ≠ some .closed
  motor : on = true → g.motor = Pair.fill false
  record : on = true → g.prepared = false
  start : on = true → g.frozen ≠ some false
  shows : on = true → g.showState = .closed ∨ g.showState = .halted ∨ g.showState = .ended

structure Alarm.Safe (a : Alarm) : Prop where
  screens : ∀ n, (a.guards.get n).Safe a.on
  lamps : a.on = true → ∀ p : Proj, ((a.lamps.get p.screen).get p.side).out = true
  queue : a.on = true → a.waiting = []
  booth : a.on = true → ∀ c : Circ, (a.booth.get c.screen).get c.kind = true

def FireProof (s : State) : Prop := s.alarm.Safe

variable {s t : State} {p : Proj} {n : Screen}

theorem guards_get (s : State) (n : Screen) : s.alarm.guards.get n = (s.seq n).guard := Quad.get_map _ _ _

theorem alarm_lamp (s : State) (p : Proj) : (s.alarm.lamps.get p.screen).get p.side = (s.lamp p).st := by
  simp only [State.alarm, Quad.get_map, Pair.get_map]
  rfl

theorem alarm_booth (s : State) (c : Circ) : (s.alarm.booth.get c.screen).get c.kind = (s.circ c).fireBooth := by
  simp only [State.alarm, Quad.get_map, Duo.get_map]
  rfl

theorem fireProof_iff (s : State) : FireProof s ↔ (∀ n, (s.seq n).guard.Safe s.fire.on) ∧
    (s.fire.on = true → (∀ p, (s.lamp p).st.out = true) ∧ queued s = [] ∧ ∀ c, (s.circ c).fireBooth = true) := by
  constructor
  · rintro ⟨screens, lamps, queue, booth⟩
    exact ⟨fun n => guards_get s n ▸ screens n, fun on =>
      ⟨fun p => alarm_lamp s p ▸ lamps on p, queue on, fun c => alarm_booth s c ▸ booth on c⟩⟩
  · rintro ⟨screens, rest⟩
    exact ⟨fun n => (guards_get s n).symm ▸ screens n, fun on p => (alarm_lamp s p).symm ▸ (rest on).1 p,
      fun on => (rest on).2.1, fun on c => (alarm_booth s c).symm ▸ (rest on).2.2 c⟩

theorem FireProof.guard (h : FireProof s) (n : Screen) : (s.seq n).guard.Safe s.fire.on := ((fireProof_iff s).1 h).1 n

/-- The invariant reads the alarm alone. -/
theorem FireProof.frame (h : FireProof s) (e : t.alarm = s.alarm) : FireProof t := by
  unfold FireProof
  rw [e]
  exact h

/-! ## The invariant is `fireSafe` -/

theorem starting_iff (q : Sequencer) : q.starting = false ↔ q.guard.frozen ≠ some false := by
  unfold Sequencer.starting
  cases start : q.startRec <;> simp [Sequencer.guard, start]

theorem guard_unstarted (q : Sequencer) : q.guard.frozen = none ↔ q.startRec = none := by
  simp [Sequencer.guard]

theorem guard_unprepared (q : Sequencer) : q.guard.prepared = false ↔ q.changeover = none := by
  simp [Sequencer.guard]

/-- Both motors of every screen are off. -/
theorem motors_off_iff (s : State) : (∀ p, motorIsOn s p = false) ↔ ∀ n, (s.seq n).motor = Pair.fill false := by
  constructor
  · intro off n
    exact Pair.ext_get (fun x => (off ⟨n, x⟩).trans (Pair.get_fill _ x).symm)
  · intro off p
    rw [motorIsOn, off, Pair.get_fill]

theorem fireSafe_of_fireProof (h : FireProof s) : fireSafe s := by
  obtain ⟨screens, rest⟩ := (fireProof_iff s).1 h
  refine ⟨fun n => ⟨fun closed => (guard_unstarted _).1 ((screens n).closed closed), (screens n).halted⟩, fun on => ?_⟩
  obtain ⟨lamps, queue, booth⟩ := rest on
  refine ⟨fun _ => ⟨fun p => ?_, ?_, fun c => ?_⟩, by simpa [queued] using queue, fun p => (out_iff _).1 (lamps p), booth,
    fun n => ⟨(guard_unprepared _).1 ((screens n).record on), (starting_iff _).2 ((screens n).start on), (screens n).shows on⟩⟩
  · exact charge_of_not_inUse ((out_iff _).1 (lamps p)).1
  · exact (motors_off_iff s).2 (fun n => (screens n).motor on)
  · simp [Circuit.winnerNow, Circuit.fireClaim, booth c]

theorem fireProof_of_fireSafe (h : fireSafe s) : FireProof s := by
  obtain ⟨screens, rest⟩ := h
  refine (fireProof_iff s).2 ⟨fun n => ?_, fun on => ?_⟩
  · obtain ⟨closed, halted⟩ := screens n
    refine ⟨fun shown => (guard_unstarted _).2 (closed shown), halted, fun on => ?_, fun on => ?_, fun on => ?_, fun on => ?_⟩
    all_goals obtain ⟨holds, -, -, -, safe⟩ := rest on
    · exact (motors_off_iff s).1 (holds on).2.1 n
    · exact (guard_unprepared _).2 (safe n).1
    · exact (starting_iff _).1 (safe n).2.1
    · exact (safe n).2.2
  · obtain ⟨-, queue, lamps, booth, -⟩ := rest on
    exact ⟨fun p => (out_iff _).2 (lamps p), by simp [queued, queue], booth⟩

/-! ## What says that the fire state is OFF -/

theorem FireProof.off_of_show {x : Show} (h : FireProof s) (shown : (s.seq n).showState = x)
    (live : x ≠ .closed ∧ x ≠ .halted ∧ x ≠ .ended) : s.fire.on = false := by
  by_contra on
  have shows : (s.seq n).showState = .closed ∨ (s.seq n).showState = .halted ∨ (s.seq n).showState = .ended :=
    (h.guard n).shows (by simpa using on)
  rw [shown] at shows
  tauto

theorem FireProof.off_of_record {r : Changeover} (h : FireProof s) (record : (s.seq n).changeover = some r) :
    s.fire.on = false := by
  by_contra on
  have none : (s.seq n).changeover = none := (guard_unprepared _).1 ((h.guard n).record (by simpa using on))
  simp [record] at none

theorem FireProof.off_of_start {r : StartRec} (h : FireProof s) (start : (s.seq n).startRec = some r)
    (unfrozen : r.frozen = false) : s.fire.on = false := by
  by_contra on
  exact (h.guard n).start (by simpa using on) (by simp [Sequencer.guard, start, unfrozen])

theorem FireProof.off_of_lamp (h : FireProof s) (live : (s.lamp p).st.out = false) : s.fire.on = false := by
  by_contra on
  have out : (s.lamp p).st.out = true := (((fireProof_iff s).1 h).2 (by simpa using on)).1 p
  simp [live] at out

theorem FireProof.off_of_lit (h : FireProof s) (lit : (s.lamp p).lit = true) : s.fire.on = false := by
  refine h.off_of_lamp (p := p) ?_
  cases st : (s.lamp p).st <;> simp [Lamp.lit, st] at lit <;> rfl

theorem FireProof.off_of_entry {e : Entry} (h : FireProof s) (entry : e ∈ s.budget.queue) : s.fire.on = false := by
  by_contra on
  have empty : queued s = [] := (((fireProof_iff s).1 h).2 (by simpa using on)).2.1
  simp only [queued, List.map_eq_nil_iff] at empty
  simp [empty] at entry

theorem FireProof.off_of_entryOf {e : Entry} (h : FireProof s) (entry : entryOf s p = some e) : s.fire.on = false :=
  h.off_of_entry (List.mem_of_find?_eq_some entry)

/-! ## Writes of a lamp's record and of the queue -/

theorem FireProof.setLamp {v : Lamp} (h : FireProof s) (out : s.fire.on = true → v.st.out = true) :
    FireProof (s.setLamp p v) := by
  obtain ⟨screens, rest⟩ := (fireProof_iff s).1 h
  refine (fireProof_iff _).2 ⟨screens, fun on => ?_⟩
  obtain ⟨lamps, queue, booth⟩ := rest on
  refine ⟨fun q => ?_, queue, booth⟩
  rw [lamp_setLamp]
  split_ifs
  · exact out on
  · exact lamps q

/-- Any record, while the fire state is OFF. -/
theorem FireProof.lampOff {v : Lamp} (h : FireProof s) (off : s.fire.on = false) : FireProof (s.setLamp p v) :=
  h.setLamp (fun on => by simp [off] at on)

/-- Any queue, while the fire state is OFF. -/
theorem FireProof.budgetOff {f : Budget → Budget} (h : FireProof s) (off : s.fire.on = false) : FireProof (s.modBudget f) := by
  obtain ⟨screens, -⟩ := (fireProof_iff s).1 h
  refine (fireProof_iff _).2 ⟨screens, fun on => ?_⟩
  have on : s.fire.on = true := on
  simp [off] at on

theorem askExamine_fireProof (h : FireProof s) : FireProof (askExamine s) := h.frame rfl

theorem newEntry_fireProof {d : BoothTime} {held : Bool} (h : FireProof s) (off : s.fire.on = false) :
    FireProof (newEntry p d held s) := h.budgetOff off

/-! ## Writes of a Sequencer -/

theorem FireProof.setSeq {v : Sequencer} (h : FireProof s) (safe : v.guard.Safe s.fire.on) : FireProof (s.setSeq n v) := by
  obtain ⟨screens, rest⟩ := (fireProof_iff s).1 h
  refine (fireProof_iff _).2 ⟨fun m => ?_, rest⟩
  rw [seq_setSeq]
  split_ifs
  · exact safe
  · exact screens m

/-- What the invariant asks while the fire state is OFF. -/
theorem Guard.safe_of_off {on : Bool} {g : Guard} (off : on = false) (closed : g.showState = .closed → g.frozen = none)
    (halted : g.haltedFrom ≠ some .closed) : g.Safe on := by
  refine ⟨closed, halted, ?_, ?_, ?_, ?_⟩ <;> (intro now; simp [off] at now)

/-- A write, while the fire state is OFF, of neither the show state nor the start nor where the screen was halted from. -/
theorem FireProof.seqOff {v : Sequencer} (h : FireProof s) (off : s.fire.on = false)
    (shown : v.showState = (s.seq n).showState) (start : v.guard.frozen = (s.seq n).guard.frozen)
    (halted : v.haltedFrom = (s.seq n).haltedFrom) : FireProof (s.setSeq n v) := by
  refine h.setSeq (Guard.safe_of_off off (fun closed => ?_) (fun same => (h.guard n).halted (halted.symm.trans same)))
  rw [start]
  exact (h.guard n).closed (shown.symm.trans closed)

/-- A motor turned off. -/
theorem Guard.Safe.motorOff {on : Bool} {q : Sequencer} (h : q.guard.Safe on) (x : Side) :
    ({ q with motor := q.motor.set x false } : Sequencer).guard.Safe on := by
  refine ⟨h.closed, h.halted, fun now => ?_, h.record, h.start, h.shows⟩
  have off : q.motor = Pair.fill false := h.motor now
  show q.motor.set x false = Pair.fill false
  rw [off, Pair.fill_set]

/-- The record NONE. -/
theorem Guard.Safe.unprepared {on : Bool} {q : Sequencer} (h : q.guard.Safe on) :
    ({ q with changeover := none } : Sequencer).guard.Safe on :=
  ⟨h.closed, h.halted, h.motor, fun _ => rfl, h.start, h.shows⟩

/-- No start, the halt items as they were. -/
theorem Guard.Safe.unstarted {on : Bool} {q : Sequencer} (h : q.guard.Safe on) : q.unstarted.guard.Safe on :=
  ⟨fun _ => rfl, h.halted, h.motor, h.record, fun _ => by simp [Sequencer.guard, Sequencer.unstarted], h.shows⟩

theorem frozen_map_ne (o : Option StartRec) :
    ((o.map (fun r => ({ r with frozen := true } : StartRec))).map StartRec.frozen) ≠ some false := by
  cases o <;> simp

/-- A halt, which no CLOSED screen comes to (R67). -/
theorem Guard.Safe.haltedOpen {on : Bool} {q : Sequencer} (h : q.guard.Safe on) (reason : HaltReason) (x : Option Proj) :
    (q.haltedOpen reason x).guard.Safe on := by
  unfold Sequencer.haltedOpen
  split_ifs with closed
  · exact h
  · unfold Sequencer.halted
    dsimp only
    split_ifs with halted
    · refine ⟨fun now => ?_, h.halted, h.motor, h.record, fun _ => frozen_map_ne _, h.shows⟩
      exact absurd now closed
    · refine ⟨fun now => ?_, fun same => closed (Option.some.inj same), h.motor, h.record, fun _ => frozen_map_ne _, fun _ => ?_⟩
      · exact nomatch now
      · exact Or.inr (Or.inl rfl)

theorem Guard.Safe.filmStopped {on : Bool} {q : Sequencer} (h : q.guard.Safe on) (x : Side) :
    (q.filmStopped x).guard.Safe on := h.motorOff x

theorem Guard.Safe.dropped {on : Bool} {q : Sequencer} (h : q.guard.Safe on) (spare : Option Side) :
    (q.dropped spare).guard.Safe on := by
  unfold Sequencer.dropped
  split
  · exact h
  · split_ifs
    · exact h.unprepared
    · exact (h.motorOff _).unprepared

theorem motorOff_fireProof (h : FireProof s) : FireProof (motorOff p s) := by
  have stopped : FireProof (s.modSeq p.screen (fun q => { q with motor := q.motor.set p.side false })) :=
    h.setSeq ((h.guard p.screen).motorOff p.side)
  unfold motorOff
  by_cases on : motorIsOn s p = true
  · rw [if_pos on]
    refine stopped.frame ?_
    dsimp only
    split_ifs <;> simp only [setMotion_alarm, modChan_alarm]
  · rw [if_neg on]
    exact h

theorem motorOn_fireProof (h : FireProof s) (off : s.fire.on = false) : FireProof (motorOn p s) := by
  have started : FireProof (s.modSeq p.screen (fun q => { q with motor := q.motor.set p.side true })) :=
    h.seqOff off rfl rfl rfl
  unfold motorOn
  by_cases on : motorIsOn s p = true
  · rw [if_pos on]
    exact h
  · rw [if_neg on]
    refine started.frame ?_
    dsimp only
    split_ifs <;> simp only [setMotion_alarm, modChan_alarm]

end Sys2Proof.Machine

end

/-! # Proofs: the Sequencers and the lamps keep a booth fire safe (O56) -/

section

namespace Sys2Proof.Machine

variable {s t : State} {p : Proj} {n : Screen}

/-- The fire state stays OFF where the Unit's record is left alone. -/
theorem off_of_base (e : t.still.base = s.still.base) (off : s.fire.on = false) : t.fire.on = false :=
  (congrArg FireUnit.on (fire_of_base e)).trans off

/-! ## Requests, quenches and sets to running (R78, R85, R88, R89, R112, R113) -/

theorem withdrawRequest_fireProof (h : FireProof s) : FireProof (withdrawRequest p s) := by
  unfold withdrawRequest withdrawEntry
  split
  · exact h
  next entry =>
    have off := h.off_of_entryOf entry
    have dropped : FireProof (s.modBudget (fun b => { b with queue := dropEntry p b.queue })) := h.budgetOff off
    dsimp only
    split_ifs
    · exact (askExamine_fireProof dropped).lampOff off
    · exact dropped.lampOff off

theorem quenchLamp_fireProof (h : FireProof s) : FireProof (quenchLamp p s) := by
  unfold quenchLamp
  split
  case h_4 => exact (withdrawRequest_fireProof h).setLamp (fun _ => rfl)
  case h_5 | h_6 | h_7 => exact h
  all_goals exact askExamine_fireProof (h.setLamp (fun _ => rfl))

theorem delayedQuench_fireProof (h : FireProof s) : FireProof (delayedQuench p s) := by
  have delayed : FireProof (if (s.lamp p).settings.quenchDelay = 0 then quenchLamp p s else s.modLamp p (fun l =>
      { l with quenchDue := some (keepEarlier l.quenchDue (after s.boothTime (10 * l.settings.quenchDelay))) })) := by
    split_ifs
    · exact quenchLamp_fireProof h
    · exact h.frame (by simp)
  unfold delayedQuench
  split
  case h_1 | h_2 => exact delayed
  case h_3 | h_4 | h_5 => exact withdrawRequest_fireProof (quenchLamp_fireProof h)
  case h_6 | h_7 => exact h

theorem setRunning_fireProof (h : FireProof s) : FireProof (setRunning p s) := by
  unfold setRunning
  split
  case h_1 st | h_2 st => exact h.lampOff (h.off_of_lamp (p := p) (by rw [st]; rfl))
  case h_3 | h_4 | h_5 => exact h.frame (by simp)
  case h_6 | h_7 => exact h

/-- No request comes to the queue while the fire state is ON (R112). -/
theorem budgetRequest_fireProof {d : BoothTime} (h : FireProof s) : FireProof (budgetRequest p d s) := by
  unfold budgetRequest
  split_ifs with on
  · exact h
  · have off : s.fire.on = false := by simpa using on
    split
    · exact askExamine_fireProof (newEntry_fireProof h off)
    · split_ifs
      · exact askExamine_fireProof (h.budgetOff off)
      · exact h

theorem strikeRequest_fireProof {x : Target} {d : BoothTime} (h : FireProof s) : FireProof (strikeRequest p x d s) := by
  have asked : FireProof (budgetRequest p d s) := budgetRequest_fireProof h
  unfold strikeRequest
  split
  · exact h
  next on =>
    have off : s.fire.on = false := by simpa using on
    split
    case h_1 =>
      split_ifs
      · exact h
      · exact budgetRequest_fireProof (h.lampOff off)
    case h_2 | h_3 => exact asked.frame (by simp)
    case h_4 => exact h.frame (by simp)
    case h_5 | h_6 | h_7 => exact h

theorem raiseRequest_fireProof {x : Target} {d : BoothTime} (h : FireProof s) : FireProof (raiseRequest p x d s) := by
  unfold raiseRequest
  split_ifs
  · exact h.frame (by simp)
  · exact strikeRequest_fireProof h

theorem askRunning_fireProof (h : FireProof s) : FireProof (askRunning p s) := by
  unfold askRunning
  split
  case h_5 | h_6 | h_7 => exact setRunning_fireProof h
  all_goals exact raiseRequest_fireProof h

/-! ## The record (R53, R54, R58, R60 to R65) -/

theorem recordToNoneSparing_fireProof {x : Option Side} (h : FireProof s) : FireProof (recordToNoneSparing n x s) := by
  have none {u : State} (hu : FireProof u) : FireProof (u.modSeq n (fun q => { q with changeover := none })) :=
    hu.setSeq (hu.guard n).unprepared
  unfold recordToNoneSparing undoIncoming
  split
  · exact h
  · dsimp only
    split_ifs
    · exact none h
    · exact none ((motorOff_fireProof (quenchLamp_fireProof (withdrawRequest_fireProof h))).frame (setRole_alarm _ _ _))

theorem recordToNone_fireProof (h : FireProof s) : FireProof (recordToNone n s) := recordToNoneSparing_fireProof h

theorem modRecord_fireProof {f : Changeover → Changeover} (h : FireProof s) : FireProof (modRecord n f s) :=
  h.frame (modRecord_alarm n f s)

theorem strikeAction_fireProof (h : FireProof s) : FireProof (strikeAction n s) := by
  unfold strikeAction
  split
  · exact h
  · dsimp only
    split <;> try split_ifs
    case h_1 | h_2 => exact modRecord_fireProof (modRecord_fireProof h)
    case h_3 => exact modRecord_fireProof h
    case h_7 | pos => exact (modRecord_fireProof (modRecord_fireProof h)).frame (notifyScreen_alarm _ _ _)
    all_goals exact strikeRequest_fireProof (modRecord_fireProof h)

theorem strikeIfReached_fireProof (h : FireProof s) : FireProof (strikeIfReached n s) := by
  unfold strikeIfReached
  split
  · split_ifs
    · exact strikeAction_fireProof h
    · exact h
  · exact h

theorem warmChosen_fireProof (h : FireProof s) : FireProof (warmChosen p s) := by
  unfold warmChosen
  split
  · split_ifs
    · exact strikeIfReached_fireProof (modRecord_fireProof h)
    · exact h
  · exact h

/-- The motor cue turns a motor on, with a changeover prepared. -/
theorem takeMotorCue_fireProof {c : CueTake} (h : FireProof s) : FireProof (takeMotorCue n c s) := by
  have cued : FireProof (modRecord n (fun r => { r with motorCue := some c }) s) := modRecord_fireProof h
  have motor {u : State} {x : Side} (hu : FireProof u) (off : u.fire.on = false) :
      FireProof (modRecord n (fun r => { r with st := .rolling }) (motorOn ⟨n, x⟩ (commit ⟨n, x⟩ u))) :=
    modRecord_fireProof (motorOn_fireProof (hu.frame (commit_alarm _ _)) (off_of_base (by simp) off))
  unfold takeMotorCue
  dsimp only
  split
  · exact cued
  next r record =>
    have off : (modRecord n (fun r => { r with motorCue := some c }) s).fire.on = false := cued.off_of_record record
    split_ifs
    · exact cued
    · exact motor (strikeAction_fireProof cued) (off_of_base (by simp) off)
    · exact motor cued off

theorem showing_of_canArm {x : Side × Context} (h : canArm s n = some x) : (s.seq n).showState = .showing := by
  unfold canArm at h
  dsimp only at h
  split at h
  · assumption
  · cases h

theorem examineArming_fireProof (h : FireProof s) : FireProof (examineArming n s) := by
  unfold examineArming
  split
  · exact h
  next x out arms =>
    have off : s.fire.on = false := h.off_of_show (showing_of_canArm arms) (by decide)
    have armed : FireProof ((setRole ⟨n, x⟩ .incoming s).modSeq n (fun q =>
        { q with changeover := some (armedRecord x out (s.lamp ⟨n, x⟩).chosenWarm) })) :=
      (h.frame (setRole_alarm _ _ _)).seqOff off rfl rfl rfl
    dsimp only
    split_ifs
    · exact takeMotorCue_fireProof (strikeIfReached_fireProof armed)
    · exact strikeIfReached_fireProof armed

theorem switchOver_fireProof {late : Bool} (h : FireProof s) : FireProof (switchOver n late s) := by
  unfold switchOver
  split
  · exact h
  next r _ =>
    have running : FireProof (setRunning ⟨n, r.incoming⟩ s) := setRunning_fireProof h
    have moved (u : State) : (u.modSeq n (fun q => { q with pointer := q.pointer + 1 })).alarm = u.alarm :=
      modSeq_alarm _ _ _ (fun _ => rfl)
    dsimp only
    exact delayedQuench_fireProof (running.frame (by simp [moved]))

theorem takeChangeCue_fireProof {c : CueTake} (h : FireProof s) : FireProof (takeChangeCue n c s) := by
  unfold takeChangeCue
  dsimp only
  split
  · exact modRecord_fireProof h
  · split
    · exact switchOver_fireProof (modRecord_fireProof h)
    all_goals exact h.frame (by simp)

theorem recordFrame_fireProof (h : FireProof s) : FireProof (recordFrame n p s) := by
  have motor {t : State} (ht : FireProof t) : FireProof (motorCueByCount n p t) := by
    unfold motorCueByCount
    split
    · split_ifs
      · exact takeMotorCue_fireProof ht
      · exact ht
    · exact ht
  have change {t : State} (ht : FireProof t) : FireProof (changeCueByCount n p t) := by
    unfold changeCueByCount
    split
    · split_ifs
      · exact takeChangeCue_fireProof ht
      · exact ht
    · exact ht
  unfold recordFrame
  split
  · split_ifs
    · exact h.frame (by simp)
    · have cued : FireProof (motorCheck n p (motorCueByCount n p (strikeIfReached n s))) :=
        (motor (strikeIfReached_fireProof h)).frame (motorCheck_alarm n p _)
      exact (change cued).frame (changeCheck_alarm n p _)
    · exact h
  · exact h

theorem recordPulse_fireProof {k : Nat} (h : FireProof s) : FireProof (recordPulse p k s) := by
  have sense (n : Screen) (r : Changeover) (w : Nat) : FireProof (pulseSense n r w k s) := by
    unfold pulseSense
    split_ifs
    · exact takeMotorCue_fireProof h
    · exact takeChangeCue_fireProof h
    · exact h
    · exact modRecord_fireProof h
  unfold recordPulse
  split
  · split_ifs
    · dsimp only
      split
      · exact h
      · exact h
      · split_ifs
        · exact modRecord_fireProof h
        · exact h
      · exact sense _ _ _
      · exact h.frame (by simp)
    · exact h
  · exact h

/-! ## Halts (R62, R67, R69) -/

theorem haltScreen_fireProof {r : HaltReason} {x : Option Proj} (h : FireProof s) : FireProof (haltScreen n r x s) := by
  have safe := (h.guard n).haltedOpen r x
  unfold Sequencer.haltedOpen at safe
  unfold haltScreen
  split_ifs at safe ⊢
  · exact h
  · exact (h.setSeq safe).frame (by rw [notifyScreenAndHouse_alarm, faultTakes_alarm]; rfl)

theorem stopFilm_fireProof (h : FireProof s) : FireProof (stopFilm p s) := by
  have cleared : FireProof (setDemand p .clear s) := h.frame (setDemand_alarm _ _ _)
  unfold stopFilm
  dsimp only
  split_ifs
  · split
    · exact (motorOff_fireProof cleared).frame (setRole_alarm _ _ _)
    · exact motorOff_fireProof cleared
  · exact cleared

theorem haltFilm_fireProof {r : HaltReason} (h : FireProof s) : FireProof (haltFilm r p s) := by
  unfold haltFilm
  split_ifs
  · exact h
  · exact recordToNone_fireProof (quenchLamp_fireProof (stopFilm_fireProof (haltScreen_fireProof h)))

theorem haltLamp_fireProof {r : HaltReason} (h : FireProof s) : FireProof (haltLamp r p s) := by
  unfold haltLamp
  split_ifs
  · exact h
  · refine recordToNone_fireProof ?_
    split
    · exact stopFilm_fireProof (haltScreen_fireProof h)
    · exact haltScreen_fireProof h

theorem haltLocalFire_fireProof (h : FireProof s) : FireProof (haltLocalFire p s) := by
  have stopped : FireProof (stopFilm ⟨p.screen, .b⟩ (stopFilm ⟨p.screen, .a⟩
      (haltScreen p.screen .localFire (some p) s))) := stopFilm_fireProof (stopFilm_fireProof (haltScreen_fireProof h))
  unfold haltLocalFire
  dsimp only
  split_ifs
  · exact h
  · refine recordToNone_fireProof ?_
    split
    · split_ifs
      · exact stopped
      · exact quenchLamp_fireProof stopped
    · exact stopped

theorem haltMissed_fireProof (h : FireProof s) : FireProof (haltMissed p s) := by
  have halted : FireProof (haltScreen p.screen .missedChangeover (some p) s) := haltScreen_fireProof h
  unfold haltMissed
  dsimp only
  exact (delayedQuench_fireProof ((modRecord_fireProof halted).frame (setDemand_alarm _ _ _))).frame (setRole_alarm _ _ _)

/-! ## Contexts emptied (R15, R76) -/

theorem dropIncoming_fireProof (h : FireProof s) : FireProof (dropIncoming p s) := by
  unfold dropIncoming
  split_ifs
  · exact recordToNone_fireProof h
  · exact h

theorem emptyContext_fireProof (h : FireProof s) : FireProof (emptyContext p s) := by
  have told : FireProof (channelUnthread p (s.setCtx p none)) := h.frame (by simp)
  unfold emptyContext
  split
  · exact h
  · exact (dropIncoming_fireProof told).frame (reviewCurrent_alarm _ _)

/-! ## Starts (R45 to R49) -/

/-- A start is recorded while the fire state is OFF, on a screen that is not CLOSED. -/
theorem beginRecord_fireProof {k : StartKind} (h : FireProof s) (off : s.fire.on = false)
    (opened : (s.seq p.screen).showState ≠ .closed) : FireProof (beginRecord p k s) := by
  have started : FireProof (s.modSeq p.screen (fun q => { q with startRec := some ⟨p.side, k, .strikeWait, false⟩ })) :=
    h.setSeq (Guard.safe_of_off off (fun closed => absurd closed opened) (h.guard p.screen).halted)
  exact started.frame (by rw [beginRecord, commit_alarm, setRole_alarm])

theorem beginStart_fireProof {k : StartKind} (h : FireProof s) (off : s.fire.on = false)
    (opened : (s.seq p.screen).showState ≠ .closed) : FireProof (beginStart p k s) := by
  have taken : FireProof (s.modSeq p.screen (fun q =>
      { q with interval := none, reelPending := false, pointer := q.pointer + 1 })) := h.frame (modSeq_alarm _ _ _ (fun _ => rfl))
  unfold beginStart
  refine askRunning_fireProof (FireProof.frame ?_ (programTakes_alarm _ _ _))
  split_ifs
  · exact beginRecord_fireProof taken off (by simpa using opened)
  · exact beginRecord_fireProof h off opened

/-- An interval's start: the screen times an interval, so the fire state is OFF. -/
theorem beginInterval_fireProof (h : FireProof s) (times : (s.seq p.screen).showState = .interval) :
    FireProof (beginStart p .interval s) :=
  beginStart_fireProof h (h.off_of_show times (by decide)) (by rw [times]; decide)

theorem examinePending_fireProof (h : FireProof s) : FireProof (examinePending n s) := by
  unfold examinePending
  split_ifs with pending
  · split
    · exact beginInterval_fireProof h pending.1
    · exact h
  · exact h

theorem examineThreading_fireProof (h : FireProof s) : FireProof (examineThreading n s) :=
  examinePending_fireProof (examineArming_fireProof h)

theorem expireInterval_fireProof (h : FireProof s) (times : (s.seq n).showState = .interval) :
    FireProof (expireInterval n s) := by
  have waits : FireProof (s.modSeq n (fun q => { q with reelPending := true })) := h.frame (modSeq_alarm _ _ _ (fun _ => rfl))
  unfold expireInterval
  split
  · exact beginInterval_fireProof h times
  · dsimp only
    split <;> exact waits.frame (notifyScreen_alarm _ _ _)

/-! ## Frame events and the end of a reel (R41, R48 to R50) -/

/-- A screen that SHOWS goes on to another show state than CLOSED, with its start as it was. -/
theorem FireProof.showOff {v : Sequencer} (h : FireProof s) (off : s.fire.on = false) (opened : v.showState ≠ .closed)
    (halted : v.haltedFrom = (s.seq n).haltedFrom) : FireProof (s.setSeq n v) :=
  h.setSeq (Guard.safe_of_off off (fun closed => absurd closed opened) (fun same => (h.guard n).halted (halted.symm.trans same)))

theorem reelEnds_fireProof (h : FireProof s) (off : s.fire.on = false) : FireProof (reelEnds p s) := by
  have closed : FireProof (closing p s) :=
    (delayedQuench_fireProof (h.frame (by simp))).frame (setRole_alarm _ _ _)
  have off : (closing p s).fire.on = false := off_of_base (by simp) off
  have shown {v : Sequencer} {k : Nat} {b : NoticeBody} (opened : v.showState ≠ .closed)
      (halted : v.haltedFrom = ((closing p s).seq p.screen).haltedFrom) :
      FireProof (notifyScreen p.screen b (programTakes p.screen k ((closing p s).setSeq p.screen v))) :=
    (closed.showOff off opened halted).frame (by rw [notifyScreen_alarm, programTakes_alarm])
  unfold reelEnds
  dsimp only
  split
  · exact shown (by simp) rfl
  · exact shown (by simp) rfl
  · exact haltMissed_fireProof h

theorem endIfReached_fireProof (h : FireProof s) : FireProof (endIfReached p s) := by
  unfold endIfReached
  split
  · split_ifs with reached
    · exact reelEnds_fireProof h (h.off_of_show reached.2.1 (by decide))
    · exact h
  · exact h

theorem sequencerFrame_fireProof (h : FireProof s) : FireProof (sequencerFrame p s) := by
  unfold sequencerFrame
  dsimp only
  split
  · exact h.frame (by split_ifs <;> simp)
  · split_ifs
    · exact endIfReached_fireProof (recordFrame_fireProof (h.frame (lightMarks_alarm _ _)))
    · exact h
  · exact recordFrame_fireProof h
  · exact h
  · exact h

/-! ## Films that stop (R41, R61, R63, R67) -/

theorem incomingFault_fireProof {f : IncomingFault} (h : FireProof s) : FireProof (incomingFault p f s) := by
  have stopped : FireProof (motorOff p s) := motorOff_fireProof h
  have held : FireProof (withdrawRequest p (motorOff p s)) := withdrawRequest_fireProof stopped
  unfold incomingFault
  split
  · split_ifs
    · exact h
    · split
      · exact held.frame (by simp)
      · exact held.frame (by simp)
      · exact stopped.frame (notifyScreen_alarm _ _ _)
      · exact h
  · exact h

theorem endSwitched_fireProof (h : FireProof s) : FireProof (endSwitched n s) := by
  unfold endSwitched
  split
  · split_ifs
    · exact h.setSeq (h.guard n).unprepared
    · exact h
  · exact h

theorem onRunout_fireProof (h : FireProof s) : FireProof (onRunout p s) := by
  have stopped : FireProof (motorOff p s) := motorOff_fireProof h
  have idle {u : State} (hu : FireProof u) : FireProof (setRole p .idle u) := hu.frame (setRole_alarm _ _ _)
  unfold onRunout
  split
  · exact idle stopped
  · exact examineArming_fireProof (endSwitched_fireProof (idle (emptyContext_fireProof stopped)))
  · exact stopped
  · exact idle (emptyContext_fireProof stopped)
  · exact h

theorem onBreak_fireProof (h : FireProof s) : FireProof (onBreak p s) := by
  unfold onBreak
  split
  · exact haltFilm_fireProof h
  · exact haltFilm_fireProof h
  · exact incomingFault_fireProof h
  · exact examineArming_fireProof (endSwitched_fireProof ((motorOff_fireProof (p := p) h).frame (by simp)))
  · exact h

theorem onStall_fireProof (h : FireProof s) : FireProof (onStall p s) := by
  unfold onStall
  split
  · exact haltFilm_fireProof h
  · exact incomingFault_fireProof h
  · exact h

/-! ## Strikes (R80 to R82, R86) -/

theorem faultLamp_fireProof {c : FaultCause} (h : FireProof s) : FireProof (faultLamp p c s) :=
  askExamine_fireProof (h.setLamp (fun _ => rfl))

theorem failStrike_fireProof {c : FaultCause} (h : FireProof s) : FireProof (failStrike p c s) := by
  have failed : FireProof (notifyScreen p.screen (.strikeFailed p c) (faultLamp p c s)) :=
    (faultLamp_fireProof h).frame (notifyScreen_alarm _ _ _)
  unfold failStrike onStrikeFailed
  split
  · exact haltLamp_fireProof failed
  · exact haltLamp_fireProof failed
  · split_ifs
    · exact failed.frame (notifyScreen_alarm _ _ _)
    · exact failed

theorem beginAttempt_fireProof (h : FireProof s) : FireProof (beginAttempt p s) := by
  unfold beginAttempt
  split_ifs
  · exact failStrike_fireProof h
  · exact h.frame (by simp)

theorem failAttempt_fireProof {c : FaultCause} (h : FireProof s) : FireProof (failAttempt p c s) := by
  unfold failAttempt
  split_ifs
  · exact h.frame (by simp)
  · exact failStrike_fireProof h

theorem lightLamp_fireProof (h : FireProof s) (off : s.fire.on = false) : FireProof (lightLamp p s) := by
  have lit : FireProof (s.modLamp p Lamp.litUp) := h.lampOff off
  unfold lightLamp
  dsimp only
  refine FireProof.frame (s := if (s.lamp p).fixedSurge = 0 then s.modLamp p Lamp.litUp
    else askExamine (s.modLamp p Lamp.litUp)) ?_ (by rw [onLit_alarm, singleForecast_alarm, notifyScreen_alarm])
  split_ifs
  · exact lit
  · exact askExamine_fireProof lit

theorem arcOut_fireProof (h : FireProof s) (off : s.fire.on = false) : FireProof (arcOut p s) := by
  have told (b : NoticeBody) : FireProof (notifyScreen p.screen b s) := h.frame (notifyScreen_alarm _ _ _)
  unfold arcOut
  extract_lets l running second t
  split_ifs
  · exact (quenchLamp_fireProof (told _)).frame (onArcOut_alarm _ _ _)
  · exact failStrike_fireProof (told _)
  · exact haltLamp_fireProof (faultLamp_fireProof (told _))
  · exact (budgetRequest_fireProof (askExamine_fireProof ((told _).lampOff off))).frame (onArcOut_alarm _ _ _)

/-! ## Grants and reclaims (R115, R117, R120) -/

theorem grant_fireProof {e : Entry} (h : FireProof s) (off : s.fire.on = false) : FireProof (grant e s) := by
  have dropped : FireProof (s.modBudget (fun b => { b with queue := dropEntry e.lamp b.queue })) := h.budgetOff off
  exact beginAttempt_fireProof ((dropped.lampOff off).frame (notifyScreen_alarm _ _ _))

theorem reclaim_fireProof {head : Option Proj} (h : FireProof s) (standby : (s.lamp p).st = .standby) :
    FireProof (reclaim p head s) := by
  have off : (quenchLamp p s).fire.on = false := off_of_base (by simp) (h.off_of_lamp (p := p) (by rw [standby]; rfl))
  have joined : FireProof (newEntry p (ownDeadline s p) true (quenchLamp p s)) :=
    newEntry_fireProof (quenchLamp_fireProof h) off
  exact joined.frame (by rw [reclaim, notifyReclaimed_alarm, onReclaim_alarm])

theorem overdraftReclaim_fireProof {k : Nat} (h : FireProof s) : FireProof (overdraftReclaim k s) := by
  induction k generalizing s with
  | zero => exact h
  | succ k ih =>
    unfold overdraftReclaim
    split_ifs
    · exact h
    · split
      next found => exact ih (reclaim_fireProof h (latestCandidate_standby found))
      next => exact h

theorem standbyInOverdraft_fireProof (h : FireProof s) : FireProof (standbyInOverdraft s) := by
  unfold standbyInOverdraft
  split_ifs
  · exact askExamine_fireProof (overdraftReclaim_fireProof h)
  · exact h

/-! ## The examination (R114) -/

/-- A queue with a head says that the fire state is OFF. -/
theorem examineQueue_fireProof {k : Nat} (h : FireProof s) : FireProof (examineQueue k s) := by
  induction k generalizing s with
  | zero => rw [examineQueue]; exact h
  | succ k ih =>
    cases queue : s.budget.queue with
    | nil => rw [examineQueue.eq_def]; simpa only [queue] using h
    | cons e rest =>
      have off : s.fire.on = false := h.off_of_entry (e := e) (by simp [queue])
      rw [examineQueue.eq_def]
      simp only [queue]
      split_ifs
      · exact h
      · exact ih (grant_fireProof h off)
      · split
        next found => exact ih (reclaim_fireProof h (latestCandidate_standby found))
        next => exact h
      · exact h

theorem examineBudget_fireProof (h : FireProof s) : FireProof (examineBudget s) :=
  (examineQueue_fireProof (h.frame (restoreBudget_alarm s))).frame (markLead_alarm _)

/-! ## The end of an event -/

theorem strikeWait_fireProof (h : FireProof s) (off : s.fire.on = false) : FireProof (strikeWait p s) := by
  have set : FireProof (if (s.lamp p).st = .standby then setRunning p s else s) := by
    split_ifs
    · exact setRunning_fireProof h
    · exact h
  have off : (if (s.lamp p).st = .standby then setRunning p s else s).fire.on = false := off_of_base (by split_ifs <;> simp) off
  unfold strikeWait
  extract_lets t
  split_ifs
  · refine motorOn_fireProof (set.seqOff off rfl ?_ rfl) off
    simp [Sequencer.guard, Function.comp_def]
    rfl
  · exact set

theorem completeStart_fireProof {k : StartKind} (h : FireProof s) (off : s.fire.on = false) :
    FireProof (completeStart p k s) := by
  have active : FireProof (setSound p.screen (soundOf p.side) (setRole p .active s)) := h.frame (by simp)
  unfold completeStart
  refine examineArming_fireProof (FireProof.frame (active.setSeq ?_) (notifyScreen_alarm _ _ _))
  exact Guard.safe_of_off off (fun closed => nomatch closed) (fun halted => nomatch halted)

/-- A start that goes on, unfrozen, says that the fire state is OFF. -/
theorem startStep_fireProof (h : FireProof s) : FireProof (startStep n s) := by
  unfold startStep runWait
  split
  next r start =>
    split
    · exact h
    next frozen =>
      have off : s.fire.on = false := h.off_of_start start (by simpa using frozen)
      split
      · exact strikeWait_fireProof h off
      · split_ifs
        · exact completeStart_fireProof h off
        · exact h
  · exact h

theorem recordStep_fireProof (h : FireProof s) : FireProof (recordStep n s) := by
  unfold recordStep
  split
  · exact h
  · dsimp only
    split
    · exact modRecord_fireProof h
    · exact modRecord_fireProof h
    · split_ifs
      · exact switchOver_fireProof h
      · exact h
    · exact h

theorem screenSteps_fireProof (h : FireProof s) : FireProof (screenSteps s) :=
  forEach_keeps _ _ FireProof (fun _ _ ht => recordStep_fireProof (startStep_fireProof (ht.frame (by simp)))) h

theorem settleBudget_fireProof {k : Nat} (h : FireProof s) : FireProof (settleBudget k s) := by
  induction k generalizing s with
  | zero => exact h
  | succ k ih =>
    have round := screenSteps_fireProof (examineBudget_fireProof h)
    unfold settleBudget
    dsimp only
    split_ifs
    · exact ih round
    · exact round

/-- The end of an event keeps a booth fire safe. -/
theorem settle_fireProof (h : FireProof s) : FireProof (settle s) := by
  have stepped := screenSteps_fireProof h
  have late : FireProof (lateStrikes (settleBudget 8 (screenSteps s))) :=
    (settleBudget_fireProof stepped).frame (lateStrikes_alarm _)
  have cleared {u : State} (hu : FireProof u) : FireProof (u.modBudget (fun b => { b with examine := false })) :=
    hu.frame (modBudget_alarm _ _ rfl)
  unfold settle
  extract_lets t
  split_ifs
  · exact (cleared late).frame (judgeLights_alarm _)
  · exact stepped.frame (judgeLights_alarm _)

theorem event_fireProof {f : State → State} (h : FireProof s) (hf : FireProof (f s)) : FireProof (event f s) := by
  unfold event
  split_ifs
  · exact settle_fireProof hf
  · exact h

end Sys2Proof.Machine

end

/-! # Proofs: booth fire itself, the orders and the clock keep a booth fire safe (O56) -/

section

namespace Sys2Proof.Machine

variable {s t : State} {p : Proj} {n : Screen}

/-! ## The Sequencers that booth fire leaves (R67, R141) -/

theorem dropped_startRec (q : Sequencer) : (q.dropped none).startRec = q.startRec := by
  unfold Sequencer.dropped
  split
  · rfl
  · split_ifs <;> rfl

/-- A halt freezes the start of a screen that is not CLOSED. -/
theorem putOut_freezes {q : Sequencer} {r : HaltReason} {x : Option Proj} (opened : q.showState ≠ .closed) :
    (q.putOut r x).guard.frozen ≠ some false := by
  have start : (q.putOut r x).startRec = (q.haltedOpen r x).startRec := dropped_startRec _
  have frozen : (q.haltedOpen r x).startRec = q.startRec.map (fun r => { r with frozen := true }) := by
    unfold Sequencer.haltedOpen Sequencer.halted
    rw [if_neg opened]
    dsimp only
    split_ifs <;> rfl
  show (q.putOut r x).startRec.map StartRec.frozen ≠ some false
  rw [start, frozen]
  exact frozen_map_ne _

/-- A Sequencer put out by fire is safe under a fire state that has come ON. -/
theorem Guard.Safe.putOut {on : Bool} {q : Sequencer} (h : q.guard.Safe on) (r : HaltReason) (x : Option Proj) :
    (q.putOut r x).guard.Safe true := by
  have safe : (q.putOut r x).guard.Safe on := (((h.haltedOpen r x).filmStopped .a).filmStopped .b).dropped none
  refine ⟨safe.closed, safe.halted, fun _ => putOut_motor, fun _ => (guard_unprepared _).2 putOut_changeover, fun _ => ?_,
    fun _ => ?_⟩
  · by_cases closed : q.showState = .closed
    · rw [safe.closed (putOut_of_closed closed)]
      exact nofun
    · exact putOut_freezes closed
  · by_cases closed : q.showState = .closed
    · exact Or.inl (putOut_of_closed closed)
    · exact Or.inr (Or.inl (putOut_of_open closed).1)

/-! ## The queue that booth fire leaves (R122, R141) -/

theorem dropEntry_absent {x : Proj} {es : List Entry} (absent : p ∉ es.map Entry.lamp) : p ∉ (dropEntry x es).map Entry.lamp :=
  fun found => absent ((List.filter_sublist.map _).subset found)

theorem withdrawRequest_absent (x : Proj) (absent : p ∉ queued s) : p ∉ queued (withdrawRequest x s) := by
  rw [queued, withdrawRequest_queue]
  exact dropEntry_absent absent

theorem quenchLamp_absent (x : Proj) (absent : p ∉ queued s) : p ∉ queued (quenchLamp x s) := by
  rw [queued]
  obtain same | dropped := quenchLamp_queue x s
  · rw [same]
    exact absent
  · rw [dropped]
    exact dropEntry_absent absent

theorem recordToNoneSparing_absent (n : Screen) (x : Option Side) (absent : p ∉ queued s) :
    p ∉ queued (recordToNoneSparing n x s) := by
  have undone (x : Proj) : p ∉ queued (undoIncoming x s) := by
    unfold undoIncoming queued setRole
    rw [modSeq_budget, motorOff_budget]
    exact quenchLamp_absent x (withdrawRequest_absent x absent)
  unfold recordToNoneSparing
  split
  · exact absent
  · dsimp only
    split_ifs
    · exact absent
    · exact undone _

theorem haltFire_absent (n : Screen) (absent : p ∉ queued s) : p ∉ queued (haltFire n s) := by
  refine recordToNoneSparing_absent n none ?_
  rw [queued, stopFilm_budget, stopFilm_budget, haltScreen_budget]
  exact absent

/-- Every lamp's request is withdrawn in its turn, and nothing of the booth fire makes one. -/
theorem boothFire_queued (s : State) : queued (boothFire s) = [] := by
  refine List.eq_nil_iff_forall_not_mem.2 (fun p => ?_)
  unfold boothFire
  dsimp only
  have held (u : State) : queued (setBoothHolder true u) = queued u := by
    rw [setBoothHolder_eq]
    rfl
  rw [held]
  refine forEach_keeps _ _ (fun t => p ∉ queued t) (fun n _ ht => haltFire_absent n ht) ?_
  exact forEach_brings (f := fireLamp) (P := fun t => p ∉ queued t)
    (fun t => quenchLamp_absent p (withdrawRequest_not_queued p t))
    (fun q _ ht => quenchLamp_absent q (withdrawRequest_absent q ht)) (mem_allProjs p) _

/-! ## Booth fire (R141, R142) -/

theorem boothFire_booth (s : State) (c : Circ) : ((boothFire s).circ c).fireBooth = true := by
  unfold boothFire
  dsimp only
  rw [setBoothHolder_circ]

theorem boothFire_fireProof (h : FireProof s) : FireProof (boothFire s) := by
  have on : (boothFire s).fire.on = true := congrArg FireUnit.on (boothFire_fire s)
  refine (fireProof_iff _).2 ⟨fun n => ?_, fun _ => ⟨boothFire_out s, boothFire_queued s, boothFire_booth s⟩⟩
  rw [on, boothFire_seq]
  exact (h.guard n).putOut .fire none

/-! ## Fire events (R139 to R151) -/

@[simp] theorem modSources_alarm (f : Sources → Sources) (s : State) : (modSources f s).alarm = s.alarm := rfl

@[simp] theorem modOpenEntry_alarm (f : FireEntry → FireEntry) (s : State) : (modOpenEntry f s).alarm = s.alarm := by
  refine modFire_alarm _ _ ?_
  split
  · split_ifs <;> rfl
  · rfl

@[simp] theorem recordSource_alarm (x : Source) (s : State) : (recordSource x s).alarm = s.alarm := by
  unfold recordSource
  dsimp only
  split <;> simp

theorem sourceRise_fireProof {x : Source} (h : FireProof s) : FireProof (sourceRise x s) := by
  unfold sourceRise
  dsimp only
  split_ifs
  · exact h
  · exact h.frame (by simp)
  · exact h.frame rfl
  · exact boothFire_fireProof (h.frame rfl)

theorem sourceFollows_fireProof {i : FireInput} {v : Bool} (h : FireProof s) : FireProof (sourceFollows i v s) := by
  unfold sourceFollows
  split_ifs
  · exact sourceRise_fireProof h
  · exact h.frame rfl

theorem flameRise_fireProof (h : FireProof s) : FireProof (flameRise p s) := by
  have quenched : FireProof (quenchLamp p (s.modFire (fun u => u.flameRises p))) :=
    quenchLamp_fireProof (h.frame (modFire_alarm _ _ rfl))
  exact haltLocalFire_fireProof (quenched.frame (by rw [notifyScreenAndHouse_alarm, setLocalHolder_alarm]))

theorem flameFall_alarm (p : Proj) (s : State) : (flameFall p s).alarm = s.alarm := by
  unfold flameFall
  dsimp only
  split_ifs <;> rfl

theorem upChange_fireProof {q : Port} {v : Bool} (h : FireProof s) : FireProof (upChange q v s) := by
  unfold upChange portDrops
  dsimp only
  split_ifs
  · exact h
  · split
    · split_ifs
      · exact haltFilm_fireProof (h.frame rfl)
      · exact h.frame rfl
    · exact h.frame rfl
  · exact h.frame rfl

theorem scanSamples_alarm (i : ScanInputs) (s : State) : (scanSamples i s).alarm = s.alarm :=
  forEach_frame _ _ State.alarm (fun _ t => modLamp_alarm t _ _ (by intro l; rfl)) s

theorem firstScan_fireProof {i : ScanInputs} (h : FireProof s) : FireProof (firstScan i s) := by
  have flames {t : State} (ht : FireProof t) : FireProof (scanFlames i t) :=
    forEach_keeps _ _ FireProof (fun _ _ hu => by split_ifs <;> [exact flameRise_fireProof hu; exact hu]) ht
  have sources {t : State} (ht : FireProof t) : FireProof (scanSources i t) := by
    unfold scanSources
    dsimp only
    split_ifs
    · exact forEach_keeps _ _ FireProof (fun _ _ hu => sourceFollows_fireProof hu) ht
    · exact boothFire_fireProof (ht.frame rfl)
    · exact ht.frame rfl
  exact sources (flames (h.frame (scanSamples_alarm _ _)))

/-! ## Film events (R22, R29, R31, R32, R35) -/

theorem everyCircuit_fireProof {f : Circuit → Circuit} (h : FireProof s) (same : ∀ x, (f x).fireBooth = x.fireBooth) :
    FireProof (everyCircuit f s) := h.frame (everyCircuit_alarm f s same)

theorem perforation_fireProof {d : Nat} (h : FireProof s) : FireProof (perforation p d s) := by
  unfold perforation frameEvent
  split_ifs
  · exact h.frame rfl
  · refine sequencerFrame_fireProof (everyCircuit_fireProof (h.frame ?_) (fun x => filmStep_fireBooth x p _))
    rw [channelFrame_alarm, modChan_alarm]

theorem cuePulse_fireProof (h : FireProof s) : FireProof (cuePulse p s) := by
  unfold cuePulse
  dsimp only
  split_ifs
  · exact h.frame rfl
  · exact recordPulse_fireProof (h.frame rfl)

theorem breakReached_fireProof (h : FireProof s) : FireProof (breakReached p s) := by
  unfold breakReached
  dsimp only
  split_ifs
  · exact onRunout_fireProof (h.frame (by simp))
  · exact onBreak_fireProof (h.frame (by simp))
  · exact h.frame rfl

theorem breakNow_fireProof (h : FireProof s) : FireProof (breakNow p s) := by
  unfold breakNow
  split_ifs
  · exact breakReached_fireProof (h.frame rfl)
  · exact h

theorem coastReached_alarm (p : Proj) (s : State) : (coastReached p s).alarm = s.alarm := by
  unfold coastReached
  split_ifs <;> simp

theorem coastNow_fireProof (h : FireProof s) : FireProof (coastNow p s) := by
  have reached {t : State} (ht : FireProof t) :
      FireProof (coastReached p (t.modChan p (fun c => { c with age := coastUnits }))) :=
    ht.frame (by rw [coastReached_alarm, modChan_alarm])
  unfold coastNow
  dsimp only
  split_ifs
  · exact reached (breakNow_fireProof h)
  · exact reached h
  · exact h

theorem runupReached_fireProof (h : FireProof s) : FireProof (runupReached p s) := by
  unfold runupReached
  split_ifs
  · exact onStall_fireProof (h.frame (by simp))
  · exact h

/-! ## Lamp events (R80 to R90) -/

theorem touchSample_fireProof {v : Nat} (h : FireProof s) : FireProof (touchSample p v s) := by
  have sampled : FireProof (s.modLamp p (fun l =>
      { l with lastCurrent := min 255 v, touchSamples := l.touchSamples + 1 })) := h.frame (by simp)
  unfold touchSample
  extract_lets t
  split_ifs
  · exact sampled.frame (by simp [t])
  · exact failAttempt_fireProof sampled
  · exact sampled.frame (touchFeed_alarm _ _)

theorem drawEnd_fireProof {v : Nat} (h : FireProof s) (off : s.fire.on = false) : FireProof (drawEnd p v s) := by
  have sampled : FireProof (s.modLamp p (fun l => { l with lastCurrent := min 255 v })) := h.frame (by simp)
  have lit := lightLamp_fireProof (p := p) sampled off
  unfold drawEnd
  dsimp only
  split_ifs
  · exact standbyInOverdraft_fireProof lit
  · exact lit
  · exact failAttempt_fireProof sampled

theorem litSample_fireProof {v : Nat} (h : FireProof s) (off : s.fire.on = false) : FireProof (litSample p v s) := by
  have sampled : FireProof (s.modLamp p (fun l =>
      { l with lastCurrent := min 255 v, lowCount := if v < 20 then l.lowCount + 1 else 0 })) := h.frame (by simp)
  unfold litSample
  extract_lets t
  split
  · exact arcOut_fireProof sampled off
  · exact sampled

/-- The end of quenching: QUEUED with its entry, which says that the fire state is OFF, or DARK without one (R90). -/
theorem quenchingEnds_fireProof (h : FireProof s) : FireProof (quenchingEnds p s) := by
  have ended : FireProof (s.modLamp p (fun l => { l with quenchingEnd := none })) := h.frame (by simp)
  unfold quenchingEnds
  extract_lets t
  split
  next entry =>
    have off : s.fire.on = false := h.off_of_entryOf entry
    exact askExamine_fireProof ((ended.lampOff off).budgetOff off)
  next => exact FireProof.frame (ended.setLamp (fun _ => rfl)) (notifyScreen_alarm _ _ _)

theorem forecastAfresh_fireProof (h : FireProof s) :
    FireProof (singleForecast p (s.modLamp p (fun l => { l with forecastTicks := 0 }))) := h.frame (by simp)

/-! ## Booth time (R166, R167) -/

theorem intervalStep_guard (q : Sequencer) : q.intervalStep.guard = q.guard := by
  unfold Sequencer.intervalStep
  split_ifs <;> rfl

theorem advanceBoothTime_alarm (s : State) : (advanceBoothTime s).alarm = s.alarm := by
  have guards : (s.seqs.map Sequencer.intervalStep).map Sequencer.guard = s.seqs.map Sequencer.guard := by
    simp [Quad.map, intervalStep_guard]
  unfold advanceBoothTime
  rw [everyCircuit_alarm _ _ timeStep_fireBooth]
  exact congrArg (fun x => { s.alarm with guards := x }) guards

theorem interval_of_due (h : intervalDue s n = true) : (s.seq n).showState = .interval := by
  simp only [intervalDue, Bool.and_eq_true, beq_iff_eq] at h
  exact h.1.1.1

theorem waitEnds_fireProof {c : Instr} (h : FireProof s) (due : isDue s c = true) : FireProof (waitEnds c s) := by
  unfold waitEnds
  split
  · exact expireInterval_fireProof h (interval_of_due due)
  · exact quenchLamp_fireProof h
  · exact quenchingEnds_fireProof h
  · exact askExamine_fireProof h
  · exact h.frame (lateStrike_alarm _ _)
  · exact h

theorem advanceWithWaits_fireProof (h : FireProof s) : FireProof (advanceWithWaits s) := by
  have advanced : FireProof (settle (advanceBoothTime s)) := settle_fireProof (h.frame (advanceBoothTime_alarm s))
  refine forEach_keeps _ _ FireProof (fun c t ht => ?_) advanced
  unfold takeWait
  split_ifs with due
  · exact settle_fireProof (waitEnds_fireProof ht due)
  · exact ht

end Sys2Proof.Machine

end

/-! # Proofs: the orders, the lines and the clock keep a booth fire safe (O56) -/

section

namespace Sys2Proof.Machine

variable {s t : State} {p : Proj} {n : Screen}

/-! ## The orders of the Reel Store (R4 to R19) -/

@[simp] theorem notifyEdit_alarm (owner : Screen) (p : Proj) (b : NoticeBody) (s : State) :
    (notifyEdit owner p b s).alarm = s.alarm := by
  unfold notifyEdit
  dsimp only
  split_ifs <;> rfl

theorem refreshContext_fireProof {k : Nat} {c : Context} {r : ReelRecord} (h : FireProof s) :
    FireProof (refreshContext p k c r s) := by
  unfold refreshContext
  refine examineArming_fireProof (h.frame ?_)
  rw [reviewCurrent_alarm, notifyEdit_alarm]
  split_ifs <;> rfl

theorem applyStoreReel_fireProof {l : Line} {k o : Nat} {f : ReelFields} (h : FireProof s) :
    FireProof (applyStoreReel l k o f s) := by
  unfold applyStoreReel editReaches markStale
  split
  · exact h
  next r _ =>
    have stored : FireProof (s.setReel k (some r)) := h.frame rfl
    dsimp only
    split
    · split
      · split
        · exact stored.frame (by rw [notifyEdit_alarm, setCtx_alarm])
        · exact refreshContext_fireProof stored
      · exact stored
    · exact stored

theorem applyStoreProgram_fireProof {k : Nat} {items : List RawItem} (h : FireProof s) :
    FireProof (applyStoreProgram k items s) := by
  unfold applyStoreProgram
  split
  next x new _ _ =>
    have listed : FireProof { s with programs := s.programs.set x new } := h.frame rfl
    dsimp only
    split_ifs
    · exact examineArming_fireProof (listed.frame (modSeq_alarm _ _ _ (fun _ => rfl)))
    · exact examineArming_fireProof listed
  · exact h

theorem applyThread_fireProof {k slot : Nat} (h : FireProof s) : FireProof (applyThread k slot s) := by
  have forecast {x : Proj} {t : State} (ht : FireProof t) : FireProof (threadForecast x t) := by
    unfold threadForecast
    split_ifs
    · exact ht.frame (singleForecast_alarm _ _)
    · exact warmChosen_fireProof (ht.frame (economyChoice_alarm _ _))
  unfold applyThread threadReel
  split
  next x r _ _ =>
    have dropped : FireProof (dropIncoming x s) := dropIncoming_fireProof h
    exact examineThreading_fireProof (forecast (dropped.frame (by simp)))
  · exact h

theorem applyUnthread_fireProof {k : Nat} (h : FireProof s) : FireProof (applyUnthread k s) := by
  unfold applyUnthread unthreadReel
  split
  · split
    · exact examineThreading_fireProof (emptyContext_fireProof h)
    · exact h
  · exact h

/-! ## The show orders (R43 to R45, R51, R64, R70) -/

theorem applyOpen_fireProof {k : Nat} (h : FireProof s) (check : checkOpen k s = none) : FireProof (applyOpen k s) := by
  unfold applyOpen openShow
  unfold checkOpen at check
  split
  next x code =>
    simp only [code] at check
    split_ifs at check with on
    have ready : FireProof (s.modSeq x (fun q => { q with pointer := 1, showState := .ready })) :=
      h.showOff (by simpa using on) nofun rfl
    exact ready.frame (programTakes_alarm _ _ _)
  · exact h

theorem applyStart_fireProof {k : Nat} (h : FireProof s) (check : checkStart k s = none) : FireProof (applyStart k s) := by
  unfold applyStart
  unfold checkStart at check
  split
  next x code =>
    simp only [code] at check
    split_ifs at check with on may
    split
    · refine beginStart_fireProof h (by simpa using on) (fun closed => may ?_)
      have closed : (s.seq x).showState = .closed := closed
      simp [mayStart, closed]
    · exact h
  · exact h

theorem cancelStart_fireProof (h : FireProof s) : FireProof (cancelStart n s) := by
  have cancelled {u : State} (hu : FireProof u) : FireProof (u.modSeq n (fun q => q.unstarted)) :=
    hu.setSeq (hu.guard n).unstarted
  unfold cancelStart
  split
  · exact cancelled (withdrawRequest_fireProof h)
  · exact cancelled h

theorem darkScreen_fireProof (h : FireProof s) : FireProof (darkScreen n s) :=
  motorOff_fireProof (motorOff_fireProof (h.frame (by simp)))

/-- The halt items none and both roles IDLE, on a screen that is ENDED, or CLOSED with no start (R44, R51). -/
theorem Guard.Safe.idled {on : Bool} {q : Sequencer} {x : Show} (h : q.guard.Safe on) (away : x = .closed ∨ x = .ended)
    (start : x = .closed → q.startRec = none) : (q.idled x).guard.Safe on := by
  refine ⟨fun closed => (guard_unstarted q).2 (start closed), nofun, h.motor, h.record, h.start, fun _ => ?_⟩
  exact away.imp_right Or.inr

@[simp] theorem notifyStopped_alarm (l : Line) (n : Screen) (s : State) : (notifyStopped l n s).alarm = s.alarm := by
  unfold notifyStopped
  split_ifs <;> rfl

theorem stopShow_fireProof {l : Line} (h : FireProof s) : FireProof (stopShow l n s) := by
  have out := quenchLamp_fireProof (p := ⟨n, .b⟩) (quenchLamp_fireProof (p := ⟨n, .a⟩)
    (recordToNone_fireProof (n := n) (cancelStart_fireProof (n := n) (darkScreen_fireProof (n := n) h))))
  exact FireProof.frame (out.setSeq ((out.guard n).idled (Or.inr rfl) nofun))
    (by rw [stopShow, notifyStopped_alarm, programTakes_alarm]; rfl)

/-- What CLOSE puts away before the screen becomes CLOSED (R44). -/
theorem closeShow_fireProof (h : FireProof s) : FireProof (closeShow n s) := by
  have dark : FireProof (darkScreen n (recordToNone n (cancelStart n s))) :=
    darkScreen_fireProof (recordToNone_fireProof (cancelStart_fireProof h))
  have judged : FireProof (judgeLights (removeClaims n .fault (removeClaims n .program
      (darkScreen n (recordToNone n (cancelStart n s)))))) := dark.frame (by simp)
  refine judged.setSeq ((judged.guard n).idled (Or.inl rfl) (fun _ => ?_))
  have closed : ((closeShow n s).seq n).startRec = none := by rw [closeShow_seq, if_pos rfl]; rfl
  rwa [closeShow, seq_modSeq, if_pos rfl] at closed

theorem swapRoles_fireProof {x : Side} (h : FireProof s) : FireProof (swapRoles n x s) := by
  have taken : FireProof (s.modSeq n (fun q => { q with pointer := q.pointer + 1, firstMissed := false })) :=
    h.frame (modSeq_alarm _ _ _ (fun _ => rfl))
  unfold swapRoles
  dsimp only
  split_ifs
  · exact taken.frame (setRole_alarm _ _ _)
  · exact (emptyContext_fireProof (p := ⟨n, x.other⟩) taken).frame (setRole_alarm _ _ _)
  · exact h

/-- A RESUME's start: the screen is HALTED and the fire state OFF. -/
theorem resumeReel_fireProof {x : Side} (h : FireProof s) (off : s.fire.on = false) (halted : (s.seq n).showState = .halted) :
    FireProof (resumeReel n x s) := by
  have cleared : FireProof (resumeCleared n x s) :=
    recordToNoneSparing_fireProof (swapRoles_fireProof (h.frame (removeClaims_alarm _ _ _)))
  have still : ((resumeCleared n x s).seq n).showState = .halted :=
    (congrArg Prod.fst (resumeCleared_place n x s)).trans halted
  have off : (channelResume ⟨n, x⟩ (resumeCleared n x s)).fire.on = false := off_of_base (by simp [resumeCleared]) off
  refine askRunning_fireProof (beginRecord_fireProof (cleared.frame (channelResume_alarm ⟨n, x⟩ _)) off ?_)
  rw [seq_of_seqs (channelResume_seqs _ _)]
  show ((resumeCleared n x s).seq n).showState ≠ .closed
  rw [still]
  exact nofun

/-- A RESUME without a restart projector shows the state halted from, which is never CLOSED. -/
theorem resumeState_fireProof (h : FireProof s) (off : s.fire.on = false) : FireProof (resumeState n s) := by
  have unclaimed : FireProof (removeClaims n .fault s) := h.frame (removeClaims_alarm _ _ _)
  refine examinePending_fireProof (unclaimed.setSeq (Guard.safe_of_off off (fun closed => ?_) nofun))
  have from_closed : ((removeClaims n .fault s).seq n).haltedFrom.getD .halted = .closed := closed
  have halted := (unclaimed.guard n).halted
  cases was : ((removeClaims n .fault s).seq n).haltedFrom with
  | none => simp [was] at from_closed
  | some x =>
    rw [was, Option.getD_some] at from_closed
    exact absurd (was.trans (congrArg some from_closed)) halted

theorem applyResume_fireProof {k : Nat} (h : FireProof s) (check : checkResume k s = none) : FireProof (applyResume k s) := by
  unfold applyResume
  unfold checkResume at check
  split
  next x code =>
    simp only [code] at check
    split_ifs at check with on state
    have off : s.fire.on = false := by
      simp only [Bool.or_eq_true, not_or, Bool.not_eq_true] at on
      exact on.1
    split
    · exact resumeReel_fireProof h off (by tauto)
    · exact resumeState_fireProof h off
  · exact h

/-- A changeover is prepared, so the fire state is OFF. -/
theorem applyChangeNow_fireProof {k : Nat} (h : FireProof s) : FireProof (applyChangeNow k s) := by
  unfold applyChangeNow switchByHand restartHeldMotor
  split
  next n _ =>
    split
    next r record =>
      have restarted : FireProof (motorOn ⟨n, r.incoming⟩ s) := motorOn_fireProof h (h.off_of_record record)
      split
      · exact switchOver_fireProof (modRecord_fireProof h)
      · dsimp only
        split_ifs
        · exact raiseRequest_fireProof (modRecord_fireProof restarted)
        · exact modRecord_fireProof restarted
    · exact h
  · exact h

/-! ## The lamp orders (R75, R79, R91, R93) -/

theorem applySetLamp_fireProof {k : Nat} {x : LampSettings} (h : FireProof s) : FireProof (applySetLamp k x s) := by
  unfold applySetLamp takeRunCurrent
  split
  next q _ =>
    have settled : FireProof (withStubCheck q (fun l => l.withSettings x) s) :=
      h.frame (withStubCheck_alarm _ _ _ (fun _ => rfl))
    split
    · dsimp only
      split_ifs
      · exact askExamine_fireProof (settled.frame (by simp))
      · exact settled.frame (by simp)
    · exact settled
  · exact h

theorem applyStrike_fireProof {k run : Nat} (h : FireProof s) : FireProof (applyStrike k run s) := by
  unfold applyStrike
  split
  · exact strikeRequest_fireProof h
  · exact h

theorem quenchByOrder_fireProof (h : FireProof s) : FireProof (quenchByOrder p s) := by
  have quenched : FireProof (quenchLamp p (withdrawRequest p s)) := quenchLamp_fireProof (withdrawRequest_fireProof h)
  unfold quenchByOrder
  dsimp only
  split_ifs
  · exact FireProof.frame (h.setLamp (fun _ => rfl)) (notifyScreen_alarm _ _ _)
  · exact quenched.frame (lampUnavailable_alarm p _)
  · exact quenched

theorem trimLamp_fireProof {k : Nat} (h : FireProof s) : FireProof (trimLamp p k s) := by
  have trimmed : FireProof (withStubCheck p (fun l => { l with carbon := k }) s) :=
    h.frame (withStubCheck_alarm _ _ _ (fun _ => rfl))
  unfold trimLamp
  split
  · exact warmChosen_fireProof (trimmed.frame (economyChoice_alarm _ _))
  · exact trimmed

/-! ## The orders of the budget (R108, R109, R120) -/

theorem applySetCapacity_fireProof {cap : Nat} (h : FireProof s) : FireProof (applySetCapacity cap s) := by
  have capped : FireProof (s.modBudget (fun b => { b with cap := cap })) := h.frame (modBudget_alarm _ _ rfl)
  unfold applySetCapacity enterOverdraft
  dsimp only
  split_ifs
  · exact askExamine_fireProof capped
  · refine askExamine_fireProof (overdraftReclaim_fireProof (capped.frame ?_))
    rw [notifyAll_alarm, modBudget_alarm _ _ rfl]
  · exact capped

theorem applySetSurge_fireProof {k : Nat} (h : FireProof s) : FireProof (applySetSurge k s) := by
  have set : FireProof (s.modBudget (fun b => { b with surge := k })) := h.frame (modBudget_alarm _ _ rfl)
  unfold applySetSurge
  dsimp only
  split_ifs
  · exact askExamine_fireProof set
  · exact set

theorem applySetReclaim_fireProof {k g : Nat} (h : FireProof s) : FireProof (applySetReclaim k g s) := by
  have set : FireProof (s.modBudget (fun b => { b with lead := k, gap := g, leadTaken := false })) :=
    h.frame (modBudget_alarm _ _ rfl)
  unfold applySetReclaim
  dsimp only
  split_ifs
  · exact askExamine_fireProof set
  · exact set

/-! ## The house orders (R38, R133 to R136, R143, R149) -/

theorem applyLights_alarm (k : Nat) (form : LightsForm) (s : State) : (applyLights k form s).alarm = s.alarm := by
  unfold applyLights
  split
  · exact forEach_frame _ _ State.alarm (fun m t => by unfold manualTakes; split <;> exact placeBoth_alarm _ _ _ _ _ _) s
  · rfl

theorem applyLightsRelease_alarm (k : Nat) (s : State) : (applyLightsRelease k s).alarm = s.alarm := by
  unfold applyLightsRelease
  split
  · exact forEach_frame _ _ State.alarm (fun m t => removeClaims_alarm m .manual t) s
  · rfl

theorem applySetRest_alarm (c k : Nat) (s : State) : (applySetRest c k s).alarm = s.alarm := by
  have rested (x : Circ) : (s.modCirc x (fun y => { y with rest := min 100 k })).alarm = s.alarm :=
    modCirc_alarm _ _ _ (fun _ => rfl)
  unfold applySetRest restTakes
  split
  · dsimp only
    split
    · rw [startFade_alarm, rested]
    · exact rested _
  · rfl

/-- The fire state OFF, the screens as they were. -/
theorem FireProof.cleared (h : FireProof s) (off : t.fire.on = false) (seqs : t.seqs = s.seqs) : FireProof t := by
  refine (fireProof_iff t).2 ⟨fun n => ?_, fun on => by simp [off] at on⟩
  rw [seq_of_seqs seqs]
  exact Guard.safe_of_off off (h.guard n).closed (h.guard n).halted

theorem applyClearFire_fireProof (h : FireProof s) : FireProof (applyClearFire s) := by
  unfold applyClearFire notifyCleared
  extract_lets t
  have off : t.fire.on = false :=
    congrArg Alarm.on (modOpenEntry_alarm _ (s.modFire (fun u => { u with on := false })))
  have seqs : t.seqs = s.seqs := rfl
  split
  · exact h.cleared (off_of_base (s := t) (by simp) off) (by simpa using seqs)
  · exact h.cleared (off_of_base (s := t) (by simp) off) (by simpa using seqs)

theorem applyRehang_fireProof {k : Nat} (h : FireProof s) : FireProof (applyRehang k s) := by
  unfold applyRehang
  split
  · exact h.frame (by rw [setLocalHolder_alarm, modFire_alarm _ _ rfl])
  · exact h

theorem persistenceReached_fireProof (h : FireProof s) : FireProof (persistenceReached p s) :=
  sourceRise_fireProof (h.frame (modFire_alarm _ _ rfl))

theorem applySetMotion_fireProof {m : MotionSettings} (h : FireProof s) : FireProof (applySetMotion m s) := by
  have replaced : FireProof { s with motionSettings := m } := h.frame rfl
  refine forEach_keeps _ _ FireProof (fun p t ht => ?_)
    (forEach_keeps _ _ FireProof (fun p t ht => ?_)
      (forEach_keeps _ _ FireProof (fun p t ht => ?_) replaced))
  · unfold persistenceMeets
    split
    · split_ifs
      · exact persistenceReached_fireProof ht
      · exact ht
    · exact ht
  · unfold gapMeets
    split_ifs
    · exact breakReached_fireProof ht
    · exact ht
  · unfold runupMeets
    split
    · split_ifs
      · exact runupReached_fireProof ht
      · exact ht
    · exact ht

/-! ## Taking an order (R156 to R158) -/

theorem applyOrder_fireProof {l : Line} {o : Order} (h : FireProof s) (check : checkOrder l o s = none) :
    FireProof (applyOrder l o s) := by
  cases o <;> dsimp only [applyOrder]
  case storeReel => exact applyStoreReel_fireProof h
  case storeProgram => exact applyStoreProgram_fireProof h
  case thread => exact applyThread_fireProof h
  case unthread => exact applyUnthread_fireProof h
  case openScreen => exact applyOpen_fireProof h check
  case start => exact applyStart_fireProof h check
  case stop => unfold applyStop; split <;> [exact stopShow_fireProof h; exact h]
  case close => unfold applyClose; split <;> [exact closeShow_fireProof h; exact h]
  case resume => exact applyResume_fireProof h check
  case changeNow => exact applyChangeNow_fireProof h
  case setLamp => exact applySetLamp_fireProof h
  case strike => exact applyStrike_fireProof h
  case quench => unfold applyQuench; split <;> [exact quenchByOrder_fireProof h; exact h]
  case trim => unfold applyTrim; split <;> [exact trimLamp_fireProof h; exact h]
  case setCapacity => exact applySetCapacity_fireProof h
  case setSurge => exact applySetSurge_fireProof h
  case setReclaim => exact applySetReclaim_fireProof h
  case lights => exact h.frame (applyLights_alarm _ _ _)
  case lightsRelease => exact h.frame (applyLightsRelease_alarm _ _)
  case setRest => exact h.frame (applySetRest_alarm _ _ _)
  case setMotion => exact applySetMotion_fireProof h
  case fireAssert => exact sourceRise_fireProof h
  case clearFire => exact applyClearFire_fireProof h
  case rehang => exact applyRehang_fireProof h
  case deleteReel | storeScene | setFloor | fireRelease | read | unknown | miscounted => exact h.frame rfl

theorem takeOrder_fireProof {l : Line} {o : Order} (h : FireProof s) : FireProof (takeOrder l o s) := by
  have replied (r : Reply) : FireProof (reply l r s) := h.frame rfl
  unfold takeOrder
  split
  · unfold takeRead clearOwnStatus
    split <;> try split_ifs
    all_goals exact h.frame rfl
  · dsimp only
    split_ifs with acts
    · exact applyOrder_fireProof (replied _) ((checkOrder_reply _ _ _ _ _).trans (checkOrder_of_acts acts))
    · exact replied _

theorem takeAll_fireProof {l : Line} (h : FireProof s) : FireProof (takeAll l s) := by
  have one {t : State} (ht : FireProof t) : FireProof (takeOne l t) := by
    unfold takeOne
    split
    · exact ht
    · split_ifs
      · exact settle_fireProof (takeOrder_fireProof (ht.frame rfl))
      · exact ht
  exact one (one h)

theorem arrive_fireProof {l : Line} {o : Order} (h : FireProof s) : FireProof (arrive l o s) := by
  unfold arrive
  split_ifs
  · exact takeAll_fireProof (h.frame rfl)
  · exact h.frame rfl
  · exact h

/-! ## The bytes of a line (R153 to R155, R161) -/

theorem frameTimeOut_alarm (l : Line) (s : State) : (frameTimeOut l s).alarm = s.alarm := by
  unfold frameTimeOut
  split <;> rfl

theorem gapTimeOut_alarm (l : Line) (s : State) : (gapTimeOut l s).alarm = s.alarm := by
  unfold gapTimeOut
  split <;> rfl

theorem byteFails_alarm (l : Line) (s : State) : (byteFails l s).alarm = s.alarm := by
  unfold byteFails
  split <;> rfl

theorem wholeFrame_fireProof {l : Line} {m : Option Partial} {got : List Byte} (h : FireProof s) :
    FireProof (wholeFrame l m got s) := by
  unfold wholeFrame soundFrame
  split_ifs
  · split
    · dsimp only
      split_ifs
      · exact h.frame rfl
      · exact h.frame rfl
      · exact arrive_fireProof (h.frame rfl)
    · exact h.frame rfl
  · exact h.frame rfl

theorem feedByte_fireProof {l : Line} {b : Byte} (h : FireProof s) : FireProof (feedByte l b s) := by
  unfold feedByte
  split
  · split_ifs <;> exact h.frame rfl
  · unfold frameByte
    split
    · exact h
    · split_ifs
      · exact h.frame rfl
      · exact h.frame rfl
      · exact wholeFrame_fireProof h
  · split_ifs <;> exact h.frame rfl

theorem feedBytes_fireProof {l : Line} {bytes : List Byte} (h : FireProof s) : FireProof (feedBytes l bytes s) := by
  unfold feedBytes
  induction bytes generalizing s with
  | nil => exact h
  | cons b bs ih => exact ih (feedByte_fireProof h)

theorem messageSent_fireProof {l : Line} (h : FireProof s) : FireProof (messageSent l s) := by
  unfold messageSent
  split
  · exact takeAll_fireProof (h.frame rfl)
  · exact h

theorem whileRunning_fireProof {f : State → State} (h : FireProof s) (hf : FireProof (f s)) :
    FireProof (whileRunning f s) := by
  unfold whileRunning
  split_ifs
  · exact hf
  · exact h

/-! ## The passing of time (R166, R168) -/

theorem channelLimits_fireProof (h : FireProof s) : FireProof (channelLimits p s) := by
  have coast {t : State} (ht : FireProof t) :
      FireProof (if (s.chan p).age = coastUnits then settle (coastNow p t) else t) := by
    split_ifs
    · exact settle_fireProof (coastNow_fireProof ht)
    · exact ht
  unfold channelLimits
  refine coast ?_
  split_ifs
  · exact settle_fireProof (breakNow_fireProof h)
  · exact h

theorem lineTick_alarm (l : Line) (s : State) : (lineTick l s).alarm = s.alarm := by
  unfold lineTick
  dsimp only
  split <;> try split_ifs
  all_goals simp [frameTimeOut_alarm, gapTimeOut_alarm]

theorem runupTick_fireProof (h : FireProof s) : FireProof (runupTick p s) := by
  unfold runupTick
  split
  · exact h
  · dsimp only
    split_ifs
    · exact settle_fireProof (runupReached_fireProof (h.frame rfl))
    · exact h.frame rfl

theorem persistTick_fireProof (h : FireProof s) : FireProof (persistTick p s) := by
  unfold persistTick
  split
  · exact h
  next k _ =>
    have counted : FireProof (s.modFire (fun u => u.setTimer p (some (k + 1)))) := h.frame (modFire_alarm _ _ rfl)
    dsimp only
    split_ifs
    · exact settle_fireProof (persistenceReached_fireProof counted)
    · exact counted

theorem strikeTick_fireProof (h : FireProof s) : FireProof (strikeTick p s) := by
  have counted : FireProof (s.modLamp p (fun l => { l with strikeTicks := l.strikeTicks + 1 })) := h.frame (by simp)
  unfold strikeTick
  extract_lets t
  split
  · exact settle_fireProof (beginAttempt_fireProof counted)
  · exact counted

theorem feedTick_fireProof (h : FireProof s) : FireProof (feedTick p s) := by
  have counted : FireProof (s.modLamp p (fun l => { l with feedTicks := l.feedTicks + 1 })) := h.frame (by simp)
  unfold feedTick
  extract_lets t
  split
  · exact settle_fireProof (counted.frame (feedInterval_alarm _ _))
  · exact counted

theorem forecastTick_fireProof (h : FireProof s) : FireProof (forecastTick p s) := by
  have counted : FireProof (s.modLamp p (fun l => { l with forecastTicks := l.forecastTicks + 1 })) := h.frame (by simp)
  unfold forecastTick
  extract_lets t
  split
  · exact settle_fireProof (forecastAfresh_fireProof counted)
  · exact counted

theorem lampTick_fireProof (h : FireProof s) : FireProof (lampTick p s) := by
  unfold lampTick
  split_ifs
  · exact forecastTick_fireProof (feedTick_fireProof h)
  · exact strikeTick_fireProof h
  · exact h

theorem boothTick_fireProof (h : FireProof s) : FireProof (boothTick s) := by
  have lined : FireProof (forEach Line.all lineTick { s with stampSub := 0 }) :=
    h.frame (forEach_frame _ _ State.alarm lineTick_alarm _)
  have timed := forEach_keeps Proj.all (fun p x => lampTick p (persistTick p (runupTick p x))) FireProof
    (fun _ _ ht => lampTick_fireProof (persistTick_fireProof (runupTick_fireProof ht))) lined
  have counted {t : State} (k : Nat) (ht : FireProof t) : FireProof { t with tickCount := k } := ht.frame rfl
  unfold boothTick
  dsimp only
  split_ifs
  · exact advanceWithWaits_fireProof timed
  · exact counted _ timed

theorem idle_fireProof (h : FireProof s) : FireProof (idle s) := by
  have limits : FireProof (forEach Proj.all channelLimits (stampAdvance s)) :=
    forEach_keeps _ _ FireProof (fun _ _ ht => channelLimits_fireProof ht) (h.frame rfl)
  unfold idle
  dsimp only
  split_ifs
  · exact boothTick_fireProof limits
  · exact limits
  · exact h

end Sys2Proof.Machine

end

/-! # Proofs: every step keeps a booth fire safe (O56)

The commands of the running controller keep `FireProof` by what their events do. A reset, or the loss of the store, leaves the
Sequencers at their reset values with the fire state OFF, or the alarm as it was. -/

section

namespace Sys2Proof.Machine

variable {s t : State}

/-! ## The commands of the running controller -/

theorem exec_fireProof {c : Instr} (hc : isSupplyCommand c = false) (h : FireProof s) :
    ∃ t, exec c s = .next t ∧ FireProof t := by
  have guarded {f : State → State} {g : State → Prop} [∀ t, Decidable (g t)] (hf : g s → FireProof (f s)) :
      FireProof (event (fun t => if g t then f t else t) s) :=
    event_fireProof h (by split_ifs with hg; exacts [hf hg, h])
  have struck {p : Proj} (st : (s.lamp p).st = .striking) : s.fire.on = false := h.off_of_lamp (p := p) (by rw [st]; rfl)
  cases ho : orderOfInstr c with
  | some lo => exact ⟨_, exec_order (l := lo.1) (o := lo.2) ho s, arrive_fireProof h⟩
  | none =>
    cases c <;> try (cases ho; done)
    all_goals try (cases hc; done)
    all_goals refine ⟨_, rfl, ?_⟩
    case frameReceived => exact whileRunning_fireProof h (feedBytes_fireProof h)
    case messageSent => exact whileRunning_fireProof h (messageSent_fireProof h)
    case frameTimeLimit => exact whileRunning_fireProof h (h.frame (frameTimeOut_alarm _ _))
    case gapTimeLimit => exact whileRunning_fireProof h (h.frame (gapTimeOut_alarm _ _))
    case byteError => exact whileRunning_fireProof h (h.frame (byteFails_alarm _ _))
    case lineBreak => exact whileRunning_fireProof h (h.frame rfl)
    case perforationPulse =>
      refine event_fireProof h ?_
      split
      · exact perforation_fireProof h
      · exact h
    case cuePulse => exact guarded (fun _ => cuePulse_fireProof h)
    case breakWindow => exact event_fireProof h (breakNow_fireProof h)
    case coastLimit => exact event_fireProof h (coastNow_fireProof h)
    case runupLimit => exact guarded (fun _ => runupReached_fireProof h)
    case intervalExpiry => exact guarded (fun due => expireInterval_fireProof h (interval_of_due due))
    case touchSample => exact guarded (fun _ => touchSample_fireProof h)
    case drawEnd => exact guarded (fun st => drawEnd_fireProof h (struck st.1))
    case coolOffEnd => exact guarded (fun _ => beginAttempt_fireProof h)
    case regulation => exact guarded (fun _ => h.frame (regulate_alarm _ _ _))
    case feedStep => exact guarded (fun _ => h.frame (feedInterval_alarm _ _))
    case currentSample => exact guarded (fun lit => litSample_fireProof h (h.off_of_lit lit))
    case quenchDue => exact guarded (fun _ => quenchLamp_fireProof h)
    case quenchingEnd => exact guarded (fun _ => quenchingEnds_fireProof h)
    case litIntervalForecast => exact guarded (fun _ => forecastAfresh_fireProof h)
    case leadPoint => exact guarded (fun _ => askExamine_fireProof h)
    case strikeLate => exact event_fireProof h (h.frame (lateStrike_alarm _ _))
    case boothTimeAdvance =>
      split_ifs
      · exact advanceWithWaits_fireProof h
      · exact h
    case fireSourceInput => exact event_fireProof h (sourceFollows_fireProof h)
    case gateFlameRise =>
      refine event_fireProof h ?_
      split_ifs
      · exact h
      · exact flameRise_fireProof h
    case gateFlameFall => exact guarded (fun _ => h.frame (flameFall_alarm _ _))
    case persistence => exact guarded (fun _ => persistenceReached_fireProof h)
    case upSwitchChange => exact event_fireProof h (upChange_fireProof h)
    case firstScan => exact guarded (fun _ => firstScan_fireProof h)

/-! ## Supplies and resets (R123, R169, R170) -/

theorem reset_guard_safe (on : Bool) : Sequencer.reset.guard.Safe on :=
  ⟨fun _ => rfl, nofun, fun _ => rfl, fun _ => rfl, fun _ => nofun, fun _ => Or.inl rfl⟩

theorem fireProof_of_reset (h : AtResetValues t) : FireProof t := by
  have off : t.fire.on = false := congrArg FireUnit.on h.fire
  refine (fireProof_iff t).2 ⟨fun n => ?_, fun on => by simp [off] at on⟩
  rw [h.seq]
  exact reset_guard_safe _

theorem storeLost_alarm (s : State) : s.storeLost.alarm = s.alarm := by
  simp [State.alarm, State.storeLost, queued, Quad.map, Pair.map, Duo.map]

/-- What a supply row may come to: the alarm as it was, or the reset values. -/
theorem exec_supply_alarm {c : Instr} (hc : isSupplyCommand c = true) (e : exec c s = .next t) :
    t.alarm = s.alarm ∨ AtResetValues t := by
  have restored (u : State) : AtResetValues (if u.storeValid then u.keptReset else u.powerOn) := by
    split_ifs
    · exact keptReset_atResetValues u
    · exact powerOn_atResetValues u
  cases c <;> try (cases hc; done)
  case sgoodFall vsb =>
    cases e
    unfold sgoodFalls
    split
    · exact Or.inl rfl
    · exact Or.inr ((resetValues_atResetValues _).retained _ _ _ _ _)
  case sgoodRise vsb =>
    cases e
    unfold sgoodRises
    split
    · exact Or.inl rfl
    · exact Or.inr ((restored _).retained _ _ _ _ _)
  case vsbLoss =>
    cases e
    unfold vsbLost
    split
    · exact Or.inl rfl
    · exact Or.inl (storeLost_alarm s)
  case panelReset =>
    cases e
    unfold resetRises
    split_ifs
    · exact Or.inl rfl
    · split
      · exact Or.inr ((keptReset_atResetValues s).retained _ _ _ _ _)
      · exact Or.inl rfl
  case resetFall =>
    cases e
    exact Or.inl rfl

/-! ## One step -/

theorem step_fireProof (h : FireProof s) (e : step s = .next t) : FireProof t := by
  unfold step at e
  split at e
  · cases e
    exact idle_fireProof h
  next c rest _ =>
    have start : FireProof { s with pending := rest } := h.frame rfl
    cases hc : isSupplyCommand c with
    | false =>
      obtain ⟨u, hu, kept⟩ := exec_fireProof hc start
      cases hu.symm.trans e
      exact kept
    | true =>
      obtain same | reset := exec_supply_alarm hc e
      · exact start.frame same
      · exact fireProof_of_reset reset

/-- Settles O56: `fireSafe` is `FireProof`, which a command of the running controller keeps event by event, and which a reset or the
loss of the store leaves. -/
theorem boothFireHolds : Obligations.BoothFireHolds :=
  fun _ _ safe e => fireSafe_of_fireProof (step_fireProof (fireProof_of_fireSafe safe) e)

end Sys2Proof.Machine

end

/-! # Proofs: the supplies (O57) -/

section

namespace Sys2Proof.Machine

/-! ## The retained items (R169, R170) -/

theorem sameStore_of_resetValues (s : State) (supply : Supply) (pin vsb valid : Bool) (record : List FireEntry) :
    sameStore s { s.resetValues with
      supply := supply, resetPin := pin, vsb := vsb, storeValid := valid,
      fire := { s.resetValues.fire with record := record } } := by
  refine ⟨rfl, rfl, rfl, rfl, rfl, rfl, fun p => ?_, fun c => ?_⟩
  · simp [State.lamp, State.resetValues, Lamp.reset]
  · simp [State.circ, State.resetValues, Circuit.reset]

/-- A store that is lost stands at its defaults, and so do the reset values over it. -/
theorem sameStore_of_lost (s : State) (supply : Supply) (vsb : Bool) :
    sameStore State.reset { s.powerOn with supply := supply, vsb := vsb } := by
  refine ⟨rfl, rfl, rfl, rfl, rfl, rfl, fun p => ?_, fun c => ?_⟩
  · simp [State.lamp, State.powerOn, State.resetValues, State.storeLost, Lamp.reset, State.reset]
  · simp [State.circ, State.powerOn, State.resetValues, State.storeLost, Circuit.reset, State.reset]

/-! ## The rows -/

section

variable {s : State}

theorem running_of_standby (h : s.supply = .standby) : s.running = false := by
  simp [State.running, h]

theorem running_of_resetPin (h : s.resetPin = true) : s.running = false := by
  cases supply : s.supply <;> simp [State.running, supply, h]

/-- SGOOD falls from RUN: the reset values, over the store with VSB and over the lost store without (R169). -/
theorem sgoodFalls_of_run (h : s.supply = .run) (vsb : Bool) : sgoodFalls vsb s =
    { (if vsb then s else s.storeLost).resetValues with supply := .standby, vsb := vsb } := by
  simp [sgoodFalls, h]

/-- SGOOD rises with VSB and the marker: a main restore (R170). -/
theorem sgoodRises_of_marker (h : s.supply = .standby) (marker : s.storeValid = true) :
    sgoodRises true s = { s.keptReset with supply := .run, vsb := true } := by
  simp [sgoodRises, h, marker]

/-- SGOOD rises without VSB or without the marker: a power-on (R170). -/
theorem sgoodRises_of_no_marker {vsb : Bool} (h : s.supply = .standby) (lost : vsb = false ∨ s.storeValid = false) :
    ∃ t : State, sgoodRises vsb s = { t.powerOn with supply := .run, vsb := vsb } := by
  cases vsb with
  | false => exact ⟨s.storeLost, by simp [sgoodRises, h, State.storeLost]⟩
  | true => exact ⟨s, by simp [sgoodRises, h, lost.resolve_left (by decide)]⟩

theorem vsbLost_of_run (h : s.supply = .run) : vsbLost s = { s with vsb := false, storeValid := false } := by
  simp [vsbLost, h]

theorem vsbLost_of_standby (h : s.supply = .standby) : vsbLost s = { s.storeLost with vsb := false } := by
  simp [vsbLost, h]

/-- RESET rises in RUN: a panel reset, held (R170). -/
theorem resetRises_of_run (h : s.supply = .run) (low : s.resetPin = false) :
    resetRises s = { s.keptReset with resetPin := true } := by
  simp [resetRises, h, low]

theorem resetRises_of_no_reset (h : s.supply = .standby ∨ s.resetPin = true) : resetRises s = { s with resetPin := true } := by
  by_cases high : s.resetPin = true
  · simp [resetRises, high]
    rw [← high]
  · simp [resetRises, high, h.resolve_right high]

end

/-- Settles O57: each row ends as its branch says, and what of that is retained is read off. -/
theorem suppliesAndResets : Obligations.SuppliesAndResets := by
  intro s
  refine ⟨fun run vsb => ?_, fun standby vsb => ?_, fun run => ?_, fun standby => ?_, fun run low => ?_, fun no => ?_, rfl⟩
  · refine ⟨_, congrArg Host.Outcome.next (sgoodFalls_of_run run vsb), rfl, rfl, running_of_standby rfl, fun kept => ?_, fun lost => ?_⟩
    · subst kept
      exact ⟨sameStore_of_resetValues s _ _ _ _ _, rfl, rfl⟩
    · subst lost
      rfl
  · by_cases marker : vsb = true ∧ s.storeValid = true
    · obtain ⟨rfl, valid⟩ := marker
      refine ⟨_, congrArg Host.Outcome.next (sgoodRises_of_marker standby valid), rfl, rfl, valid,
        fun _ _ => ⟨sameStore_of_resetValues s _ _ _ _ _, rfl⟩, fun lost => ?_⟩
      simp [valid] at lost
    · have lost : vsb = false ∨ s.storeValid = false := by
        simpa only [not_and_or, Bool.not_eq_true] using marker
      obtain ⟨t, rises⟩ := sgoodRises_of_no_marker standby lost
      exact ⟨_, congrArg Host.Outcome.next rises, rfl, rfl, rfl, fun kept valid => absurd ⟨kept, valid⟩ marker,
        fun _ => ⟨sameStore_of_lost t _ _, rfl⟩⟩
  · exact congrArg Host.Outcome.next (vsbLost_of_run run)
  · exact ⟨_, congrArg Host.Outcome.next (vsbLost_of_standby standby), standby, rfl, rfl⟩
  · exact ⟨_, congrArg Host.Outcome.next (resetRises_of_run run low), rfl, running_of_resetPin rfl, rfl,
      sameStore_of_resetValues s _ _ _ _ _, rfl, rfl, rfl⟩
  · exact congrArg Host.Outcome.next (resetRises_of_no_reset no)

end Sys2Proof.Machine

end

/-! # Proofs: what sends nothing on a line

Notices and replies are all that the blocks write on a line. The lights, the channels, the quenches and requests of lamps, and
what a Sequencer writes of its own record leave the lines as they are, so the queues are within their sizes after just as before. -/

section

namespace Sys2Proof.Machine

theorem forEach_linesOk_iff {α : Type} (names : List α) (f : α → State → State)
    (h : ∀ x t, linesOk (f x t) ↔ linesOk t) (s : State) : linesOk (forEach names f s) ↔ linesOk s :=
  Iff.of_eq (forEach_frame names f linesOk (fun x t => propext (h x t)) s)

/-! ## The updates -/

@[simp] theorem modLamp_linesOk_iff (p : Proj) (f : Lamp → Lamp) (s : State) : linesOk (s.modLamp p f) ↔ linesOk s := ⟨id, id⟩

@[simp] theorem modChan_linesOk_iff (p : Proj) (f : Channel → Channel) (s : State) : linesOk (s.modChan p f) ↔ linesOk s := ⟨id, id⟩

@[simp] theorem setCtx_linesOk_iff (p : Proj) (v : Option Context) (s : State) : linesOk (s.setCtx p v) ↔ linesOk s := ⟨id, id⟩

@[simp] theorem modSeq_linesOk_iff (n : Screen) (f : Sequencer → Sequencer) (s : State) : linesOk (s.modSeq n f) ↔ linesOk s :=
  ⟨id, id⟩

@[simp] theorem modCirc_linesOk_iff (c : Circ) (f : Circuit → Circuit) (s : State) : linesOk (s.modCirc c f) ↔ linesOk s := ⟨id, id⟩

@[simp] theorem modBudget_linesOk_iff (f : Budget → Budget) (s : State) : linesOk (s.modBudget f) ↔ linesOk s := ⟨id, id⟩

@[simp] theorem modFire_linesOk_iff (f : FireUnit → FireUnit) (s : State) : linesOk (s.modFire f) ↔ linesOk s := ⟨id, id⟩

/-! ## Lights and channels -/

@[simp] theorem everyCircuit_linesOk_iff (f : Circuit → Circuit) (s : State) : linesOk (everyCircuit f s) ↔ linesOk s := ⟨id, id⟩

@[simp] theorem placeBoth_linesOk_iff (n : Screen) (w : Winner) (h a : Nat) (d : FadeDesc) (s : State) :
    linesOk (placeBoth n w h a d s) ↔ linesOk s := ⟨id, id⟩

@[simp] theorem programTakes_linesOk_iff (n : Screen) (k : Nat) (s : State) : linesOk (programTakes n k s) ↔ linesOk s := ⟨id, id⟩

@[simp] theorem faultTakes_linesOk_iff (n : Screen) (s : State) : linesOk (faultTakes n s) ↔ linesOk s := ⟨id, id⟩

@[simp] theorem removeClaims_linesOk_iff (n : Screen) (w : Winner) (s : State) : linesOk (removeClaims n w s) ↔ linesOk s := ⟨id, id⟩

@[simp] theorem setLocalHolder_linesOk_iff (v : Bool) (n : Screen) (s : State) : linesOk (setLocalHolder v n s) ↔ linesOk s := ⟨id, id⟩

@[simp] theorem setBoothHolder_linesOk_iff (v : Bool) (s : State) : linesOk (setBoothHolder v s) ↔ linesOk s :=
  forEach_linesOk_iff _ _ (fun _ _ => modCirc_linesOk_iff _ _ _) s

@[simp] theorem startFade_linesOk_iff (c : Circ) (s : State) : linesOk (startFade c s) ↔ linesOk s := by
  unfold startFade
  dsimp only
  split <;> simp

@[simp] theorem judgeLights_linesOk_iff (s : State) : linesOk (judgeLights s) ↔ linesOk s :=
  forEach_linesOk_iff _ _ (fun c t => by
    unfold judgeCircuit
    rw [modCirc_linesOk_iff]
    split_ifs
    · exact startFade_linesOk_iff c t
    · rfl) s

@[simp] theorem lightMarks_linesOk_iff (p : Proj) (s : State) : linesOk (lightMarks p s) ↔ linesOk s := by
  unfold lightMarks
  split
  · exact forEach_linesOk_iff _ _ (fun m t => by unfold actOnMark; split <;> exact placeBoth_linesOk_iff _ _ _ _ _ t) s
  · rfl

@[simp] theorem clearRing_linesOk_iff (p : Proj) (s : State) : linesOk (clearRing p s) ↔ linesOk s := ⟨id, id⟩

@[simp] theorem setMotion_linesOk_iff (p : Proj) (m : Motion) (s : State) : linesOk (setMotion p m s) ↔ linesOk s := by
  unfold setMotion
  dsimp only
  split_ifs <;> simp

@[simp] theorem motorOn_linesOk_iff (p : Proj) (s : State) : linesOk (motorOn p s) ↔ linesOk s := by
  unfold motorOn
  dsimp only
  split_ifs <;> simp

@[simp] theorem motorOff_linesOk_iff (p : Proj) (s : State) : linesOk (motorOff p s) ↔ linesOk s := by
  unfold motorOff
  dsimp only
  split_ifs <;> simp

@[simp] theorem channelFrame_linesOk_iff (p : Proj) (s : State) : linesOk (channelFrame p s) ↔ linesOk s := by
  have recomputed (t : State) : linesOk (examineMotion p t) ↔ linesOk t := by
    unfold examineMotion
    split
    · rfl
    · dsimp only
      split_ifs <;> simp
  unfold channelFrame
  dsimp only
  split_ifs <;> simp [recomputed]

@[simp] theorem channelThread_linesOk_iff (p : Proj) (s : State) : linesOk (channelThread p s) ↔ linesOk s := setMotion_linesOk_iff _ _ _

@[simp] theorem channelUnthread_linesOk_iff (p : Proj) (s : State) : linesOk (channelUnthread p s) ↔ linesOk s := setMotion_linesOk_iff _ _ _

@[simp] theorem channelResume_linesOk_iff (p : Proj) (s : State) : linesOk (channelResume p s) ↔ linesOk s := by
  unfold channelResume
  split <;> simp

/-! ## Lamps and their requests -/

@[simp] theorem askExamine_linesOk_iff (s : State) : linesOk (askExamine s) ↔ linesOk s := ⟨id, id⟩

@[simp] theorem newEntry_linesOk_iff (p : Proj) (d : BoothTime) (held : Bool) (s : State) : linesOk (newEntry p d held s) ↔ linesOk s := ⟨id, id⟩

@[simp] theorem budgetRequest_linesOk_iff (p : Proj) (d : BoothTime) (s : State) : linesOk (budgetRequest p d s) ↔ linesOk s := by
  unfold budgetRequest
  split_ifs
  · rfl
  · split
    · rfl
    · split_ifs <;> simp

@[simp] theorem withdrawRequest_linesOk_iff (p : Proj) (s : State) : linesOk (withdrawRequest p s) ↔ linesOk s := by
  unfold withdrawRequest withdrawEntry
  split
  · rfl
  · dsimp only
    split_ifs <;> simp

@[simp] theorem quenchLamp_linesOk_iff (p : Proj) (s : State) : linesOk (quenchLamp p s) ↔ linesOk s := by
  unfold quenchLamp
  split <;> simp

@[simp] theorem delayedQuench_linesOk_iff (p : Proj) (s : State) : linesOk (delayedQuench p s) ↔ linesOk s := by
  unfold delayedQuench
  split <;> try split_ifs
  all_goals simp

@[simp] theorem setRunning_linesOk_iff (p : Proj) (s : State) : linesOk (setRunning p s) ↔ linesOk s := by
  unfold setRunning
  split <;> simp

@[simp] theorem strikeRequest_linesOk_iff (p : Proj) (x : Target) (d : BoothTime) (s : State) :
    linesOk (strikeRequest p x d s) ↔ linesOk s := by
  unfold strikeRequest
  by_cases on : s.fire.on
  · rw [if_pos on]
  · rw [if_neg on]
    split <;> try split_ifs
    all_goals simp

/-! ## Sequencers -/

@[simp] theorem modRecord_linesOk_iff (n : Screen) (f : Changeover → Changeover) (s : State) : linesOk (modRecord n f s) ↔ linesOk s := ⟨id, id⟩

@[simp] theorem setRole_linesOk_iff (p : Proj) (r : Role) (s : State) : linesOk (setRole p r s) ↔ linesOk s := ⟨id, id⟩

@[simp] theorem setDemand_linesOk_iff (p : Proj) (d : Demand) (s : State) : linesOk (setDemand p d s) ↔ linesOk s := ⟨id, id⟩

@[simp] theorem demandOnly_linesOk_iff (p : Proj) (s : State) : linesOk (demandOnly p s) ↔ linesOk s := ⟨id, id⟩

@[simp] theorem setSound_linesOk_iff (n : Screen) (x : Sound) (s : State) : linesOk (setSound n x s) ↔ linesOk s := ⟨id, id⟩

@[simp] theorem commit_linesOk_iff (p : Proj) (s : State) : linesOk (commit p s) ↔ linesOk s := by
  unfold commit
  split <;> simp

@[simp] theorem recordToNoneSparing_linesOk_iff (n : Screen) (spare : Option Side) (s : State) :
    linesOk (recordToNoneSparing n spare s) ↔ linesOk s := by
  unfold recordToNoneSparing undoIncoming
  split
  · rfl
  · dsimp only
    split_ifs <;> simp

@[simp] theorem recordToNone_linesOk_iff (n : Screen) (s : State) : linesOk (recordToNone n s) ↔ linesOk s :=
  recordToNoneSparing_linesOk_iff _ _ _

@[simp] theorem dropIncoming_linesOk_iff (p : Proj) (s : State) : linesOk (dropIncoming p s) ↔ linesOk s := by
  unfold dropIncoming
  split_ifs <;> simp

@[simp] theorem stopFilm_linesOk_iff (p : Proj) (s : State) : linesOk (stopFilm p s) ↔ linesOk s := by
  unfold stopFilm
  dsimp only
  split_ifs
  · split <;> simp
  · rfl

@[simp] theorem beginRecord_linesOk_iff (p : Proj) (k : StartKind) (s : State) : linesOk (beginRecord p k s) ↔ linesOk s :=
  commit_linesOk_iff _ _

@[simp] theorem closing_linesOk_iff (p : Proj) (s : State) : linesOk (closing p s) ↔ linesOk s := by
  simp [closing]

@[simp] theorem endSwitched_linesOk_iff (n : Screen) (s : State) : linesOk (endSwitched n s) ↔ linesOk s := by
  unfold endSwitched
  split
  · split_ifs <;> simp
  · rfl

@[simp] theorem pulseChecked_linesOk_iff (n : Screen) (r : Changeover) (w k : Nat) (s : State) :
    linesOk (pulseChecked n r w k s) ↔ linesOk s := by
  unfold pulseChecked
  dsimp only
  split_ifs <;> simp

@[simp] theorem examinePair_linesOk_iff (p : Proj) (s : State) : linesOk (examinePair p s) ↔ linesOk s := by
  unfold examinePair
  split
  · split_ifs <;> simp
  · rfl

@[simp] theorem onLit_linesOk_iff (p : Proj) (s : State) : linesOk (onLit p s) ↔ linesOk s := by
  unfold onLit
  split_ifs <;> simp

@[simp] theorem onArcOut_linesOk_iff (p : Proj) (running : Bool) (s : State) : linesOk (onArcOut p running s) ↔ linesOk s := by
  unfold onArcOut
  dsimp only
  split_ifs <;> simp

@[simp] theorem onReclaim_linesOk_iff (p : Proj) (s : State) : linesOk (onReclaim p s) ↔ linesOk s := by
  unfold onReclaim
  split_ifs <;> simp

@[simp] theorem relight_linesOk_iff (p : Proj) (s : State) : linesOk (relight p s) ↔ linesOk s := by
  unfold relight
  split_ifs <;> simp

@[simp] theorem strikeWait_linesOk_iff (p : Proj) (s : State) : linesOk (strikeWait p s) ↔ linesOk s := by
  unfold strikeWait
  dsimp only
  split_ifs <;> simp

@[simp] theorem markLead_linesOk_iff (s : State) : linesOk (markLead s) ↔ linesOk s := ⟨id, id⟩

@[simp] theorem advanceBoothTime_linesOk_iff (s : State) : linesOk (advanceBoothTime s) ↔ linesOk s := ⟨id, id⟩

/-! ## What a fire and an order write beside their notices -/

@[simp] theorem modSources_linesOk_iff (f : Sources → Sources) (s : State) : linesOk (modSources f s) ↔ linesOk s := ⟨id, id⟩

@[simp] theorem modOpenEntry_linesOk_iff (f : FireEntry → FireEntry) (s : State) : linesOk (modOpenEntry f s) ↔ linesOk s := ⟨id, id⟩

@[simp] theorem fireLamp_linesOk_iff (p : Proj) (s : State) : linesOk (fireLamp p s) ↔ linesOk s := by
  simp [fireLamp]

@[simp] theorem flameFall_linesOk_iff (p : Proj) (s : State) : linesOk (flameFall p s) ↔ linesOk s := by
  unfold flameFall sourceFall
  dsimp only
  split_ifs <;> simp

@[simp] theorem coastReached_linesOk_iff (p : Proj) (s : State) : linesOk (coastReached p s) ↔ linesOk s := by
  unfold coastReached
  split_ifs <;> simp

@[simp] theorem darkScreen_linesOk_iff (n : Screen) (s : State) : linesOk (darkScreen n s) ↔ linesOk s := by
  simp [darkScreen]

@[simp] theorem cancelStart_linesOk_iff (n : Screen) (s : State) : linesOk (cancelStart n s) ↔ linesOk s := by
  unfold cancelStart
  dsimp only
  split <;> simp

@[simp] theorem closeShow_linesOk_iff (n : Screen) (s : State) : linesOk (closeShow n s) ↔ linesOk s := by
  simp [closeShow]

@[simp] theorem takeRunCurrent_linesOk_iff (p : Proj) (k : Nat) (s : State) : linesOk (takeRunCurrent p k s) ↔ linesOk s := by
  unfold takeRunCurrent
  dsimp only
  split
  · split_ifs <;> simp
  · rfl

@[simp] theorem manualTakes_linesOk_iff (f : LightsForm) (n : Screen) (s : State) : linesOk (manualTakes f n s) ↔ linesOk s := by
  unfold manualTakes
  split <;> simp

@[simp] theorem restTakes_linesOk_iff (c : Circ) (k : Nat) (s : State) : linesOk (restTakes c k s) ↔ linesOk s := by
  unfold restTakes
  dsimp only
  split <;> simp

end Sys2Proof.Machine

end

/-! # Proofs: the end of an event keeps every queue within its size (R156, R158, R159)

A notice and a reply keep each queue within its size, so every operation that writes on the lines by them alone does. -/

section

namespace Sys2Proof.Machine

variable {s : State} {p : Proj} {n : Screen}

/-! ## Notices and replies -/

@[simp] theorem notifyScreen_linesOk (b : NoticeBody) (h : linesOk s) : linesOk (notifyScreen n b s) := notify_linesOk _ _ _ h

@[simp] theorem notifyScreenAndHouse_linesOk (b : NoticeBody) (h : linesOk s) : linesOk (notifyScreenAndHouse n b s) :=
  notify_linesOk _ _ _ (notify_linesOk _ _ _ h)

@[simp] theorem notifyAll_linesOk (b : NoticeBody) (h : linesOk s) : linesOk (notifyAll b s) :=
  forEach_keeps _ _ linesOk (fun l t ht => notify_linesOk l b t ht) h

/-! ## Lamps and forecasts -/

@[simp] theorem reviewCurrent_linesOk (h : linesOk s) : linesOk (reviewCurrent p s) := by
  unfold reviewCurrent
  dsimp only
  split
  · split_ifs <;> simp [h]
  · exact h

@[simp] theorem withStubCheck_linesOk (f : Lamp → Lamp) (h : linesOk s) : linesOk (withStubCheck p f s) := by
  unfold withStubCheck
  dsimp only
  split_ifs <;> simp [h]

@[simp] theorem keepForecast_linesOk (f : Forecast) (h : linesOk s) : linesOk (keepForecast p f s) := by
  unfold keepForecast
  dsimp only
  split <;> simp [h]

@[simp] theorem singleForecast_linesOk (h : linesOk s) : linesOk (singleForecast p s) := by
  unfold singleForecast
  split <;> simp [h]

@[simp] theorem economyChoice_linesOk (h : linesOk s) : linesOk (economyChoice p s) := by
  unfold economyChoice chooseWarm
  split
  · simp [h]
  · dsimp only
    split_ifs <;> simp [h]

/-! ## Requests and the changeover record -/

@[simp] theorem lampUnavailable_linesOk (h : linesOk s) : linesOk (lampUnavailable p s) := by
  unfold lampUnavailable
  dsimp only
  split_ifs
  · simp [h]
  · split
    · split_ifs <;> simp [h]
    · exact h

@[simp] theorem raiseRequest_linesOk (x : Target) (d : BoothTime) (h : linesOk s) : linesOk (raiseRequest p x d s) := by
  unfold raiseRequest
  split_ifs <;> simp [h]

@[simp] theorem askRunning_linesOk (h : linesOk s) : linesOk (askRunning p s) := by
  unfold askRunning
  split <;> simp [h]

@[simp] theorem strikeAction_linesOk (h : linesOk s) : linesOk (strikeAction n s) := by
  unfold strikeAction
  split
  · exact h
  · dsimp only
    split <;> try split_ifs
    all_goals simp [h]

@[simp] theorem strikeIfReached_linesOk (h : linesOk s) : linesOk (strikeIfReached n s) := by
  unfold strikeIfReached
  split
  · split_ifs <;> simp [h]
  · exact h

@[simp] theorem warmChosen_linesOk (h : linesOk s) : linesOk (warmChosen p s) := by
  unfold warmChosen
  split
  · split_ifs <;> simp [h]
  · exact h

@[simp] theorem takeMotorCue_linesOk (take : CueTake) (h : linesOk s) : linesOk (takeMotorCue n take s) := by
  unfold takeMotorCue
  dsimp only
  split
  · simp [h]
  · split_ifs <;> simp [h]

@[simp] theorem examineArming_linesOk (h : linesOk s) : linesOk (examineArming n s) := by
  unfold examineArming
  split
  · exact h
  · dsimp only
    split_ifs <;> simp [h]

@[simp] theorem switchOver_linesOk (late : Bool) (h : linesOk s) : linesOk (switchOver n late s) := by
  unfold switchOver
  split <;> simp [h]

@[simp] theorem takeChangeCue_linesOk (take : CueTake) (h : linesOk s) : linesOk (takeChangeCue n take s) := by
  unfold takeChangeCue
  dsimp only
  split
  · simp [h]
  · split <;> simp [h]

@[simp] theorem motorCueByCount_linesOk (h : linesOk s) : linesOk (motorCueByCount n p s) := by
  unfold motorCueByCount
  split
  · split_ifs <;> simp [h]
  · exact h

@[simp] theorem changeCueByCount_linesOk (h : linesOk s) : linesOk (changeCueByCount n p s) := by
  unfold changeCueByCount
  split
  · split_ifs <;> simp [h]
  · exact h

@[simp] theorem motorCheck_linesOk (h : linesOk s) : linesOk (motorCheck n p s) := by
  unfold motorCheck
  split
  · dsimp only
    split_ifs <;> simp [h]
  · exact h

@[simp] theorem changeCheck_linesOk (h : linesOk s) : linesOk (changeCheck n p s) := by
  unfold changeCheck
  split
  · dsimp only
    split_ifs <;> simp [h]
  · exact h

@[simp] theorem recordFrame_linesOk (h : linesOk s) : linesOk (recordFrame n p s) := by
  unfold recordFrame
  split
  · split_ifs
    · simp [h]
    · exact changeCheck_linesOk (changeCueByCount_linesOk (motorCheck_linesOk (motorCueByCount_linesOk (strikeIfReached_linesOk h))))
    · exact h
  · exact h

@[simp] theorem recordPulse_linesOk (k : Nat) (h : linesOk s) : linesOk (recordPulse p k s) := by
  have sensed (m : Screen) (r : Changeover) (w : Nat) : linesOk (pulseSense m r w k s) := by
    unfold pulseSense
    split_ifs <;> simp [h]
  unfold recordPulse
  split
  · split_ifs
    · dsimp only
      split <;> try split_ifs
      all_goals simp [h, sensed]
    · exact h
  · exact h

/-! ## Halts -/

@[simp] theorem haltScreen_linesOk (r : HaltReason) (x : Option Proj) (h : linesOk s) : linesOk (haltScreen n r x s) := by
  unfold haltScreen
  split_ifs <;> simp [h]

@[simp] theorem haltFilm_linesOk (r : HaltReason) (h : linesOk s) : linesOk (haltFilm r p s) := by
  unfold haltFilm
  split_ifs <;> simp [h]

@[simp] theorem haltLamp_linesOk (r : HaltReason) (h : linesOk s) : linesOk (haltLamp r p s) := by
  unfold haltLamp
  dsimp only
  split_ifs
  · exact h
  · split <;> simp [h]

@[simp] theorem haltFire_linesOk (h : linesOk s) : linesOk (haltFire n s) := by
  simp [haltFire, h]

@[simp] theorem haltLocalFire_linesOk (h : linesOk s) : linesOk (haltLocalFire p s) := by
  unfold haltLocalFire
  dsimp only
  split_ifs
  · exact h
  · split <;> try split_ifs
    all_goals simp [h]

@[simp] theorem haltMissed_linesOk (h : linesOk s) : linesOk (haltMissed p s) := by
  simp [haltMissed, h]

/-! ## Starts and the end of a reel -/

@[simp] theorem emptyContext_linesOk (h : linesOk s) : linesOk (emptyContext p s) := by
  unfold emptyContext
  split <;> simp [h]

@[simp] theorem beginStart_linesOk (k : StartKind) (h : linesOk s) : linesOk (beginStart p k s) := by
  unfold beginStart
  dsimp only
  split_ifs <;> simp [h]

@[simp] theorem examinePending_linesOk (h : linesOk s) : linesOk (examinePending n s) := by
  unfold examinePending
  split_ifs
  · split <;> simp [h]
  · exact h

@[simp] theorem examineThreading_linesOk (h : linesOk s) : linesOk (examineThreading n s) :=
  examinePending_linesOk (examineArming_linesOk h)

@[simp] theorem expireInterval_linesOk (h : linesOk s) : linesOk (expireInterval n s) := by
  unfold expireInterval
  split
  · simp [h]
  · dsimp only
    split <;> simp [h]

@[simp] theorem reelEnds_linesOk (h : linesOk s) : linesOk (reelEnds p s) := by
  unfold reelEnds
  dsimp only
  split <;> simp [h]

@[simp] theorem endIfReached_linesOk (h : linesOk s) : linesOk (endIfReached p s) := by
  unfold endIfReached
  split
  · split_ifs <;> simp [h]
  · exact h

@[simp] theorem sequencerFrame_linesOk (h : linesOk s) : linesOk (sequencerFrame p s) := by
  unfold sequencerFrame
  dsimp only
  split <;> try split_ifs
  all_goals simp [h]

/-! ## What the Sequencer does with the events of channels and lamps -/

@[simp] theorem incomingFault_linesOk (f : IncomingFault) (h : linesOk s) : linesOk (incomingFault p f s) := by
  unfold incomingFault
  split
  · split_ifs
    · exact h
    · split <;> simp [h]
  · exact h

@[simp] theorem onRunout_linesOk (h : linesOk s) : linesOk (onRunout p s) := by
  unfold onRunout
  split <;> simp [h]

@[simp] theorem onBreak_linesOk (h : linesOk s) : linesOk (onBreak p s) := by
  unfold onBreak
  split <;> simp [h]

@[simp] theorem onStall_linesOk (h : linesOk s) : linesOk (onStall p s) := by
  unfold onStall
  split <;> simp [h]

@[simp] theorem onStrikeFailed_linesOk (h : linesOk s) : linesOk (onStrikeFailed p s) := by
  unfold onStrikeFailed
  split <;> try split_ifs
  all_goals simp [h]

/-! ## Strikes -/

@[simp] theorem failStrike_linesOk (c : FaultCause) (h : linesOk s) : linesOk (failStrike p c s) := by
  simp [failStrike, faultLamp, h]

@[simp] theorem beginAttempt_linesOk (h : linesOk s) : linesOk (beginAttempt p s) := by
  unfold beginAttempt
  split_ifs <;> simp [h]

@[simp] theorem failAttempt_linesOk (c : FaultCause) (h : linesOk s) : linesOk (failAttempt p c s) := by
  unfold failAttempt
  split_ifs <;> simp [h]

@[simp] theorem lightLamp_linesOk (h : linesOk s) : linesOk (lightLamp p s) := by
  unfold lightLamp
  dsimp only
  split_ifs <;> simp [h]

@[simp] theorem arcOut_linesOk (h : linesOk s) : linesOk (arcOut p s) := by
  unfold arcOut
  dsimp only
  split_ifs <;> simp [faultLamp, h]

/-! ## The budget -/

@[simp] theorem grant_linesOk (e : Entry) (h : linesOk s) : linesOk (grant e s) := by
  simp [grant, h]

@[simp] theorem reclaim_linesOk (head : Option Proj) (h : linesOk s) : linesOk (reclaim p head s) := by
  have told (d : BoothTime) {t : State} (ht : linesOk t) : linesOk (notifyReclaimed p d head t) := by
    unfold notifyReclaimed
    dsimp only
    split <;> try split_ifs
    all_goals simp [ht]
  exact told _ (by simp [h])

@[simp] theorem examineQueue_linesOk (k : Nat) (h : linesOk s) : linesOk (examineQueue k s) := by
  induction k generalizing s with
  | zero => rwa [examineQueue]
  | succ k ih =>
    cases hq : s.budget.queue with
    | nil => simpa [examineQueue, hq] using h
    | cons e rest =>
      rw [examineQueue.eq_def]
      simp only [hq]
      split_ifs
      · exact h
      · exact ih (grant_linesOk e h)
      · split
        · exact ih (reclaim_linesOk _ h)
        · exact h
      · exact h

@[simp] theorem examineBudget_linesOk (h : linesOk s) : linesOk (examineBudget s) := by
  unfold examineBudget restoreBudget
  split_ifs <;> simp [h]

@[simp] theorem lateStrike_linesOk (h : linesOk s) : linesOk (lateStrike p s) := by
  unfold lateStrike
  split
  · split_ifs <;> simp [h]
  · exact h

@[simp] theorem lateStrikes_linesOk (h : linesOk s) : linesOk (lateStrikes s) :=
  forEach_keeps _ _ linesOk (fun _ _ ht => lateStrike_linesOk ht) h

@[simp] theorem overdraftReclaim_linesOk (k : Nat) (h : linesOk s) : linesOk (overdraftReclaim k s) := by
  induction k generalizing s with
  | zero => exact h
  | succ k ih =>
    unfold overdraftReclaim
    split_ifs
    · exact h
    · split
      · exact ih (reclaim_linesOk _ h)
      · exact h

@[simp] theorem enterOverdraft_linesOk (h : linesOk s) : linesOk (enterOverdraft s) := by
  simp [enterOverdraft, h]

@[simp] theorem standbyInOverdraft_linesOk (h : linesOk s) : linesOk (standbyInOverdraft s) := by
  unfold standbyInOverdraft
  split_ifs <;> simp [h]

/-! ## The end of an event -/

@[simp] theorem screenSteps_linesOk (h : linesOk s) : linesOk (screenSteps s) := by
  have completed (q : Proj) (k : StartKind) {t : State} (ht : linesOk t) : linesOk (runWait q k t) := by
    unfold runWait completeStart
    dsimp only
    split_ifs <;> simp [ht]
  have started (m : Screen) {t : State} (ht : linesOk t) : linesOk (startStep m t) := by
    unfold startStep
    split
    · split_ifs
      · exact ht
      · split <;> simp [ht, completed]
    · exact ht
  have recorded (m : Screen) {t : State} (ht : linesOk t) : linesOk (recordStep m t) := by
    unfold recordStep
    split
    · exact ht
    · dsimp only
      split <;> try split_ifs
      all_goals simp [ht]
  exact forEach_keeps _ _ linesOk (fun m _ ht => recorded m (started m (by simp [ht]))) h

@[simp] theorem settleBudget_linesOk (k : Nat) (h : linesOk s) : linesOk (settleBudget k s) := by
  induction k generalizing s with
  | zero => exact h
  | succ k ih =>
    have examined := screenSteps_linesOk (examineBudget_linesOk h)
    unfold settleBudget
    dsimp only
    split_ifs
    · exact ih examined
    · exact examined

/-- The end of an event keeps every queue within its size. -/
@[simp] theorem settle_linesOk (h : linesOk s) : linesOk (settle s) := by
  have stepped := screenSteps_linesOk h
  unfold settle
  dsimp only
  split_ifs
  · simpa using lateStrikes_linesOk (settleBudget_linesOk 8 stepped)
  · simpa using stepped

end Sys2Proof.Machine

end

/-! # Proofs: events, orders, bytes and time keep every queue within its size (O13) -/

section

namespace Sys2Proof.Machine

variable {s t : State} {p : Proj} {n : Screen} {l : Line}

/-- One event keeps what its own actions keep. -/
theorem event_linesOk {f : State → State} (hf : linesOk (f s)) (h : linesOk s) : linesOk (event f s) := by
  unfold event
  split_ifs
  · exact settle_linesOk hf
  · exact h

/-! ## Fire -/

theorem boothFire_linesOk (h : linesOk s) : linesOk (boothFire s) := by
  have told : linesOk (notifyAll (.fire s.boothTime s.fire.sources) (s.modFire (fun u => u.enter s.boothTime))) :=
    notifyAll_linesOk _ h
  have quenched := (forEach_linesOk_iff Proj.all fireLamp fireLamp_linesOk_iff _).2 told
  exact (setBoothHolder_linesOk_iff _ _).2 (forEach_keeps _ _ linesOk (fun _ _ ht => haltFire_linesOk ht) quenched)

theorem sourceRise_linesOk (x : Source) (h : linesOk s) : linesOk (sourceRise x s) := by
  unfold sourceRise recordSource
  dsimp only
  split_ifs
  · exact h
  · split
    · exact notifyAll_linesOk _ h
    · exact h
  · exact h
  · exact boothFire_linesOk h

theorem sourceFollows_linesOk (i : FireInput) (v : Bool) (h : linesOk s) : linesOk (sourceFollows i v s) := by
  unfold sourceFollows
  split_ifs
  · exact sourceRise_linesOk _ h
  · exact h

theorem persistenceReached_linesOk (h : linesOk s) : linesOk (persistenceReached p s) := sourceRise_linesOk _ h

theorem flameRise_linesOk (h : linesOk s) : linesOk (flameRise p s) := by
  simp [flameRise, h]

theorem upChange_linesOk (q : Port) (v : Bool) (h : linesOk s) : linesOk (upChange q v s) := by
  have dropped (u : State) (hu : linesOk u) : linesOk (portDrops q s u) := by
    unfold portDrops
    dsimp only
    split <;> try split_ifs
    all_goals simp [hu]
  unfold upChange
  dsimp only
  split_ifs
  · exact h
  · exact dropped _ h
  · exact h

theorem firstScan_linesOk (i : ScanInputs) (h : linesOk s) : linesOk (firstScan i s) := by
  have sampled {u : State} (hu : linesOk u) : linesOk (scanSamples i u) :=
    (forEach_linesOk_iff _ _ (fun _ u => modLamp_linesOk_iff _ _ u) u).2 hu
  have flames {u : State} (hu : linesOk u) : linesOk (scanFlames i u) :=
    forEach_keeps _ _ linesOk (fun q v hv => by
      split_ifs
      · exact flameRise_linesOk hv
      · exact hv) hu
  have sources {u : State} (hu : linesOk u) : linesOk (scanSources i u) := by
    unfold scanSources
    dsimp only
    split_ifs
    · exact forEach_keeps _ _ linesOk (fun k _ hv => sourceFollows_linesOk k _ hv) hu
    · exact boothFire_linesOk hu
    · exact hu
  exact sources (flames (sampled h))

/-! ## Film events -/

theorem perforation_linesOk (d : Nat) (h : linesOk s) : linesOk (perforation p d s) := by
  unfold perforation frameEvent
  split_ifs <;> simp [h]

theorem cuePulse_linesOk (h : linesOk s) : linesOk (cuePulse p s) := by
  unfold cuePulse
  dsimp only
  split_ifs <;> simp [h]

theorem breakReached_linesOk (h : linesOk s) : linesOk (breakReached p s) := by
  unfold breakReached
  dsimp only
  split_ifs <;> simp [h]

theorem breakNow_linesOk (h : linesOk s) : linesOk (breakNow p s) := by
  unfold breakNow
  split_ifs
  · exact breakReached_linesOk h
  · exact h

theorem coastNow_linesOk (h : linesOk s) : linesOk (coastNow p s) := by
  unfold coastNow
  dsimp only
  split_ifs <;> simp [h, breakNow_linesOk]

theorem runupReached_linesOk (h : linesOk s) : linesOk (runupReached p s) := by
  unfold runupReached
  split_ifs <;> simp [h]

/-! ## Lamp events and booth time -/

theorem touchSample_linesOk (v : Nat) (h : linesOk s) : linesOk (touchSample p v s) := by
  unfold touchSample touchFeed
  dsimp only
  split_ifs <;> simp [h]

theorem drawEnd_linesOk (v : Nat) (h : linesOk s) : linesOk (drawEnd p v s) := by
  unfold drawEnd
  dsimp only
  split_ifs <;> simp [h]

theorem feedInterval_linesOk (h : linesOk s) : linesOk (feedInterval p s) := by
  unfold feedInterval feedStep
  split_ifs <;> simp [h]

theorem litSample_linesOk (v : Nat) (h : linesOk s) : linesOk (litSample p v s) := by
  unfold litSample
  dsimp only
  split_ifs <;> simp [h]

theorem quenchingEnds_linesOk (h : linesOk s) : linesOk (quenchingEnds p s) := by
  unfold quenchingEnds
  dsimp only
  split <;> simp [h]

theorem waitEnds_linesOk (c : Instr) (h : linesOk s) : linesOk (waitEnds c s) := by
  unfold waitEnds
  split <;> simp [h, quenchingEnds_linesOk]

theorem advanceWithWaits_linesOk (h : linesOk s) : linesOk (advanceWithWaits s) := by
  refine forEach_keeps _ _ linesOk (fun c u hu => ?_) (settle_linesOk ((advanceBoothTime_linesOk_iff s).2 h))
  unfold takeWait
  split_ifs
  · exact settle_linesOk (waitEnds_linesOk c hu)
  · exact hu

/-! ## The owning blocks' effects of orders -/

theorem applyStoreReel_linesOk (k o : Nat) (f : ReelFields) (h : linesOk s) : linesOk (applyStoreReel l k o f s) := by
  have told (w : Screen) (q : Proj) (b : NoticeBody) {u : State} (hu : linesOk u) : linesOk (notifyEdit w q b u) := by
    unfold notifyEdit
    dsimp only
    split_ifs <;> simp [hu]
  have refreshed (q : Proj) (c : Context) (r : ReelRecord) {u : State} (hu : linesOk u) :
      linesOk (refreshContext q k c r u) := by
    unfold refreshContext
    dsimp only
    refine examineArming_linesOk (reviewCurrent_linesOk (told _ _ _ ?_))
    split_ifs <;> exact hu
  have edited (q : Proj) (r : ReelRecord) {u : State} (hu : linesOk u) : linesOk (editReaches q k r u) := by
    unfold editReaches markStale
    split <;> try split_ifs
    · exact told _ _ _ hu
    · exact refreshed _ _ _ hu
    · exact hu
  unfold applyStoreReel
  split
  · exact h
  · dsimp only
    split
    · exact edited _ _ h
    · exact h

theorem applyStoreProgram_linesOk (k : Nat) (items : List RawItem) (h : linesOk s) : linesOk (applyStoreProgram k items s) := by
  unfold applyStoreProgram
  split
  · refine examineArming_linesOk ?_
    split_ifs <;> exact h
  · exact h

theorem applyThread_linesOk (k m : Nat) (h : linesOk s) : linesOk (applyThread k m s) := by
  have forecast (q : Proj) {u : State} (hu : linesOk u) : linesOk (threadForecast q u) := by
    unfold threadForecast
    split_ifs <;> simp [hu]
  unfold applyThread threadReel
  split
  · exact examineThreading_linesOk (forecast _ (reviewCurrent_linesOk (by simp [h])))
  · exact h

theorem applyUnthread_linesOk (k : Nat) (h : linesOk s) : linesOk (applyUnthread k s) := by
  unfold applyUnthread unthreadReel
  split <;> try split
  all_goals simp [h]

theorem applyStart_linesOk (k : Nat) (h : linesOk s) : linesOk (applyStart k s) := by
  unfold applyStart
  split <;> try split
  all_goals simp [h]

theorem applyStop_linesOk (k : Nat) (h : linesOk s) : linesOk (applyStop l k s) := by
  unfold applyStop stopShow notifyStopped
  split
  · dsimp only
    split_ifs <;> simp [h]
  · exact h

theorem applyResume_linesOk (k : Nat) (h : linesOk s) : linesOk (applyResume k s) := by
  have swapped (m : Screen) (x : Side) {u : State} (hu : linesOk u) : linesOk (swapRoles m x u) := by
    unfold swapRoles
    dsimp only
    split_ifs <;> simp [hu]
  unfold applyResume resumeReel resumeState
  split <;> try split
  all_goals simp [h, swapped]

theorem applyChangeNow_linesOk (k : Nat) (h : linesOk s) : linesOk (applyChangeNow k s) := by
  unfold applyChangeNow switchByHand restartHeldMotor
  dsimp only
  split <;> try split
  · split_ifs <;> simp [h]
  all_goals exact h

theorem applySetLamp_linesOk (k : Nat) (x : LampSettings) (h : linesOk s) : linesOk (applySetLamp k x s) := by
  unfold applySetLamp
  split <;> simp [h]

theorem applyStrike_linesOk (k r : Nat) (h : linesOk s) : linesOk (applyStrike k r s) := by
  unfold applyStrike
  split <;> simp [h]

theorem applyQuench_linesOk (k : Nat) (h : linesOk s) : linesOk (applyQuench k s) := by
  unfold applyQuench quenchByOrder
  dsimp only
  split <;> try split_ifs
  all_goals simp [h]

theorem applyTrim_linesOk (k m : Nat) (h : linesOk s) : linesOk (applyTrim k m s) := by
  unfold applyTrim trimLamp
  split
  · dsimp only
    split
    · exact warmChosen_linesOk (economyChoice_linesOk (withStubCheck_linesOk _ h))
    · exact withStubCheck_linesOk _ h
  · exact h

theorem applySetCapacity_linesOk (k : Nat) (h : linesOk s) : linesOk (applySetCapacity k s) := by
  unfold applySetCapacity
  dsimp only
  split_ifs <;> simp [h]

theorem applySetSurge_linesOk (k : Nat) (h : linesOk s) : linesOk (applySetSurge k s) := by
  unfold applySetSurge
  dsimp only
  split_ifs <;> exact h

theorem applySetReclaim_linesOk (k m : Nat) (h : linesOk s) : linesOk (applySetReclaim k m s) := by
  unfold applySetReclaim
  dsimp only
  split_ifs <;> exact h

theorem applyLights_linesOk (k : Nat) (form : LightsForm) (h : linesOk s) : linesOk (applyLights k form s) := by
  unfold applyLights
  split
  · exact (forEach_linesOk_iff _ _ (manualTakes_linesOk_iff form) s).2 h
  · exact h

theorem applyLightsRelease_linesOk (k : Nat) (h : linesOk s) : linesOk (applyLightsRelease k s) := by
  unfold applyLightsRelease
  split
  · exact (forEach_linesOk_iff _ _ (fun x t => removeClaims_linesOk_iff x .manual t) s).2 h
  · exact h

theorem applySetRest_linesOk (k m : Nat) (h : linesOk s) : linesOk (applySetRest k m s) := by
  unfold applySetRest
  split <;> simp [h]

theorem applySetMotion_linesOk (m : MotionSettings) (h : linesOk s) : linesOk (applySetMotion m s) := by
  have replaced : linesOk { s with motionSettings := m } := h
  refine forEach_keeps _ _ linesOk (fun p u hu => ?_)
    (forEach_keeps _ _ linesOk (fun p u hu => ?_) (forEach_keeps _ _ linesOk (fun p u hu => ?_) replaced))
  · unfold persistenceMeets
    split <;> try split_ifs
    all_goals simp [hu, persistenceReached_linesOk]
  · unfold gapMeets
    split_ifs <;> simp [hu, breakReached_linesOk]
  · unfold runupMeets
    split <;> try split_ifs
    all_goals simp [hu, runupReached_linesOk]

theorem applyClearFire_linesOk (h : linesOk s) : linesOk (applyClearFire s) := by
  unfold applyClearFire notifyCleared
  dsimp only
  split <;> simp [h]

theorem applyRehang_linesOk (k : Nat) (h : linesOk s) : linesOk (applyRehang k s) := by
  unfold applyRehang
  split <;> exact h

/-! ## Taking an order (R156 to R158) -/

theorem applyOrder_linesOk (o : Order) (h : linesOk s) : linesOk (applyOrder l o s) := by
  cases o <;> dsimp only [applyOrder]
  case storeReel => exact applyStoreReel_linesOk _ _ _ h
  case storeProgram => exact applyStoreProgram_linesOk _ _ h
  case thread => exact applyThread_linesOk _ _ h
  case unthread => exact applyUnthread_linesOk _ h
  case openScreen => unfold applyOpen; split <;> exact h
  case start => exact applyStart_linesOk _ h
  case stop => exact applyStop_linesOk _ h
  case close => unfold applyClose; split <;> simp [h]
  case resume => exact applyResume_linesOk _ h
  case changeNow => exact applyChangeNow_linesOk _ h
  case setLamp => exact applySetLamp_linesOk _ _ h
  case strike => exact applyStrike_linesOk _ _ h
  case quench => exact applyQuench_linesOk _ h
  case trim => exact applyTrim_linesOk _ _ h
  case setCapacity => exact applySetCapacity_linesOk _ h
  case setSurge => exact applySetSurge_linesOk _ h
  case setReclaim => exact applySetReclaim_linesOk _ _ h
  case lights => exact applyLights_linesOk _ _ h
  case lightsRelease => exact applyLightsRelease_linesOk _ h
  case setRest => exact applySetRest_linesOk _ _ h
  case setMotion => exact applySetMotion_linesOk _ h
  case fireAssert => exact sourceRise_linesOk _ h
  case clearFire => exact applyClearFire_linesOk h
  case rehang => exact applyRehang_linesOk _ h
  case deleteReel | storeScene | setFloor | fireRelease | read | unknown | miscounted => exact h

theorem takeRead_linesOk (i k : Nat) (h : linesOk s) : linesOk (takeRead l i k s) := by
  unfold takeRead clearOwnStatus
  split
  · exact reply_linesOk _ _ _ h
  · split_ifs
    · exact reply_linesOk _ _ _ h
    · exact modLine_linesOk _ _ _ (fun _ hx => hx) (reply_linesOk _ _ _ h)
    · exact reply_linesOk _ _ _ h

theorem takeOrder_linesOk (o : Order) (h : linesOk s) : linesOk (takeOrder l o s) := by
  unfold takeOrder
  split
  · exact takeRead_linesOk _ _ h
  · dsimp only
    split_ifs
    · exact applyOrder_linesOk _ (reply_linesOk _ _ _ h)
    · exact reply_linesOk _ _ _ h

/-- An order that leaves the buffer leaves it shorter (R156). -/
theorem takeOne_linesOk (h : linesOk s) : linesOk (takeOne l s) := by
  unfold takeOne
  split
  · exact h
  next o rest held =>
    have shorter : linesOk (s.modLine l (fun x => { x with buffer := rest })) := by
      obtain ⟨buffer, replies, notices, fire⟩ := h l
      rw [held, List.length_cons] at buffer
      exact setLine_linesOk s l _ ⟨show rest.length ≤ 2 by omega, replies, notices, fire⟩ h
    split_ifs
    · exact settle_linesOk (takeOrder_linesOk o shorter)
    · exact h

theorem takeAll_linesOk (h : linesOk s) : linesOk (takeAll l s) := takeOne_linesOk (takeOne_linesOk h)

/-- An order joins a buffer only where fewer than two are held (R156). -/
theorem arrive_linesOk (o : Order) (h : linesOk s) : linesOk (arrive l o s) := by
  unfold arrive
  split_ifs with _ room
  · obtain ⟨_, replies, notices, fire⟩ := h l
    refine takeAll_linesOk (setLine_linesOk s l _ ⟨?_, replies, notices, fire⟩ h)
    simp only [List.length_append, List.length_singleton]
    omega
  · exact reply_linesOk _ _ _ h
  · exact h

/-! ## The bytes of a line (R153 to R155, R161) -/

theorem setAssembler_linesOk (a : Assembler) (h : linesOk s) : linesOk (setAssembler l a s) :=
  modLine_linesOk _ _ _ (fun _ hx => hx) h

theorem garble_linesOk (c : GarbleCause) (h : linesOk s) : linesOk (garble l c s) :=
  reply_linesOk _ _ _ (setAssembler_linesOk _ h)

theorem frameTimeOut_linesOk (h : linesOk s) : linesOk (frameTimeOut l s) := by
  unfold frameTimeOut
  split
  · exact garble_linesOk _ h
  · exact h

theorem gapTimeOut_linesOk (h : linesOk s) : linesOk (gapTimeOut l s) := by
  unfold gapTimeOut
  split
  · exact garble_linesOk _ h
  · exact h

theorem byteFails_linesOk (h : linesOk s) : linesOk (byteFails l s) := by
  unfold byteFails
  split
  · exact h
  all_goals exact garble_linesOk _ h

theorem lineBreaks_linesOk (h : linesOk s) : linesOk (lineBreaks l s) :=
  notify_linesOk _ _ _ (modLine_linesOk _ _ _
    (fun _ _ => ⟨Nat.zero_le _, Nat.zero_le _, Nat.zero_le _, Nat.zero_le _⟩) h)

theorem wholeFrame_linesOk (m : Option Partial) (got : List Byte) (h : linesOk s) : linesOk (wholeFrame l m got s) := by
  unfold wholeFrame soundFrame
  split_ifs
  · split
    · dsimp only
      split_ifs
      · exact garble_linesOk _ h
      · exact setAssembler_linesOk _ h
      · exact arrive_linesOk _ (setAssembler_linesOk _ h)
    · exact garble_linesOk _ h
  · exact garble_linesOk _ h

theorem frameByte_linesOk (m : Option Partial) (got : List Byte) (e : Nat) (h : linesOk s) :
    linesOk (frameByte l m got e s) := by
  unfold frameByte
  split
  · exact h
  · split_ifs
    · exact garble_linesOk _ h
    · exact setAssembler_linesOk _ h
    · exact wholeFrame_linesOk _ _ h

theorem feedByte_linesOk (b : Byte) (h : linesOk s) : linesOk (feedByte l b s) := by
  unfold feedByte
  split
  · split_ifs
    · exact setAssembler_linesOk _ h
    · exact h
  · exact frameByte_linesOk _ _ _ h
  · split_ifs
    · exact setAssembler_linesOk _ h
    · exact garble_linesOk _ h

theorem feedBytes_linesOk (bytes : List Byte) (h : linesOk s) : linesOk (feedBytes l bytes s) := by
  unfold feedBytes
  induction bytes generalizing s with
  | nil => exact h
  | cons b bs ih => exact ih (feedByte_linesOk b h)

theorem messageSent_linesOk (h : linesOk s) : linesOk (messageSent l s) := by
  unfold messageSent
  split
  · exact takeAll_linesOk (modLine_linesOk _ _ _ (fun _ hx => kick_ok _ hx) h)
  · exact h

theorem whileRunning_linesOk {f : State → State} (hf : linesOk (f s)) (h : linesOk s) : linesOk (whileRunning f s) := by
  unfold whileRunning
  split_ifs
  · exact hf
  · exact h

/-! ## The passing of time (R166, R168) -/

theorem channelLimits_linesOk (h : linesOk s) : linesOk (channelLimits p s) := by
  have coast {u : State} (hu : linesOk u) : linesOk (if (s.chan p).age = coastUnits then settle (coastNow p u) else u) := by
    split_ifs
    · exact settle_linesOk (coastNow_linesOk hu)
    · exact hu
  unfold channelLimits
  refine coast ?_
  split_ifs
  · exact settle_linesOk (breakNow_linesOk h)
  · exact h

theorem lineTick_linesOk (h : linesOk s) : linesOk (lineTick l s) := by
  have counted : linesOk (s.modLine l (fun x => { x with asm := x.asm.older })) := modLine_linesOk _ _ _ (fun _ hx => hx) h
  unfold lineTick
  dsimp only
  split <;> try split_ifs
  · exact frameTimeOut_linesOk counted
  · exact counted
  · exact gapTimeOut_linesOk counted
  · exact counted
  · exact counted

theorem runupTick_linesOk (h : linesOk s) : linesOk (runupTick p s) := by
  unfold runupTick
  split
  · exact h
  · dsimp only
    split_ifs
    · exact settle_linesOk (runupReached_linesOk h)
    · exact h

theorem persistTick_linesOk (h : linesOk s) : linesOk (persistTick p s) := by
  unfold persistTick
  split
  · exact h
  · dsimp only
    split_ifs
    · exact settle_linesOk (persistenceReached_linesOk h)
    · exact h

theorem lampTick_linesOk (h : linesOk s) : linesOk (lampTick p s) := by
  have strike : linesOk (strikeTick p s) := by
    unfold strikeTick
    dsimp only
    split_ifs
    · exact settle_linesOk (beginAttempt_linesOk h)
    · exact h
  have feed : linesOk (feedTick p s) := by
    unfold feedTick
    dsimp only
    split_ifs
    · exact settle_linesOk (feedInterval_linesOk h)
    · exact h
  have forecast {u : State} (hu : linesOk u) : linesOk (forecastTick p u) := by
    unfold forecastTick
    dsimp only
    split_ifs
    · exact settle_linesOk (singleForecast_linesOk hu)
    · exact hu
  unfold lampTick
  split_ifs
  · exact forecast feed
  · exact strike
  · exact h

theorem boothTick_linesOk (h : linesOk s) : linesOk (boothTick s) := by
  have lined : linesOk (forEach Line.all lineTick { s with stampSub := 0 }) :=
    forEach_keeps _ _ linesOk (fun _ _ hu => lineTick_linesOk hu) h
  have timed := forEach_keeps Proj.all (fun p x => lampTick p (persistTick p (runupTick p x))) linesOk
    (fun _ _ hu => lampTick_linesOk (persistTick_linesOk (runupTick_linesOk hu))) lined
  have counted {u : State} (k : Nat) (hu : linesOk u) : linesOk { u with tickCount := k } := hu
  unfold boothTick
  dsimp only
  split_ifs
  · exact advanceWithWaits_linesOk timed
  · exact counted _ timed

theorem idle_linesOk (h : linesOk s) : linesOk (idle s) := by
  have limits : linesOk (forEach Proj.all channelLimits (stampAdvance s)) :=
    forEach_keeps _ _ linesOk (fun _ _ hu => channelLimits_linesOk hu) h
  unfold idle
  dsimp only
  split_ifs
  · exact boothTick_linesOk limits
  · exact limits
  · exact h

/-! ## Supplies and resets (R163) -/

theorem linesOk_of_reset (h : t.lines = PerLine.fill LineState.reset) : linesOk t := by
  intro l
  rw [State.line, h, PerLine.get_fill]
  exact ⟨Nat.zero_le _, Nat.zero_le _, Nat.zero_le _, Nat.zero_le _⟩

/-- A supply row leaves the lines as they stand, or at their reset values. -/
theorem exec_supply_lines {c : Instr} (hc : isSupplyCommand c = true) (e : exec c s = .next t) :
    t.lines = s.lines ∨ t.lines = PerLine.fill LineState.reset := by
  have restored (u : State) : (if u.storeValid then u.keptReset else u.powerOn).lines = PerLine.fill LineState.reset := by
    split_ifs <;> rfl
  cases c <;> try (cases hc; done)
  all_goals cases e
  case sgoodFall =>
    unfold sgoodFalls
    split
    · exact Or.inl rfl
    · exact Or.inr rfl
  case sgoodRise =>
    unfold sgoodRises
    split
    · exact Or.inl rfl
    · exact Or.inr (restored _)
  case vsbLoss =>
    unfold vsbLost
    split <;> exact Or.inl rfl
  case panelReset =>
    unfold resetRises
    split_ifs
    · exact Or.inl rfl
    · split
      · exact Or.inr rfl
      · exact Or.inl rfl
  case resetFall => exact Or.inl rfl

/-! ## One step -/

theorem exec_linesOk {c : Instr} (hc : isSupplyCommand c = false) (h : linesOk s) : ∃ t, exec c s = .next t ∧ linesOk t := by
  have guarded {f : State → State} {g : State → Prop} [∀ t, Decidable (g t)] (hf : linesOk (f s)) :
      linesOk (event (fun t => if g t then f t else t) s) :=
    event_linesOk (by split_ifs; exacts [hf, h]) h
  cases ho : orderOfInstr c with
  | some lo => exact ⟨_, exec_order (l := lo.1) (o := lo.2) ho s, arrive_linesOk _ h⟩
  | none =>
    cases c <;> try (cases ho; done)
    all_goals try (cases hc; done)
    all_goals refine ⟨_, rfl, ?_⟩
    case frameReceived => exact whileRunning_linesOk (feedBytes_linesOk _ h) h
    case messageSent => exact whileRunning_linesOk (messageSent_linesOk h) h
    case frameTimeLimit => exact whileRunning_linesOk (frameTimeOut_linesOk h) h
    case gapTimeLimit => exact whileRunning_linesOk (gapTimeOut_linesOk h) h
    case byteError => exact whileRunning_linesOk (byteFails_linesOk h) h
    case lineBreak => exact whileRunning_linesOk (lineBreaks_linesOk h) h
    case perforationPulse =>
      refine event_linesOk ?_ h
      split
      · exact perforation_linesOk _ h
      · exact h
    case cuePulse => exact guarded (cuePulse_linesOk h)
    case breakWindow => exact event_linesOk (breakNow_linesOk h) h
    case coastLimit => exact event_linesOk (coastNow_linesOk h) h
    case runupLimit => exact guarded (runupReached_linesOk h)
    case intervalExpiry => exact guarded (expireInterval_linesOk h)
    case touchSample => exact guarded (touchSample_linesOk _ h)
    case drawEnd => exact guarded (drawEnd_linesOk _ h)
    case coolOffEnd => exact guarded (beginAttempt_linesOk h)
    case regulation => exact guarded h
    case feedStep => exact guarded (feedInterval_linesOk h)
    case currentSample => exact guarded (litSample_linesOk _ h)
    case quenchDue => exact guarded ((quenchLamp_linesOk_iff _ _).2 h)
    case quenchingEnd => exact guarded (quenchingEnds_linesOk h)
    case litIntervalForecast => exact guarded (singleForecast_linesOk h)
    case leadPoint => exact guarded h
    case strikeLate => exact event_linesOk (lateStrike_linesOk h) h
    case boothTimeAdvance =>
      split_ifs
      · exact advanceWithWaits_linesOk h
      · exact h
    case fireSourceInput => exact event_linesOk (sourceFollows_linesOk _ _ h) h
    case gateFlameRise =>
      refine event_linesOk ?_ h
      split_ifs
      · exact h
      · exact flameRise_linesOk h
    case gateFlameFall => exact guarded ((flameFall_linesOk_iff _ _).2 h)
    case persistence => exact guarded (persistenceReached_linesOk h)
    case upSwitchChange => exact event_linesOk (upChange_linesOk _ _ h) h
    case firstScan => exact guarded (firstScan_linesOk _ h)

/-- Settles O13: an idle step and every command of the running controller write on the lines by notices, replies and orders, which
keep the sizes; a supply row leaves the lines, or empties them. -/
theorem linesStayWithinTheirSizes : Obligations.LinesStayWithinTheirSizes := by
  intro s t h e
  unfold step at e
  split at e
  · cases e
    exact idle_linesOk h
  next c rest _ =>
    have start : linesOk { s with pending := rest } := h
    cases hc : isSupplyCommand c with
    | false =>
      obtain ⟨u, hu, kept⟩ := exec_linesOk hc start
      cases hu.symm.trans e
      exact kept
    | true =>
      obtain same | reset := exec_supply_lines hc e
      · exact linesOk_of_lines_eq same h
      · exact linesOk_of_reset reset

end Sys2Proof.Machine

end

/-! # Proofs: orders on a free line (O4 to O7) -/

section

namespace Sys2Proof.Machine

variable {c : Instr} {l : Line} {o : Order} {s : State}

/-! ## What taking an order does -/

/-- Every order but READ is judged, and acts where it passes (R157). -/
theorem takeOrder_of_not_read (hn : ∀ i k, o ≠ .read i k) : takeOrder l o s =
    if (judgeOrder l o s).acts then applyOrder l o (reply l (judgeOrder l o s) s) else reply l (judgeOrder l o s) s := by
  cases o
  case read i k => exact absurd rfl (hn i k)
  all_goals rfl

/-- An order other than READ adds its one reply to its line's outgoing replies, and nothing else to any line (R157). -/
theorem takeOrder_lines (hn : ∀ i k, o ≠ .read i k) (room : (s.line l).replies.length < 4) :
    (takeOrder l o s).still.lines = (s.still.replied l (judgeOrder l o s)).lines := by
  have replied := congrArg Still.lines (reply_still l (judgeOrder l o s) s room)
  rw [takeOrder_of_not_read hn]
  split_ifs
  · exact (lines_of_kept (applyOrder_kept _ _ _)).trans replied
  · exact replied

/-! ## Where an order is not taken at once (R156) -/

theorem arrive_full (run : s.running = true) (two : (s.line l).buffer.length = 2) : arrive l o s = reply l (.busy o.kind) s := by
  simp [arrive, run, two]

theorem takeOne_of_no_room (full : (s.line l).replies.length = 4) : takeOne l s = s := by
  unfold takeOne
  split
  · rfl
  · rw [if_neg (by omega)]

theorem takeAll_of_no_room (full : (s.line l).replies.length = 4) : takeAll l s = s := by
  rw [takeAll, takeOne_of_no_room full, takeOne_of_no_room full]

theorem arrive_waits (run : s.running = true) (room : (s.line l).buffer.length < 2) (full : (s.line l).replies.length = 4) :
    arrive l o s = s.setLine l { s.line l with buffer := (s.line l).buffer ++ [o] } := by
  rw [arrive, if_pos run, if_pos room, modLine_eq]
  exact takeAll_of_no_room (by rw [line_setLine, if_pos rfl]; exact full)

/-- Settles O4: a free line takes the order at once, and what follows the reply leaves the replies, buffers and assemblers. -/
theorem anOrderGetsOneReply : Obligations.AnOrderGetsOneReply := by
  intro c l o s h
  refine ⟨fun hn free => ⟨settle (takeOrder l o s), ?_, ?_⟩, fun run two => ?_, fun run room full => ?_⟩
  · rw [exec_order h, arrive_free free]
  · exact (congrArg Still.lines (settle_still _)).trans (takeOrder_lines hn free.2.2)
  · rw [exec_order h, arrive_full run two]
  · rw [exec_order h, arrive_waits run room full]

/-- Settles O5: a refused order ends with its reply; a kind that is no order code is judged UNKNOWN ORDER. -/
theorem aRefusedOrderChangesNothing : Obligations.ARefusedOrderChangesNothing :=
  ⟨fun _ _ _ _ _ _ h hn free judged => ends_of_refused h free hn judged,
    fun _ _ _ free => ends_of_refused rfl free nofun rfl⟩

/-! ## Privilege (R157) -/

/-- Without its privilege an order is refused before its block's checks. -/
theorem judgeOrder_of_not_privileged (h : privileged l o = false) : judgeOrder l o s = .refused o.kind .notOwner := by
  cases o
  case unknown | miscounted => cases h
  all_goals exact if_pos h

theorem isHouse_iff : isHouse l = true ↔ l = .house := beq_iff_eq

theorem ownOnly_some_iff (n : Screen) : ownOnly l (some n) = true ↔ l = .screen n := beq_iff_eq

theorem ownOrHouse_some_iff (n : Screen) : ownOrHouse l (some n) = true ↔ l = .house ∨ l = .screen n := by
  rw [ownOrHouse, Bool.or_eq_true, isHouse_iff, ownOnly_some_iff]

theorem screenOfCode_projCode (p : Proj) : screenOfCode (projCode p) = some p.screen := by
  simp [screenOfCode]

/-- Settles O6: privilege is tested before the checks, and each order's test is of the own line, the house line, both or none. -/
theorem privilegeIsTheLines : Obligations.PrivilegeIsTheLines := by
  refine ⟨fun _ _ _ => judgeOrder_of_not_privileged, fun l n items => ?_, fun l p k x => ?_, fun l n => ?_,
    fun l i j k h form m => ?_, fun l i j f => ?_⟩
  · simp [privileged, ownOnly_some_iff]
  · simp [privileged, screenOfCode_projCode, ownOnly_some_iff]
  · simp [privileged, ownOrHouse_some_iff]
  · simp [privileged, isHouse_iff]
  · simp [privileged]

/-! ## READ (R162) -/

theorem screenOf_isSome (k : Nat) : (screenOf k).isSome = true ↔ 1 ≤ k ∧ k ≤ 4 := by
  unfold screenOf
  split
  case h_5 h1 h2 h3 h4 =>
    simp only [imp_false] at h1 h2 h3 h4
    simp only [Option.isSome_none, Bool.false_eq_true, false_iff]
    omega
  all_goals decide

theorem lineOf_isSome (k : Nat) : (lineOf k).isSome = true ↔ 1 ≤ k ∧ k ≤ 5 := by
  unfold lineOf
  split
  case h_1 => decide
  case h_2 h5 =>
    simp only [imp_false] at h5
    rw [Option.isSome_map, screenOf_isSome]
    omega

theorem projOf_isSome (k : Nat) : (projOf k).isSome = true ↔ k ≤ 7 := by
  rw [projOf, isSome_getElem?]
  exact Nat.lt_succ_iff

theorem circOf_isSome (k : Nat) : (circOf k).isSome = true ↔ k ≤ 7 := by
  rw [circOf, isSome_getElem?]
  exact Nat.lt_succ_iff

/-- The nine items that READ takes, each with its selectors (R162). -/
theorem readRecord_isSome (s : State) (i k : Nat) : (readRecord s i k).isSome = true ↔
    (i = 0 ∧ 1 ≤ k ∧ k ≤ 5) ∨ ((i = 1 ∨ i = 8) ∧ 1 ≤ k ∧ k ≤ 4) ∨ ((i = 2 ∨ i = 3 ∨ i = 5) ∧ k ≤ 7) ∨
      ((i = 4 ∨ i = 6) ∧ k = 0) ∨ (i = 7 ∧ 1 ≤ k ∧ k ≤ 48) := by
  unfold readRecord
  split
  case h_1 => simp [lineOf_isSome]
  case h_2 | h_9 => simp [screenOf_isSome]
  case h_3 | h_4 => simp [projOf_isSome]
  case h_5 | h_7 => simp
  case h_6 => simp [circOf_isSome]
  case h_8 => simp [within]
  case h_10 h0 h1 h2 h3 h4 h5 h6 h7 h8 =>
    simp only [imp_false] at h0 h1 h2 h3 h4 h5 h6 h7 h8
    simp only [Option.isSome_none, Bool.false_eq_true, false_iff]
    omega

theorem takeRead_bad_value {i k : Nat} (bad : readRecord s i k = none) : takeRead l i k s = reply l (.refused 0x01 .badValue) s := by
  simp [takeRead, bad]

theorem takeRead_no_room {i k : Nat} {record : List Byte} (good : readRecord s i k = some record)
    (held : (s.line l).readHeld = true) : takeRead l i k s = reply l (.refused 0x01 .noRoom) s := by
  simp [takeRead, good, held]

theorem takeRead_answers {i k : Nat} {record : List Byte} (good : readRecord s i k = some record)
    (free : (s.line l).readHeld = false) :
    takeRead l i k s = clearOwnStatus l i k (reply l (.readData i k record) s) := by
  simp [takeRead, good, free]

/-- Settles O7: a free line takes the READ at once, in one of the three ways a READ is answered. -/
theorem readAnswersTheRecord : Obligations.ReadAnswersTheRecord := by
  refine ⟨readRecord_isSome, fun l i k s free => ?_⟩
  have taken : ends (.read l i k) s (takeRead l i k s) := ends_of_order (o := .read i k) rfl free
  refine ⟨fun bad => ?_, fun record good => ⟨fun held => ?_, fun held => ?_⟩⟩
  · exact takeRead_bad_value (l := l) bad ▸ taken
  · exact takeRead_no_room good held ▸ taken
  · rw [takeRead_answers good held] at taken
    exact taken

end Sys2Proof.Machine

end

/-! # Proofs: the frames of a line (O8 to O10)

A frame is its sync byte, its length, and as many bytes again as the length says, with the check byte. The assembler keeps the bytes
of a frame under way until the last has come, and then judges them whole: what it held before is of no account. -/

section

namespace Sys2Proof.Machine

variable {l : Line} {s : State} {m : Option Partial} {x : Partial} {k e : Nat} {ps : List Byte}

/-! ## The assembler -/

theorem setLine_setLine (l : Line) (v w : LineState) (s : State) : (s.setLine l v).setLine l w = s.setLine l w := by
  cases l with
  | house => rfl
  | screen n => cases n <;> rfl

theorem setAssembler_eq (l : Line) (a : Assembler) (s : State) : setAssembler l a s = s.setLine l { s.line l with asm := a } := rfl

theorem setAssembler_asm (l : Line) (a : Assembler) (s : State) : ((setAssembler l a s).line l).asm = a := by
  rw [setAssembler_eq, line_setLine, if_pos rfl]

@[simp] theorem setAssembler_setAssembler (l : Line) (a b : Assembler) (s : State) :
    setAssembler l a (setAssembler l b s) = setAssembler l a s := by
  simp only [setAssembler_eq, setLine_setLine, line_setLine, if_pos]

theorem setAssembler_self {a : Assembler} (h : (s.line l).asm = a) : setAssembler l a s = s :=
  modLine_id l s _ (by rw [← h])

@[simp] theorem garble_setAssembler (l : Line) (c : GarbleCause) (a : Assembler) (s : State) :
    garble l c (setAssembler l a s) = garble l c s := by
  rw [garble, setAssembler_setAssembler, garble]

theorem garble_of_hunt (h : (s.line l).asm = .hunt) (c : GarbleCause) : garble l c s = reply l (.garbled c) s := by
  rw [garble, setAssembler_self h]

/-! ## The bytes of one frame (R153) -/

theorem feedBytes_cons (b : Byte) (bs : List Byte) : feedBytes l (b :: bs) s = feedBytes l bs (feedByte l b s) := rfl

theorem feedBytes_append (bs cs : List Byte) : feedBytes l (bs ++ cs) s = feedBytes l cs (feedBytes l bs s) :=
  List.foldl_append

theorem feedByte_of_hunt (h : (s.line l).asm = .hunt) : feedByte l 0x7E s = setAssembler l (.frame none [] 0) s := by
  simp [feedByte, h]

theorem feedByte_of_gap (h : (s.line l).asm = .gap x e) : feedByte l 0x7E s = setAssembler l (.frame (some x) [] 0) s := by
  simp [feedByte, h]

theorem feedByte_in_frame (got : List Byte) (b : Byte) :
    feedByte l b (setAssembler l (.frame m got e) s) = frameByte l m (got ++ [b]) e (setAssembler l (.frame m got e) s) := by
  unfold feedByte
  rw [setAssembler_asm]

theorem frameByte_bad_length {n : Byte} (bad : n.toNat = 0 ∨ 24 < n.toNat) (rest : List Byte) :
    frameByte l m (n :: rest) e s = garble l .length s := if_pos bad

theorem frameByte_short {n : Byte} {rest : List Byte} (least : 1 ≤ n.toNat) (most : n.toNat ≤ 24)
    (short : rest.length < n.toNat + 1) : frameByte l m (n :: rest) e s = setAssembler l (.frame m (n :: rest) e) s := by
  unfold frameByte
  dsimp only
  rw [if_neg (by omega), if_pos (by simpa using short)]

theorem frameByte_whole {n : Byte} {rest : List Byte} (least : 1 ≤ n.toNat) (most : n.toNat ≤ 24)
    (whole : rest.length = n.toNat + 1) : frameByte l m (n :: rest) e s = wholeFrame l m (n :: rest) s := by
  unfold frameByte
  dsimp only
  rw [if_neg (by omega), if_neg (by simp only [List.length_cons]; omega)]

/-- A whole frame is judged by its bytes alone: what the assembler held is dropped. -/
theorem wholeFrame_setAssembler (got : List Byte) (a : Assembler) :
    wholeFrame l m got (setAssembler l a s) = wholeFrame l m got s := by
  unfold wholeFrame soundFrame
  split_ifs
  · split
    · dsimp only
      split_ifs <;> simp
    · simp
  · simp

/-- The bytes that a frame still lacks after its length complete it. -/
theorem feedBytes_completes {n : Byte} (least : 1 ≤ n.toNat) (most : n.toNat ≤ 24) (got bs : List Byte) (lacks : bs ≠ [])
    (whole : got.length + bs.length = n.toNat + 1) :
    feedBytes l bs (setAssembler l (.frame m (n :: got) e) s) = wholeFrame l m (n :: (got ++ bs)) s := by
  induction bs generalizing got with
  | nil => exact absurd rfl lacks
  | cons b bs ih =>
    rw [feedBytes_cons, feedByte_in_frame, List.cons_append]
    cases bs with
    | nil => rw [frameByte_whole least most (by simpa using whole), wholeFrame_setAssembler]; rfl
    | cons b' bs =>
      simp only [List.length_cons] at whole
      rw [frameByte_short least most (by simp only [List.length_append, List.length_singleton]; omega),
        setAssembler_setAssembler, ih (got ++ [b]) (by simp) (by simp; omega), List.append_assoc, List.singleton_append]

/-- From its length byte on, a frame of the length it gives is judged whole. -/
theorem feedBytes_frame {n : Byte} {rest : List Byte} (least : 1 ≤ n.toNat) (most : n.toNat ≤ 24)
    (whole : rest.length = n.toNat + 1) :
    feedBytes l (n :: rest) (setAssembler l (.frame m [] e) s) = wholeFrame l m (n :: rest) s := by
  have lacks : rest ≠ [] := by rintro rfl; simp at whole
  rw [feedBytes_cons, feedByte_in_frame, List.nil_append, frameByte_short least most (by simp), setAssembler_setAssembler,
    feedBytes_completes least most [] rest lacks (by simpa using whole), List.nil_append]

/-! ## Sound frames (R154, R164) -/

theorem soundSum_check (body : List Byte) : soundSum (body ++ [checkByte body]) = true := by
  simp [soundSum, checkByte, List.foldl_append]

theorem kindOf_byteOf (hk : k < 128) (c : Bool) : kindOf (byteOf (k + if c then 128 else 0)) = k := by
  cases c <;> simp [kindOf, byteOf] <;> omega

theorem continues_byteOf (hk : k < 128) (c : Bool) : continues (byteOf (k + if c then 128 else 0)) = c := by
  cases c <;> simp [continues, byteOf] <;> omega

/-- The frame's length byte counts its kind byte and its parameters. -/
theorem length_byte_toNat (hp : ps.length ≤ 23) : (byteOf (ps.length + 1)).toNat = ps.length + 1 := by
  simp [byteOf]; omega

theorem wholeFrame_sound (n kind : Byte) :
    wholeFrame l m (n :: kind :: ps ++ [checkByte (n :: kind :: ps)]) s = soundFrame l m kind ps s := by
  unfold wholeFrame
  rw [if_pos (soundSum_check _)]
  simp only [List.cons_append, List.dropLast_concat]

/-- A sound frame in sequence, from its length byte on, is joined to its message, which it ends unless it has the continuation
flag. -/
theorem feedBytes_sound (hk : k < 128) (hp : ps.length ≤ 23) (sequence : outOfSequence m k = false) (c : Bool) :
    feedBytes l (frameBytes k c ps).tail (setAssembler l (.frame m [] e) s) =
      if c then setAssembler l (.gap (joined m k ps) 0) s
      else arrive l (orderOf (joined m k ps).kind ((joined m k ps).params.map BitVec.toNat)) (setAssembler l .hunt s) := by
  have length := length_byte_toNat hp
  show feedBytes l (byteOf (ps.length + 1) :: (byteOf (k + if c then 128 else 0) :: ps ++ [checkByte _])) _ = _
  rw [feedBytes_frame (by omega) (by omega) (by simp [length]), ← List.cons_append, wholeFrame_sound, soundFrame,
    kindOf_byteOf hk, continues_byteOf hk, sequence]
  rfl

theorem feedBytes_of_hunt (h : (s.line l).asm = .hunt) (hk : k < 128) (hp : ps.length ≤ 23) (c : Bool) :
    feedBytes l (frameBytes k c ps) s =
      if c then setAssembler l (.gap ⟨k, ps, 1⟩ 0) s else arrive l (orderOf k (ps.map BitVec.toNat)) s := by
  show feedBytes l (0x7E :: (frameBytes k c ps).tail) s = _
  rw [feedBytes_cons, feedByte_of_hunt h, feedBytes_sound hk hp rfl, setAssembler_self h]
  rfl

theorem feedBytes_of_gap (h : (s.line l).asm = .gap x e) (hk : k < 128) (hp : ps.length ≤ 23) (kind : x.kind = k)
    (room : x.frames < 8) (c : Bool) :
    feedBytes l (frameBytes k c ps) s =
      if c then setAssembler l (.gap ⟨k, x.params ++ ps, x.frames + 1⟩ 0) s
      else arrive l (orderOf k ((x.params ++ ps).map BitVec.toNat)) (setAssembler l .hunt s) := by
  have sequence : outOfSequence (some x) k = false := by simp [outOfSequence, kind, room]
  subst kind
  show feedBytes l (0x7E :: (frameBytes x.kind c ps).tail) s = _
  rw [feedBytes_cons, feedByte_of_gap h, feedBytes_sound hk hp sequence]
  rfl

theorem whileRunning_running (run : s.running = true) (f : State → State) : whileRunning f s = f s := if_pos run

theorem exec_frameReceived (run : s.running = true) (bytes : List Byte) :
    exec (.frameReceived l bytes) s = .next (feedBytes l bytes s) := by
  show Host.Outcome.next (whileRunning (feedBytes l bytes) s) = _
  rw [whileRunning_running run]

/-- Settles O8: in HUNT and in GAP, with and without the continuation flag. -/
theorem soundFramesAreJoined : Obligations.SoundFramesAreJoined := by
  intro l s k ps run hk hp
  simp only [exec_frameReceived run]
  refine ⟨fun hunt => ⟨?_, ?_⟩, fun m e gap kind room => ⟨?_, ?_⟩⟩
  · exact congrArg Host.Outcome.next (feedBytes_of_hunt hunt hk hp false)
  · exact congrArg Host.Outcome.next (feedBytes_of_hunt hunt hk hp true)
  · exact congrArg Host.Outcome.next (feedBytes_of_gap gap hk hp kind room false)
  · exact congrArg Host.Outcome.next (feedBytes_of_gap gap hk hp kind room true)

/-! ## Bad frames (R153, R154) -/

theorem feedBytes_bad_length {n : Byte} (hunt : (s.line l).asm = .hunt) (bad : n.toNat = 0 ∨ 24 < n.toNat) :
    feedBytes l [0x7E, n] s = garble l .length s := by
  rw [feedBytes_cons, feedByte_of_hunt hunt, feedBytes_cons, feedByte_in_frame]
  show frameByte l none [n] 0 (setAssembler l _ s) = _
  rw [frameByte_bad_length bad, garble_setAssembler]

theorem wholeFrame_bad_sum {got : List Byte} (bad : got.foldl (fun x y => x + y) 0 ≠ 0) :
    wholeFrame l m got s = garble l .check s := if_neg (fun sound => bad (eq_of_beq sound))

theorem feedBytes_bad_sum {n : Byte} {rest : List Byte} (hunt : (s.line l).asm = .hunt) (least : 1 ≤ n.toNat)
    (most : n.toNat ≤ 24) (whole : rest.length = n.toNat + 1) (bad : (n :: rest).foldl (fun x y => x + y) 0 ≠ 0) :
    feedBytes l (0x7E :: n :: rest) s = garble l .check s := by
  rw [feedBytes_cons, feedByte_of_hunt hunt, feedBytes_frame least most whole, wholeFrame_bad_sum bad]

/-- Settles O10: the limits and the byte errors by the assembler's state, lengths and sums by the frame's bytes. -/
theorem badFramesAreGarbled : Obligations.BadFramesAreGarbled := by
  intro l s run
  refine ⟨fun m got e frame => ⟨?_, ?_⟩, fun m e gap => ⟨?_, ?_⟩, fun hunt => ⟨fun n bad => ?_, fun n rest least most whole bad => ?_⟩⟩
  · exact congrArg Host.Outcome.next ((whileRunning_running run _).trans (by simp only [frameTimeOut, frame]; rfl))
  · exact congrArg Host.Outcome.next ((whileRunning_running run _).trans (by simp only [byteFails, frame]; rfl))
  · exact congrArg Host.Outcome.next ((whileRunning_running run _).trans (by simp only [gapTimeOut, gap]; rfl))
  · exact congrArg Host.Outcome.next ((whileRunning_running run _).trans (by simp only [byteFails, gap]; rfl))
  · have outside : n.toNat = 0 ∨ 24 < n.toNat := bad.imp_left (fun zero => by rw [zero]; rfl)
    rw [exec_frameReceived run, feedBytes_bad_length hunt outside, garble_of_hunt hunt]
  · rw [exec_frameReceived run, feedBytes_bad_sum hunt least most whole bad, garble_of_hunt hunt]

end Sys2Proof.Machine

end

/-! # Proofs: the transmitter, the fire notice and the resets of a line (O11, O12, O59) -/

section

namespace Sys2Proof.Machine

variable {l : Line} {s : State}

/-! ## The next message (R161) -/

theorem kick_reply {x : LineState} {r : Reply} {rs : List Reply} (idle : x.tx = none) (first : x.replies = r :: rs) :
    x.kick = { x with replies := rs, tx := some (.reply r) } := by
  simp [LineState.kick, idle, first]

theorem kick_notice {x : LineState} {n : Notice} {ns : List Notice} (idle : x.tx = none) (noReply : x.replies = [])
    (first : x.notices = n :: ns) : x.kick = { x with notices := ns, tx := some (.notice n) } := by
  simp [LineState.kick, idle, noReply, first]

theorem kick_nothing {x : LineState} (idle : x.tx = none) (noReply : x.replies = []) (noNotice : x.notices = []) : x.kick = x := by
  simp [LineState.kick, idle, noReply, noNotice]

theorem kick_sending {x : LineState} {m : OutMsg} (sending : x.tx = some m) : x.kick = x := by
  simp [LineState.kick, sending]

theorem exec_messageSent {m : OutMsg} (run : s.running = true) (sending : (s.line l).tx = some m) {v : LineState}
    (next : LineState.kick { s.line l with tx := none } = v) : exec (.messageSent l) s = .next (takeAll l (s.setLine l v)) := by
  show Host.Outcome.next (whileRunning (messageSent l) s) = _
  rw [whileRunning_running run, messageSent, sending, ← next]
  rfl

theorem takeAll_empty (h : (s.line l).buffer = []) : takeAll l s = s := by
  rw [takeAll, takeOne_empty l s h, takeOne_empty l s h]

theorem takeOne_held {o : Order} {rest : List Order} (held : (s.line l).buffer = o :: rest)
    (room : (s.line l).replies.length < 4) :
    takeOne l s = settle (takeOrder l o (s.setLine l { s.line l with buffer := rest })) := by
  rw [takeOne, held]
  exact if_pos room

/-- The only order of a buffer is taken when a reply has left its queue of four (R156, R158). -/
theorem takeAll_single {o : Order} (held : (s.line l).buffer = [o]) (room : (s.line l).replies.length < 4) :
    takeAll l s = settle (takeOrder l o (s.setLine l { s.line l with buffer := [] })) := by
  have left : ((settle (takeOrder l o (s.setLine l { s.line l with buffer := [] }))).line l).buffer = [] := by
    have still := congrArg (fun x => x.2.1) (still_line (settle_still (takeOrder l o (s.setLine l { s.line l with buffer := [] }))) l)
    refine still.trans ((takeOrder_buffer l o _).trans ?_)
    rw [line_setLine, if_pos rfl]
  rw [takeAll, takeOne_held held room, takeOne_empty l _ left]

/-- Settles O11: the transmitter's choice by what waits, and the order that the new room lets in. -/
theorem messageSentStartsTheNext : Obligations.MessageSentStartsTheNext := by
  intro l s m run sending
  refine ⟨fun empty => ⟨fun r rs first => ?_, fun n ns noReply first => ?_, fun noReply noNotice => ?_⟩, fun o r rs held first room => ?_⟩
  · rw [exec_messageSent run sending (kick_reply rfl first), takeAll_empty (by rw [line_setLine, if_pos rfl]; exact empty)]
  · rw [exec_messageSent run sending (kick_notice rfl noReply first), takeAll_empty (by rw [line_setLine, if_pos rfl]; exact empty)]
  · rw [exec_messageSent run sending (kick_nothing rfl noReply noNotice), takeAll_empty (by rw [line_setLine, if_pos rfl]; exact empty)]
  · rw [exec_messageSent run sending (kick_reply rfl first),
      takeAll_single (o := o) (by rw [line_setLine, if_pos rfl]; exact held) (by rw [line_setLine, if_pos rfl]; exact room),
      setLine_setLine, line_setLine, if_pos rfl]

/-! ## The place of a fire notice (R160) -/

theorem replaceFire_first {n old : Notice} {before after : List Notice} (plain : ∀ y ∈ before, y.body.isFire = false)
    (fire : old.body.isFire = true) : replaceFire n (before ++ old :: after) = before ++ n :: after := by
  induction before with
  | nil => exact if_pos fire
  | cons y ys ih =>
    obtain ⟨hy, hys⟩ := List.forall_mem_cons.1 plain
    simp [replaceFire, hy, ih hys]

theorem firePending_iff (x : LineState) : x.firePending = true ↔ ∃ y ∈ x.notices, y.body.isFire = true := List.any_eq_true

theorem addNotice_of_fire {x : LineState} {n : Notice} (fire : n.body.isFire = true) : x.addNotice n = x.addFireNotice n :=
  if_pos fire

theorem addFireNotice_pending {x : LineState} (n : Notice) (pending : x.firePending = true) :
    x.addFireNotice n = { x with notices := replaceFire n x.notices } := if_pos pending

theorem addFireNotice_tail {x : LineState} (n : Notice) (noFire : x.firePending = false) (room : x.notices.length < 12) :
    x.addFireNotice n = { x with notices := x.notices ++ [n] } := by
  simp [LineState.addFireNotice, noFire, room]

theorem addFireNotice_head {x : LineState} (n : Notice) (noFire : x.firePending = false) (full : ¬ x.notices.length < 12) :
    x.addFireNotice n = { x with notices := n :: x.notices.tail, overrun := true } := by
  simp [LineState.addFireNotice, noFire, full]

/-- Settles O12: in place of one that waits, else at the tail, else at the head of a full queue. -/
theorem fireNoticesArePlaced : Obligations.FireNoticesArePlaced := by
  intro x n fire
  rw [addNotice_of_fire fire]
  refine ⟨fun before old after queue plain hold => ?_, fun plain => ?_⟩
  · have pending : x.firePending = true := (firePending_iff x).2 ⟨old, by simp [queue], hold⟩
    rw [addFireNotice_pending n pending, queue, replaceFire_first plain hold]
  · have noFire : x.firePending = false := by
      rw [← Bool.not_eq_true, firePending_iff]
      rintro ⟨y, hy, hfire⟩
      exact absurd hfire (by simp [plain y hy])
    refine ⟨addFireNotice_tail n noFire, fun oldest rest queue full => ?_⟩
    rw [addFireNotice_head n noFire (by omega), queue, List.tail_cons]

/-! ## Resets (R155, R163) -/

theorem everyReset_lines {t : State} (h : everyReset s t) : t.lines = PerLine.fill LineState.reset := by
  obtain ⟨run, low, e⟩ | ⟨standby, vsb, e⟩ := h
  · cases (congrArg Host.Outcome.next (resetRises_of_run run low)).symm.trans e
    rfl
  · cases e
    unfold sgoodRises
    rw [standby]
    dsimp only
    split_ifs <;> rfl

theorem exec_lineBreak (run : s.running = true) {v : LineState}
    (next : ((s.line l).lineReset.addNotice ⟨s.boothTime, .lineRestarted⟩).kick = v) :
    exec (.lineBreak l) s = .next (s.setLine l v) := by
  show Host.Outcome.next (whileRunning (lineBreaks l) s) = _
  rw [whileRunning_running run, lineBreaks, notify, modLine_eq, modLine_eq, line_setLine, if_pos rfl, setLine_setLine, ← next]
  rfl

/-- A line reset leaves one notice, and the message under way (R155). -/
theorem lineReset_addNotice (x : LineState) (d : BoothTime) : x.lineReset.addNotice ⟨d, .lineRestarted⟩ =
    { asm := .hunt, buffer := [], replies := [], notices := [⟨d, .lineRestarted⟩], overrun := false, tx := x.tx } := rfl

/-- Settles O59: the reset values of R163, and a line reset with and without a message under way. -/
theorem linesAtEveryReset : Obligations.LinesAtEveryReset := by
  refine ⟨fun s t h l => ?_, fun s l m run sending => ?_, fun s l run idle => ?_⟩
  · rw [State.line, everyReset_lines h, PerLine.get_fill]
    rfl
  · exact exec_lineBreak run (by rw [lineReset_addNotice, sending, kick_sending rfl])
  · exact exec_lineBreak run (by rw [lineReset_addNotice, idle, kick_notice rfl rfl rfl])

end Sys2Proof.Machine

end

/-! # Proofs: an order and its frames (O9)

The parameter bytes of an order spell it again, and the frames that carry them bring it to its line whole. -/

section

namespace Sys2Proof.Machine

/-! ## The parameters spell the order (R164, R165) -/

theorem num2_two (n : Nat) : num2 (n / 256) (n % 256) = n := Nat.div_add_mod n 256

theorem rawMarks_markParams (ms : List RawMark) : rawMarks ms.length (ms.flatMap markParams) = some ms := by
  induction ms with
  | nil => rfl
  | cons m ms ih => simp [markParams, two, rawMarks, num2_two, ih]

theorem rawItems_itemParams (items : List RawItem) : rawItems items.length (items.flatMap itemParams) = some items := by
  induction items with
  | nil => rfl
  | cons i items ih => simp [itemParams, rawItems, ih]

theorem rawReel_reelParams (f : ReelFields) : rawReel (reelParams f) = some f := by
  simp [reelParams, rawReel, reelTail, two, num2_two, rawMarks_markParams]

theorem orderOf_foreign {k : Nat} (foreign : isForeignKind k = true) (ps : List Nat) : orderOf k ps = .unknown k := by
  unfold orderOf
  split
  case h_30 => rfl
  all_goals exact absurd foreign (by decide)

/-! ## The parameters are bytes, and fit a message (R154, R164) -/

/-- Every number of the list is one that a byte spells. -/
def AllBytes (ns : List Nat) : Prop := ∀ n ∈ ns, isByte n = true

@[simp] theorem allBytes_nil : AllBytes [] := nofun

@[simp] theorem allBytes_cons (n : Nat) (ns : List Nat) : AllBytes (n :: ns) ↔ isByte n = true ∧ AllBytes ns := List.forall_mem_cons

@[simp] theorem allBytes_append (ns ms : List Nat) : AllBytes (ns ++ ms) ↔ AllBytes ns ∧ AllBytes ms := List.forall_mem_append

theorem allBytes_two {n : Nat} (h : isTwoBytes n = true) : AllBytes (two n) := by
  simp only [isTwoBytes, decide_eq_true_eq] at h
  simp only [two, allBytes_cons, allBytes_nil, isByte, decide_eq_true_eq, and_true]
  omega

theorem allBytes_flatMap {α : Type} {f : α → List Nat} {xs : List α} (h : ∀ x ∈ xs, AllBytes (f x)) :
    AllBytes (xs.flatMap f) := by
  intro n hn
  obtain ⟨x, hx, hf⟩ := List.mem_flatMap.1 hn
  exact h x hx n hf

theorem isByte_of_lt {n : Nat} (h : n < 256) : isByte n = true := decide_eq_true h

theorem markParams_bytes {m : RawMark} (wf : m.wf = true) : AllBytes (markParams m) := by
  simp only [RawMark.wf, Bool.and_eq_true] at wf
  obtain ⟨⟨⟨frame, scene⟩, kind⟩, count⟩ := wf
  simp [markParams, allBytes_two, *]

theorem itemParams_bytes {i : RawItem} (wf : i.wf = true) : AllBytes (itemParams i) := by
  simpa [RawItem.wf, itemParams, and_assoc] using wf

theorem settingsParams_bytes {x : LampSettings} (wf : x.wf = true) : AllBytes (settingsParams x) := by
  simp only [LampSettings.wf, BurnPoint.wf, Bool.and_eq_true] at wf
  simp [settingsParams, burnParams, allBytes_two, wf]

theorem lightsParams_bytes {form : LightsForm} (wf : form.wf = true) : AllBytes (lightsParams form) := by
  cases form <;> simp only [LightsForm.wf, Bool.and_eq_true] at wf <;> simp [lightsParams, allBytes_two, wf, isByte_of_lt]

theorem length_flatMap_markParams (ms : List RawMark) : (ms.flatMap markParams).length = 6 * ms.length := by
  simp [markParams, two, Nat.mul_comm]

theorem length_flatMap_itemParams (items : List RawItem) : (items.flatMap itemParams).length = 3 * items.length := by
  simp [itemParams, Nat.mul_comm]

theorem reelParams_length (f : ReelFields) : (reelParams f).length = 16 + f.label.length + 6 * f.marks.length := by
  simp only [reelParams, two, List.length_append, List.length_cons, List.length_nil, length_flatMap_markParams]
  omega

theorem reelParams_bytes {f : ReelFields} (wf : f.wf = true) : AllBytes (reelParams f) := by
  simp only [ReelFields.wf, Bool.and_eq_true, List.all_eq_true, decide_eq_true_eq, and_assoc] at wf
  obtain ⟨label, format, length, head, tail, lead, motorLead, mode, window, present, value, marks, fit⟩ := wf
  have spelled : AllBytes f.label := label
  have marked : AllBytes (f.marks.flatMap markParams) := allBytes_flatMap (fun m hm => markParams_bytes (marks m hm))
  have counts : isByte f.label.length = true ∧ isByte f.marks.length = true :=
    ⟨isByte_of_lt (by omega), isByte_of_lt (by omega)⟩
  simp [reelParams, allBytes_two, *]

/-- A message carries the order: its kind is a code, its parameters are bytes that fit in eight frames of 23, and the two spell the
order again. -/
structure Carried (o : Order) : Prop where
  kind : o.kind < 128
  bytes : AllBytes o.params
  fit : o.params.length ≤ 184
  spelled : orderOf o.kind o.params = o

theorem carried_storeReel {slot owner : Nat} {f : ReelFields} (hs : isByte slot = true) (ho : isByte owner = true)
    (wf : f.wf = true) : Carried (.storeReel slot owner f) where
  kind := by simp [Order.kind]
  bytes := by simp [Order.params, hs, ho, reelParams_bytes wf]
  fit := by
    simp only [ReelFields.wf, Bool.and_eq_true, decide_eq_true_eq] at wf
    simp only [Order.params, List.length_cons, reelParams_length]
    omega
  spelled := by simp [Order.params, Order.kind, orderOf, rawReel_reelParams]

theorem carried_storeProgram {n : Nat} {items : List RawItem} (hn : isByte n = true) (wf : ∀ i ∈ items, i.wf = true)
    (fit : 2 + 3 * items.length ≤ 184) : Carried (.storeProgram n items) where
  kind := by simp [Order.kind]
  bytes := by
    have listed : AllBytes (items.flatMap itemParams) := allBytes_flatMap (fun i hi => itemParams_bytes (wf i hi))
    simp [Order.params, hn, listed, isByte_of_lt (show items.length < 256 by omega)]
  fit := by
    simp only [Order.params, List.length_cons, length_flatMap_itemParams]
    omega
  spelled := by simp [Order.params, Order.kind, orderOf, rawItems_itemParams]

theorem carried_lights {n : Nat} {form : LightsForm} (hn : isByte n = true) (wf : form.wf = true) :
    Carried (.lights n form) where
  kind := by simp [Order.kind]
  bytes := by simp [Order.params, hn, lightsParams_bytes wf]
  fit := by cases form <;> simp [Order.params, lightsParams, two]
  spelled := by cases form <;> simp [Order.params, Order.kind, orderOf, lightsParams, two, num2_two]

theorem carried_unknown {k : Nat} (foreign : isForeignKind k = true) : Carried (.unknown k) where
  kind := by
    simp only [isForeignKind, Bool.and_eq_true, decide_eq_true_eq] at foreign
    exact foreign.1
  bytes := allBytes_nil
  fit := Nat.zero_le _
  spelled := orderOf_foreign foreign []

/-- A message carries every well-formed order: three have lists or forms, and the others' parameters stand in fixed places. -/
theorem carried_of_wf {c : Instr} {l : Line} {o : Order} (h : orderOfInstr c = some (l, o)) (wf : c.wf = true) : Carried o := by
  cases c <;> simp only [orderOfInstr, Option.some.injEq, Prod.mk.injEq, reduceCtorEq] at h <;> obtain ⟨rfl, rfl⟩ := h
  all_goals simp only [Instr.wf, MotionSettings.wf, Bool.and_eq_true, List.all_eq_true, decide_eq_true_eq] at wf
  case storeReel => exact carried_storeReel wf.1.1 wf.1.2 wf.2
  case storeProgram => exact carried_storeProgram wf.1.1 wf.1.2 wf.2
  case lights => exact carried_lights wf.1 wf.2
  case unknownOrder => exact carried_unknown wf
  all_goals exact
    { kind := by simp [Order.kind]
      bytes := by simp [Order.params, allBytes_two, settingsParams_bytes, wf]
      fit := by simp [Order.params, settingsParams, burnParams, two]
      spelled := by simp [Order.params, Order.kind, orderOf, settingsParams, burnParams, two, num2_two] }

theorem map_toNat_byteOf {ns : List Nat} (h : AllBytes ns) : (ns.map byteOf).map BitVec.toNat = ns := by
  rw [List.map_map]
  refine (List.map_congr_left (fun n hn => ?_)).trans (List.map_id ns)
  exact Nat.mod_eq_of_lt (of_decide_eq_true (h n hn))

/-! ## The frames bring the message whole (R153, R154) -/

section

variable {l : Line} {s : State} {k : Nat}

/-- The frames of the rest of a message end it, where as many may still come. -/
theorem feedBytes_rest (hk : k < 128) (rounds : Nat) (ps : List Byte) (x : Partial) (e : Nat) (kind : x.kind = k)
    (room : x.frames + rounds < 8) (fit : ps.length ≤ 23 * (rounds + 1)) (gap : (s.line l).asm = .gap x e) :
    feedBytes l (framesFrom k (rounds + 1) ps).flatten s =
      arrive l (orderOf k ((x.params ++ ps).map BitVec.toNat)) (setAssembler l .hunt s) := by
  induction rounds generalizing ps x e s with
  | zero =>
    have short : ps.length ≤ 23 := fit
    rw [framesFrom, if_pos short, List.flatten_singleton, feedBytes_of_gap gap hk short kind (by omega)]
    rfl
  | succ rounds ih =>
    rw [framesFrom]
    split_ifs with short
    · rw [List.flatten_singleton, feedBytes_of_gap gap hk short kind (by omega)]
      rfl
    · rw [List.flatten_cons, feedBytes_append,
        feedBytes_of_gap gap hk (List.length_take_le 23 ps) kind (by omega), if_pos rfl,
        ih (ps.drop 23) _ 0 rfl (by dsimp only; omega) (by rw [List.length_drop]; omega) (setAssembler_asm _ _ _),
        setAssembler_setAssembler, List.append_assoc, List.take_append_drop]

/-- The frames of a message, sent to a line in HUNT, bring the order that its kind and parameters spell. -/
theorem feedBytes_message (hk : k < 128) {ps : List Byte} (fit : ps.length ≤ 184) (hunt : (s.line l).asm = .hunt) :
    feedBytes l (framesFrom k 8 ps).flatten s = arrive l (orderOf k (ps.map BitVec.toNat)) s := by
  rw [framesFrom]
  split_ifs with short
  · rw [List.flatten_singleton, feedBytes_of_hunt hunt hk short]
    rfl
  · rw [List.flatten_cons, feedBytes_append, feedBytes_of_hunt hunt hk (List.length_take_le 23 ps), if_pos rfl,
      feedBytes_rest hk 6 (ps.drop 23) _ 0 rfl (Nat.lt_succ_self 7) (by rw [List.length_drop]; omega) (setAssembler_asm _ _ _),
      setAssembler_setAssembler, List.take_append_drop, setAssembler_self hunt]

end

/-- Settles O9: the frames bring the parameters back, and these spell the order of the row. -/
theorem sendingAnOrderIsGivingIt : Obligations.SendingAnOrderIsGivingIt := by
  intro c l o h wf
  obtain ⟨kind, bytes, fit, spelled⟩ := carried_of_wf h wf
  refine ⟨spelled, fun s run hunt => ?_⟩
  rw [exec_frameReceived run, feedBytes_message kind (by rwa [List.length_map]) hunt, map_toNat_byteOf bytes, spelled,
    exec_order h]

end Sys2Proof.Machine

end

/-! # Proofs: what only the supplies and the passing of time write

The supplies, the pins, the marker, the waiting commands and the clocks: `Kept` but for the lines. Every operation of a block and
every order leaves them alone, and the passing of time moves the clocks by themselves, whatever the blocks do. -/

section

namespace Sys2Proof.Machine

/-- `Kept` without the lines, which an order, a byte and a reply write. -/
structure Clockwork where
  pending : List Instr
  supply : Supply
  resetPin : Bool
  vsb : Bool
  storeValid : Bool
  boothTime : BoothTime
  tickCount : Nat
  stampSub : Nat
  stampTimer : Nat

def Kept.clockwork (x : Kept) : Clockwork :=
  { pending := x.pending, supply := x.supply, resetPin := x.resetPin, vsb := x.vsb, storeValid := x.storeValid,
    boothTime := x.boothTime, tickCount := x.tickCount, stampSub := x.stampSub, stampTimer := x.stampTimer }

def State.clockwork (s : State) : Clockwork := s.still.kept.clockwork

variable {s t : State}

theorem stampSub_clockwork (s : State) : s.clockwork.stampSub = s.stampSub := rfl

theorem tickCount_clockwork (s : State) : s.clockwork.tickCount = s.tickCount := rfl

theorem clockwork_of_kept (h : t.still.kept = s.still.kept) : t.clockwork = s.clockwork := congrArg Kept.clockwork h

theorem clockwork_of_still (h : t.still = s.still) : t.clockwork = s.clockwork :=
  clockwork_of_kept (congrArg Still.kept h)

theorem clockwork_of_base (h : t.still.base = s.still.base) : t.clockwork = s.clockwork := by
  simp only [State.clockwork, Kept.clockwork, Still.kept, h]

@[simp] theorem settle_clockwork (s : State) : (settle s).clockwork = s.clockwork := clockwork_of_still (settle_still s)

@[simp] theorem feedInterval_kept (p : Proj) (s : State) : (feedInterval p s).still.kept = s.still.kept := by
  simp [feedInterval]

/-! ## Orders and the bytes of a line (R153 to R157) -/

theorem takeOrder_clockwork (l : Line) (o : Order) (s : State) : (takeOrder l o s).clockwork = s.clockwork := by
  have replied (r : Reply) : (reply l r s).clockwork = s.clockwork := clockwork_of_base (reply_base l r s)
  unfold takeOrder
  split
  · exact clockwork_of_base (takeRead_base l _ _ s)
  · dsimp only
    split_ifs
    · exact (clockwork_of_kept (applyOrder_kept l _ _)).trans (replied _)
    · exact replied _

theorem takeOne_clockwork (l : Line) (s : State) : (takeOne l s).clockwork = s.clockwork := by
  unfold takeOne
  split
  · rfl
  · split_ifs
    · rw [settle_clockwork, takeOrder_clockwork]
      rfl
    · rfl

theorem takeAll_clockwork (l : Line) (s : State) : (takeAll l s).clockwork = s.clockwork := by
  rw [takeAll, takeOne_clockwork, takeOne_clockwork]

theorem arrive_clockwork (l : Line) (o : Order) (s : State) : (arrive l o s).clockwork = s.clockwork := by
  unfold arrive
  split_ifs
  · rw [takeAll_clockwork]
    rfl
  · rfl
  · rfl

theorem wholeFrame_clockwork (l : Line) (m : Option Partial) (got : List Byte) (s : State) :
    (wholeFrame l m got s).clockwork = s.clockwork := by
  have sound (b : Byte) (params : List Byte) : (soundFrame l m b params s).clockwork = s.clockwork := by
    unfold soundFrame
    dsimp only
    split_ifs
    · rfl
    · rfl
    · rw [arrive_clockwork]
      rfl
  unfold wholeFrame
  split_ifs
  · split
    · exact sound _ _
    · rfl
  · rfl

theorem feedByte_clockwork (l : Line) (b : Byte) (s : State) : (feedByte l b s).clockwork = s.clockwork := by
  unfold feedByte
  split
  · split_ifs <;> rfl
  · unfold frameByte
    split
    · rfl
    · split_ifs
      · rfl
      · rfl
      · exact wholeFrame_clockwork l _ _ s
  · split_ifs <;> rfl

theorem feedBytes_clockwork (l : Line) (bytes : List Byte) (s : State) : (feedBytes l bytes s).clockwork = s.clockwork := by
  unfold feedBytes
  induction bytes generalizing s with
  | nil => rfl
  | cons b bs ih => exact (ih (feedByte l b s)).trans (feedByte_clockwork l b s)

theorem messageSent_clockwork (l : Line) (s : State) : (messageSent l s).clockwork = s.clockwork := by
  unfold messageSent
  split
  · rw [takeAll_clockwork]
    rfl
  · rfl

/-! ## The passing of time (R166, R168)

One stamp unit, one booth tick and one advance of booth time, on the clocks alone. -/

def Clockwork.stamped (k : Clockwork) : Clockwork :=
  { k with stampTimer := (k.stampTimer + 1) % Config.stampWrap, stampSub := k.stampSub + 1 }

def Clockwork.advanced (k : Clockwork) : Clockwork := { k with boothTime := k.boothTime + 1, tickCount := 0, stampSub := 0 }

def Clockwork.ticked (k : Clockwork) : Clockwork :=
  if 9 ≤ k.tickCount then k.advanced else { k with tickCount := k.tickCount + 1, stampSub := 0 }

theorem stampAdvance_clockwork (s : State) : (stampAdvance s).clockwork = s.clockwork.stamped := rfl

theorem advanceBoothTime_clockwork (s : State) : (advanceBoothTime s).clockwork = s.clockwork.advanced := rfl

theorem advanceWithWaits_clockwork (s : State) : (advanceWithWaits s).clockwork = s.clockwork.advanced := by
  rw [advanceWithWaits, clockwork_of_kept (boothWaits_kept _), settle_clockwork, advanceBoothTime_clockwork]

theorem persistTick_kept (p : Proj) (s : State) : (persistTick p s).still.kept = s.still.kept := by
  unfold persistTick
  split
  · rfl
  · dsimp only
    split_ifs <;> simp

theorem boothTick_clockwork (s : State) : (boothTick s).clockwork = s.clockwork.ticked := by
  have lines (u : State) : (forEach Line.all lineTick u).clockwork = u.clockwork :=
    forEach_frame _ _ State.clockwork (fun l v => clockwork_of_base (lineTick_base l v)) u
  have timers (u : State) :
      (forEach Proj.all (fun p x => lampTick p (persistTick p (runupTick p x))) u).clockwork = u.clockwork :=
    forEach_frame _ _ State.clockwork (fun p v => by
      rw [clockwork_of_base (lampTick_base p _), clockwork_of_kept (persistTick_kept p _),
        clockwork_of_base (runupTick_base p v)]) u
  have counted (u : State) (n : Nat) :
      ({ u with tickCount := n } : State).clockwork = { u.clockwork with tickCount := n } := rfl
  unfold boothTick Clockwork.ticked
  rw [tickCount_clockwork]
  dsimp only
  split_ifs
  · rw [advanceWithWaits_clockwork, timers, lines]
    rfl
  · rw [counted, timers, lines]
    rfl

/-- The clocks of a running controller go by themselves: one stamp unit, and at a hundred of them a booth tick. -/
theorem idle_clockwork (run : s.running = true) : (idle s).clockwork =
    if 100 ≤ s.stampSub + 1 then s.clockwork.stamped.ticked else s.clockwork.stamped := by
  have limits : (forEach Proj.all channelLimits (stampAdvance s)).clockwork = s.clockwork.stamped :=
    (forEach_frame _ _ State.clockwork (fun p u => clockwork_of_base (channelLimits_base p u)) _).trans
      (stampAdvance_clockwork s)
  have units : (forEach Proj.all channelLimits (stampAdvance s)).stampSub = s.stampSub + 1 := by
    rw [← stampSub_clockwork, limits]
    rfl
  unfold idle
  rw [if_pos run]
  dsimp only
  rw [units]
  split_ifs
  · rw [boothTick_clockwork, limits]
  · exact limits

end Sys2Proof.Machine

end

/-! # Proofs: an idle step counts time (O3) -/

section

namespace Sys2Proof.Machine

theorem Clockwork.ticked_stampSub (k : Clockwork) : k.ticked.stampSub = 0 := by
  unfold ticked
  split_ifs <;> rfl

theorem Clockwork.ticked_stampTimer (k : Clockwork) : k.ticked.stampTimer = k.stampTimer := by
  unfold ticked
  split_ifs <;> rfl

theorem Clockwork.ticked_tickCount (k : Clockwork) :
    k.ticked.tickCount = if 9 ≤ k.tickCount then 0 else k.tickCount + 1 := by
  unfold ticked
  split_ifs <;> rfl

theorem Clockwork.ticked_boothTime (k : Clockwork) :
    k.ticked.boothTime = if 9 ≤ k.tickCount then k.boothTime + 1 else k.boothTime := by
  unfold ticked
  split_ifs <;> rfl

/-- Settles O3: the clocks after an idle step are those of `idle_clockwork`, short of the hundredth unit and at it. -/
theorem idleStepCountsTime : Obligations.IdleStepCountsTime := by
  intro s run empty
  have clocks := idle_clockwork run
  refine ⟨idle s, step_idle s empty, ?_, fun short => ?_, fun full => ?_⟩
  · have timer := congrArg Clockwork.stampTimer clocks
    split_ifs at timer
    · exact timer.trans (Clockwork.ticked_stampTimer _)
    · exact timer
  · rw [if_neg (Nat.not_le.2 short)] at clocks
    exact ⟨congrArg Clockwork.stampSub clocks, congrArg Clockwork.tickCount clocks, congrArg Clockwork.boothTime clocks⟩
  · rw [if_pos full] at clocks
    exact ⟨(congrArg Clockwork.stampSub clocks).trans (Clockwork.ticked_stampSub _),
      (congrArg Clockwork.tickCount clocks).trans (Clockwork.ticked_tickCount _),
      (congrArg Clockwork.boothTime clocks).trans (Clockwork.ticked_boothTime _)⟩

end Sys2Proof.Machine

end

/-! # Proofs: every command answers, and out of run only the supply commands act (O2)

A command that is no supply command is something done while the controller runs, and but for the advance that something leaves
the clocks alone. -/

section

namespace Sys2Proof.Machine

variable {c : Instr}

theorem whileRunning_stopped {s : State} (stopped : s.running = false) (f : State → State) : whileRunning f s = s :=
  if_neg (by simp [stopped])

/-- An order that completes out of run is lost, which `arrive` tests itself. -/
theorem whileRunning_arrive (l : Line) (o : Order) (s : State) : whileRunning (arrive l o) s = arrive l o s := by
  unfold whileRunning arrive
  split_ifs <;> rfl

theorem exec_eq_whileRunning (plain : isSupplyCommand c = false) (other : c ≠ .boothTimeAdvance) :
    ∃ f : State → State, (∀ s, exec c s = .next (whileRunning f s)) ∧ ∀ s, (f s).clockwork = s.clockwork := by
  have events {g : State → State} (row : ∀ s, exec c s = .next (event g s))
      (kept : ∀ s, (g s).still.kept = s.still.kept) :
      ∃ f : State → State, (∀ s, exec c s = .next (whileRunning f s)) ∧ ∀ s, (f s).clockwork = s.clockwork :=
    ⟨fun s => settle (g s), row, fun s => (settle_clockwork (g s)).trans (clockwork_of_kept (kept s))⟩
  cases order : orderOfInstr c with
  | some lo =>
    obtain ⟨l, o⟩ := lo
    exact ⟨arrive l o, fun s => by rw [exec_order order, whileRunning_arrive], arrive_clockwork l o⟩
  | none =>
    cases c <;> try (cases order; done)
    all_goals try (cases plain; done)
    case boothTimeAdvance => exact absurd rfl other
    case frameReceived l bytes => exact ⟨feedBytes l bytes, fun _ => rfl, feedBytes_clockwork l bytes⟩
    case messageSent l => exact ⟨messageSent l, fun _ => rfl, messageSent_clockwork l⟩
    case frameTimeLimit | gapTimeLimit | lineBreak | byteError =>
      exact ⟨_, fun _ => rfl, fun _ => clockwork_of_base (by simp)⟩
    case perforationPulse => exact events (fun _ => rfl) (fun _ => by split <;> simp)
    case breakWindow | coastLimit | strikeLate | fireSourceInput | upSwitchChange =>
      exact events (fun _ => rfl) (fun _ => by simp)
    -- the rows that act only where their own guard holds
    all_goals exact events (fun _ => rfl) (fun _ => by split_ifs <;> simp)

theorem exec_boothTimeAdvance_eq (s : State) : exec .boothTimeAdvance s = .next (whileRunning advanceWithWaits s) := rfl

/-- Out of run, and while RESET holds, no command but the supply rows has any effect (R166, R169, R170). -/
theorem exec_of_stopped {s : State} (plain : isSupplyCommand c = false) (stopped : s.running = false) :
    exec c s = .next s := by
  by_cases advance : c = .boothTimeAdvance
  · rw [advance, exec_boothTimeAdvance_eq, whileRunning_stopped stopped]
  · obtain ⟨f, row, -⟩ := exec_eq_whileRunning plain advance
    rw [row, whileRunning_stopped stopped]

theorem step_of_stopped {s : State} (stopped : s.running = false) (empty : s.pending = []) : step s = .next s := by
  rw [step_idle s empty, idle, if_neg (by simp [stopped])]

/-- A command that is no supply row leaves the clocks, or advances booth time. -/
theorem exec_clockwork (plain : isSupplyCommand c = false) (s : State) :
    ∃ t, exec c s = .next t ∧
      (t.clockwork = s.clockwork ∨ c = .boothTimeAdvance ∧ t.clockwork = s.clockwork.advanced) := by
  cases run : s.running with
  | false => exact ⟨s, exec_of_stopped plain run, Or.inl rfl⟩
  | true =>
    by_cases advance : c = .boothTimeAdvance
    · refine ⟨advanceWithWaits s, ?_, Or.inr ⟨advance, advanceWithWaits_clockwork s⟩⟩
      rw [advance, exec_boothTimeAdvance_eq, whileRunning_running run]
    · obtain ⟨f, row, kept⟩ := exec_eq_whileRunning plain advance
      exact ⟨f s, by rw [row, whileRunning_running run], Or.inl (kept s)⟩

/-- A supply row answers and leaves the waiting commands: neither the reset values nor the loss of the store touch them. -/
theorem exec_supply_pending (supply : isSupplyCommand c = true) (s : State) :
    ∃ t, exec c s = .next t ∧ t.pending = s.pending := by
  cases c <;> try (cases supply; done)
  all_goals refine ⟨_, rfl, ?_⟩
  case sgoodFall vsb =>
    unfold sgoodFalls
    split
    · rfl
    · cases vsb <;> rfl
  case sgoodRise vsb =>
    unfold sgoodRises
    split
    · rfl
    · cases vsb <;> dsimp only <;> split_ifs <;> rfl
  case vsbLoss =>
    unfold vsbLost
    split <;> rfl
  case panelReset =>
    unfold resetRises
    split_ifs
    · rfl
    · split <;> rfl
  case resetFall => rfl

/-- Settles O2: a supply row by its branches, every other command by what it leaves of the clocks. -/
theorem everyCommandAnswers : Obligations.EveryCommandAnswers := by
  refine ⟨fun c s => ?_, fun s stopped => ⟨fun c plain => exec_of_stopped plain stopped, step_of_stopped stopped⟩⟩
  cases kind : isSupplyCommand c with
  | true =>
    obtain ⟨t, row, waiting⟩ := exec_supply_pending kind s
    exact ⟨t, row, waiting, nofun⟩
  | false =>
    obtain ⟨t, row, same | ⟨advance, advanced⟩⟩ := exec_clockwork kind s
    · exact ⟨t, row, congrArg Clockwork.pending same, fun _ => ⟨congrArg Clockwork.supply same,
        congrArg Clockwork.resetPin same, congrArg Clockwork.vsb same, congrArg Clockwork.storeValid same,
        congrArg Clockwork.stampTimer same, fun _ => congrArg Clockwork.boothTime same⟩⟩
    · exact ⟨t, row, congrArg Clockwork.pending advanced, fun _ => ⟨congrArg Clockwork.supply advanced,
        congrArg Clockwork.resetPin advanced, congrArg Clockwork.vsb advanced, congrArg Clockwork.storeValid advanced,
        congrArg Clockwork.stampTimer advanced, fun other => absurd advance other⟩⟩

end Sys2Proof.Machine

end

/-! # Proofs: the state after a power-on meets every invariant (O60) -/

section

namespace Sys2Proof.Machine

/-- The reset state is what a power-on leaves of itself. -/
theorem reset_atResetValues : AtResetValues State.reset :=
  powerOn_atResetValues State.reset

/-- Settles O60: the reset state holds the reset values and the defaults, which meet each invariant. -/
theorem resetMeetsTheInvariants : Obligations.ResetMeetsTheInvariants :=
  ⟨linesOk_of_reset rfl, reset_storeOk, wellKept_of_reset rfl defaults_motionOk, demandsOk_of_reset rfl,
    queueOk_of_reset reset_atResetValues, withinCap_of_reset reset_atResetValues,
    fireSafe_of_fireProof (fireProof_of_reset reset_atResetValues)⟩

end Sys2Proof.Machine

end

/-! # Proofs: a step takes the command at the front of the queue (O1) -/

section

namespace Sys2Proof.Machine

/-- Settles O1: the known front of the queue selects the command branch of `step`, as `step_idle` says of the other branch. -/
theorem stepTakesTheFrontCommand : Obligations.StepTakesTheFrontCommand := by
  intro c rest s front
  unfold step
  rw [front]

end Sys2Proof.Machine

end
